-- ==== Sys2Proof/Word.lean ====
section
/-! DEFINITION. The word types of the station: payload words, local times, station numbers. -/

namespace Sys2Proof

/-- A payload word or configuration word: 16 bits, bit 15 the most significant (R150, R177). -/
abbrev Word := BitVec 16

/-- Local time in µs, 32 bits, wrapping (R1 and "Time" of the scope file). -/
abbrev LocalTime := BitVec 32

/-- A source or destination number of a frame: 0 the cell controller, 1..14 stations,
15 the broadcast destination (R149). -/
abbrev StationNo := BitVec 4

/-- A set of eight or sixteen marks, one bit each: interlock inputs (R195) and fault kinds (R187),
and the roster's station numbers (R150). -/
abbrev Marks8 := BitVec 8

/-- Sixteen marks, one bit each. -/
abbrev Marks16 := BitVec 16

end Sys2Proof
end

