-- ==== Sys2Proof/Config.lean ====
section
/-! DEFINITION. What is fixed for every SC416: the limits the spec gives, the units of time, and the two values the spec
leaves open (free values, with no body). -/

namespace Sys2Proof.Config

/-- Highest position, 0.01 mm (scope file, section 6). -/
def maxPosition : Nat := 300000

/-- Highest speed, 0.01 mm/s (scope file, section 6). -/
def maxSpeed : Nat := 5000

/-- Highest power, 0.1 kW (scope file, section 6). -/
def maxPower : Nat := 10000

/-- Top of every 16-bit quantity that saturates or stands for "no limit" (scope file, section 6). -/
def max16 : Nat := 65535

/-- The speed ceiling that means no limit (R79, R129). -/
def noLimit : Nat := 65535

/-- The code that stands for "no previous slice" in a SLICE NOTICE (R84). -/
def noSlice : Nat := 0xFFFF

/-- Top of the slice accumulator, 0.1 J (R81). -/
def maxAccumulator : Nat := 4294967295

/-- Capacity of the pending quench list (R110). -/
def listCapacity : Nat := 48

/-- Capacity of the SLICE class by occupancy (R165). -/
def sliceCapacity : Nat := 8

/-- Capacity of the REPORT class by occupancy (R165). -/
def reportCapacity : Nat := 16

/-- The transmit error count at which the station goes off the line (R154). -/
def lineOffCount : Nat := 32

/-- The receive error count at which FRAME_ERRORS is reported (R156). -/
def frameErrorsCount : Nat := 16

/-- REFCLK ticks of 50 ns in one µs: REFCLK is 20 MHz (scope file, section 5). -/
def ticksPerUs : Nat := 20

/-- REFCLK ticks in one ms. -/
def ticksPerMs : Nat := 20000

/-- Ticks of a tach or flow window, 100 ms (R103, R126). -/
def windowTicks : Nat := 100 * ticksPerMs

/-- Ticks of one tenth of a second, the unit of the scan timer (R42). -/
def tenthTicks : Nat := 100 * ticksPerMs

/-- FREE VALUE. The stage, less one, that a station takes from a SLICE NOTICE whose stage field is 0:
a stage is 1..3 (R83, R110), the field can carry 0 (R150), and no rule says what the station then
takes. Nothing constrains it but its range; the argument is the number of free values drawn before. -/
opaque freeStage : Nat → Fin 3

end Sys2Proof.Config
end

