-- ==== Sys2Proof/Syntax.lean ====
section
/-! DEFINITION. The commands: one constructor of `Instr` for each row of spec/opcode_table.json. -/

namespace Sys2Proof

/-- The role a station is strapped to (R176). -/
inductive Role where
  | travel | power | quench
  deriving DecidableEq, Repr

/-- The frame classes with their codes in order (R149). -/
inductive FrameClass where
  | abort | command | beacon | slice | report
  deriving DecidableEq, Repr

/-- The frame kinds of R149. -/
inductive Kind where
  | abort
  | arm | cycleStart | cycleEnd | clear | stationReset
  | recipeHeader | segment | commit | position | faultQuery
  | beacon | join
  | sliceNotice
  | sliceResult | faultNotice | faultRecord | cycleSummary
  deriving DecidableEq, Repr

/-- The header and payload of a received frame whose kind the command names: source, destination and
the payload words in the order received (R149). -/
structure Rx where
  source : StationNo
  destination : StationNo
  words : List Word
  deriving DecidableEq, Repr

/-- A frame: kind, source, destination and payload words (R149). -/
structure Frame where
  kind : Kind
  source : StationNo
  destination : StationNo
  words : List Word
  deriving DecidableEq, Repr

/-- The six checks of a reception, in the order they are made (R155). -/
inductive RxCheck where
  | framing | length | crc | kind | form | size
  deriving DecidableEq, Repr

/-- The input whose recovery lets an actuator output become active again (R70, R91). -/
inductive ActuatorInput where
  /-- ACT_FAULT goes inactive. -/
  | faultCleared
  /-- ACT_READY goes active. -/
  | readyActive
  deriving DecidableEq, Repr

/-- The commands of spec/opcode_table.json, in its order. The first operand of every command is the
REFCLK ticks since the command before it was taken (DESIGN CHOICE, log entry 2). -/
inductive Instr where
  /-- POWER_ON_RESET: the levels of STN3..STN0 and of ROLE1, ROLE0 at the moment (R176). -/
  | powerOnReset (ticks : Nat) (stn : StationNo) (roleCode : BitVec 2)
  /-- CONFIGURATION_LOAD: the words the memory answered, in order; fewer than 64 when the next one
  was unanswered (R177). -/
  | configurationLoad (ticks : Nat) (memory : List Word)
  /-- POSITION_UPDATE (R2). -/
  | positionUpdate (ticks : Nat)
  /-- ENCODER_EDGE: whether ENC_A rose, and the level of ENC_B (R3). -/
  | encoderEdge (ticks : Nat) (rising encB : Bool)
  /-- HOME_CAPTURE: HOME changes from inactive to active (R5). -/
  | homeCapture (ticks : Nat)
  /-- COAST_TIMER_EXPIRY (R10). -/
  | coastTimerExpiry (ticks : Nat)
  /-- POWER_CONTROL_STEP: the level of LIMIT as the step reads it (R67, R78). -/
  | powerControlStep (ticks : Nat) (limit : Bool)
  /-- FEEDBACK_WORD: the value carried, and whether the word came whole with a good check (R69). -/
  | feedbackWord (ticks : Nat) (value : Nat) (good : Bool)
  /-- TRAVEL_CONTROL_STEP (R90). -/
  | travelControlStep (ticks : Nat)
  /-- STEP_TOGGLE: the step generator's count runs out (R97). -/
  | stepToggle (ticks : Nat)
  /-- TACH_PULSE (R103). -/
  | tachPulse (ticks : Nat)
  /-- TACH_WINDOW_END (R103). -/
  | tachWindowEnd (ticks : Nat)
  /-- QUENCH_CONTROL_STEP (R108). -/
  | quenchControlStep (ticks : Nat)
  /-- SOAK_EXPIRY (R124). -/
  | soakExpiry (ticks : Nat)
  /-- PULSE_PHASE_EXPIRY (R125). -/
  | pulsePhaseExpiry (ticks : Nat)
  /-- FLOW_PULSE (R126). -/
  | flowPulse (ticks : Nat)
  /-- FLOW_WINDOW_END (R126). -/
  | flowWindowEnd (ticks : Nat)
  /-- FLOOD_TIMER_EXPIRY (R127). -/
  | floodTimerExpiry (ticks : Nat)
  /-- ACT_FAULT_ACTIVE (R71). -/
  | actFaultActive (ticks : Nat)
  /-- ACT_READY_INACTIVE (R71). -/
  | actReadyInactive (ticks : Nat)
  /-- ACTUATOR_INPUT_RECOVERY (R70). -/
  | actuatorInputRecovery (ticks : Nat) (input : ActuatorInput)
  /-- INTERLOCK_SAMPLE: bit n set when ILn is at its asserted level (R195). -/
  | interlockSample (ticks : Nat) (pins : Marks8)
  /-- ABORT (R60). -/
  | abort (ticks : Nat) (frame : Rx)
  /-- ARM (R46). -/
  | arm (ticks : Nat) (frame : Rx)
  /-- CYCLE_START (R49). -/
  | cycleStart (ticks : Nat) (frame : Rx)
  /-- START_TIMER_EXPIRY (R53). -/
  | startTimerExpiry (ticks : Nat)
  /-- CYCLE_END (R59). -/
  | cycleEnd (ticks : Nat) (frame : Rx)
  /-- CLEAR (R65). -/
  | clear (ticks : Nat) (frame : Rx)
  /-- STATION_RESET (R184). -/
  | stationReset (ticks : Nat) (frame : Rx)
  /-- RECIPE_HEADER (R22). -/
  | recipeHeader (ticks : Nat) (frame : Rx)
  /-- SEGMENT (R23). -/
  | segment (ticks : Nat) (frame : Rx)
  /-- COMMIT (R24). -/
  | commit (ticks : Nat) (frame : Rx)
  /-- POSITION (R99). -/
  | position (ticks : Nat) (frame : Rx)
  /-- FAULT_QUERY (R194). -/
  | faultQuery (ticks : Nat) (frame : Rx)
  /-- BEACON (R136). -/
  | beacon (ticks : Nat) (frame : Rx)
  /-- JOIN (R135). -/
  | join (ticks : Nat) (frame : Rx)
  /-- SLICE_NOTICE (R112). -/
  | sliceNotice (ticks : Nat) (frame : Rx)
  /-- FRAME_NOT_ACCEPTED: the frame's kind, header and payload (R157, R158). -/
  | frameNotAccepted (ticks : Nat) (kind : Kind) (frame : Rx)
  /-- DISCARDED_FRAME: the check that failed (R155). -/
  | discardedFrame (ticks : Nat) (failed : RxCheck)
  /-- DUPLICATE_FRAME: the kind of the frame whose source is the station's own number (R159). -/
  | duplicateFrame (ticks : Nat) (kind : Kind)
  /-- LINE_IDLE (R147). -/
  | lineIdle (ticks : Nat)
  /-- SENT_WHOLE (R170). -/
  | sentWhole (ticks : Nat)
  /-- LOST_CONTENTION (R152). -/
  | lostContention (ticks : Nat)
  /-- ABANDONED (R153). -/
  | abandoned (ticks : Nat)
  /-- BEACON_TIMER_EXPIRY (R172). -/
  | beaconTimerExpiry (ticks : Nat)
  /-- JOIN_TIMER_EXPIRY (R174). -/
  | joinTimerExpiry (ticks : Nat)
  /-- JOIN_WINDOW_END (R183). -/
  | joinWindowEnd (ticks : Nat)
  /-- STALENESS_TIMER_EXPIRY: the number of the peer (R139). -/
  | stalenessTimerExpiry (ticks : Nat) (peer : StationNo)
  /-- RECEPTION_START (R155). -/
  | receptionStart (ticks : Nat)
  deriving DecidableEq, Repr

/-- The REFCLK ticks since the command before it: the first operand of every command. -/
def Instr.ticks : Instr → Nat
  | .powerOnReset ticks _ _ => ticks
  | .configurationLoad ticks _ => ticks
  | .positionUpdate ticks => ticks
  | .encoderEdge ticks _ _ => ticks
  | .homeCapture ticks => ticks
  | .coastTimerExpiry ticks => ticks
  | .powerControlStep ticks _ => ticks
  | .feedbackWord ticks _ _ => ticks
  | .travelControlStep ticks => ticks
  | .stepToggle ticks => ticks
  | .tachPulse ticks => ticks
  | .tachWindowEnd ticks => ticks
  | .quenchControlStep ticks => ticks
  | .soakExpiry ticks => ticks
  | .pulsePhaseExpiry ticks => ticks
  | .flowPulse ticks => ticks
  | .flowWindowEnd ticks => ticks
  | .floodTimerExpiry ticks => ticks
  | .actFaultActive ticks => ticks
  | .actReadyInactive ticks => ticks
  | .actuatorInputRecovery ticks _ => ticks
  | .interlockSample ticks _ => ticks
  | .abort ticks _ => ticks
  | .arm ticks _ => ticks
  | .cycleStart ticks _ => ticks
  | .startTimerExpiry ticks => ticks
  | .cycleEnd ticks _ => ticks
  | .clear ticks _ => ticks
  | .stationReset ticks _ => ticks
  | .recipeHeader ticks _ => ticks
  | .segment ticks _ => ticks
  | .commit ticks _ => ticks
  | .position ticks _ => ticks
  | .faultQuery ticks _ => ticks
  | .beacon ticks _ => ticks
  | .join ticks _ => ticks
  | .sliceNotice ticks _ => ticks
  | .frameNotAccepted ticks _ _ => ticks
  | .discardedFrame ticks _ => ticks
  | .duplicateFrame ticks _ => ticks
  | .lineIdle ticks => ticks
  | .sentWhole ticks => ticks
  | .lostContention ticks => ticks
  | .abandoned ticks => ticks
  | .beaconTimerExpiry ticks => ticks
  | .joinTimerExpiry ticks => ticks
  | .joinWindowEnd ticks => ticks
  | .stalenessTimerExpiry ticks _ => ticks
  | .receptionStart ticks => ticks

/-- The command with other ticks before it. -/
def Instr.after (ticks : Nat) : Instr → Instr
  | .powerOnReset _ stn roleCode => .powerOnReset ticks stn roleCode
  | .configurationLoad _ memory => .configurationLoad ticks memory
  | .positionUpdate _ => .positionUpdate ticks
  | .encoderEdge _ rising encB => .encoderEdge ticks rising encB
  | .homeCapture _ => .homeCapture ticks
  | .coastTimerExpiry _ => .coastTimerExpiry ticks
  | .powerControlStep _ limit => .powerControlStep ticks limit
  | .feedbackWord _ value good => .feedbackWord ticks value good
  | .travelControlStep _ => .travelControlStep ticks
  | .stepToggle _ => .stepToggle ticks
  | .tachPulse _ => .tachPulse ticks
  | .tachWindowEnd _ => .tachWindowEnd ticks
  | .quenchControlStep _ => .quenchControlStep ticks
  | .soakExpiry _ => .soakExpiry ticks
  | .pulsePhaseExpiry _ => .pulsePhaseExpiry ticks
  | .flowPulse _ => .flowPulse ticks
  | .flowWindowEnd _ => .flowWindowEnd ticks
  | .floodTimerExpiry _ => .floodTimerExpiry ticks
  | .actFaultActive _ => .actFaultActive ticks
  | .actReadyInactive _ => .actReadyInactive ticks
  | .actuatorInputRecovery _ input => .actuatorInputRecovery ticks input
  | .interlockSample _ pins => .interlockSample ticks pins
  | .abort _ frame => .abort ticks frame
  | .arm _ frame => .arm ticks frame
  | .cycleStart _ frame => .cycleStart ticks frame
  | .startTimerExpiry _ => .startTimerExpiry ticks
  | .cycleEnd _ frame => .cycleEnd ticks frame
  | .clear _ frame => .clear ticks frame
  | .stationReset _ frame => .stationReset ticks frame
  | .recipeHeader _ frame => .recipeHeader ticks frame
  | .segment _ frame => .segment ticks frame
  | .commit _ frame => .commit ticks frame
  | .position _ frame => .position ticks frame
  | .faultQuery _ frame => .faultQuery ticks frame
  | .beacon _ frame => .beacon ticks frame
  | .join _ frame => .join ticks frame
  | .sliceNotice _ frame => .sliceNotice ticks frame
  | .frameNotAccepted _ kind frame => .frameNotAccepted ticks kind frame
  | .discardedFrame _ failed => .discardedFrame ticks failed
  | .duplicateFrame _ kind => .duplicateFrame ticks kind
  | .lineIdle _ => .lineIdle ticks
  | .sentWhole _ => .sentWhole ticks
  | .lostContention _ => .lostContention ticks
  | .abandoned _ => .abandoned ticks
  | .beaconTimerExpiry _ => .beaconTimerExpiry ticks
  | .joinTimerExpiry _ => .joinTimerExpiry ticks
  | .joinWindowEnd _ => .joinWindowEnd ticks
  | .stalenessTimerExpiry _ peer => .stalenessTimerExpiry ticks peer
  | .receptionStart _ => .receptionStart ticks

/-- The received frame of a kind, as a frame. -/
def Rx.toFrame (k : Kind) (r : Rx) : Frame :=
  { kind := k, source := r.source, destination := r.destination, words := r.words }

end Sys2Proof
end

