-- ==== Sys2Proof/Machine/State.lean ====
section
/-! DEFINITION. The state of a station, block by block, as plain data; the reasons a step can stop; and the
state while the station is held in reset. -/

namespace Sys2Proof.Machine

/-! ## Names of the spec -/

/-- The nine station states (file 03, section 3.1). -/
inductive StationState where
  | offline | joining | idle | armed | starting | scanning | done | aborted | silent
  deriving DecidableEq, Repr

/-- Scan direction: shaft coordinate increasing (UP) or decreasing (DOWN). -/
inductive Dir where
  | up | down
  deriving DecidableEq, Repr

/-- The result codes of R45. -/
inductive ResultCode where
  | accepted | refusedState | refusedRange | refusedStaging | refusedRoster | refusedInterlock
  | refusedNotReady | refusedGeometry | refusedConflict | refusedNotHomed
  deriving DecidableEq, Repr

/-- The sixteen fault kinds of R187, in the order of their numbers. -/
inductive FaultKind where
  | configBad | duplicateStation | roleConflict | lineOff | peerLost | coastExpired | startTimeout
  | interlockTrip | actuatorFault | spinLost | flowLow | trailFull | sliceReject | noticeLost
  | txOverflow | frameErrors
  deriving DecidableEq, Repr

/-- Where the tool stands against the scan range (R15); UNSET while there is no valid active copy (R14). -/
inductive Zone where
  | unset | before | inside (slice : Nat) | past
  deriving DecidableEq, Repr

/-- How a cycle ended for this station (R42). -/
inductive EndKind where
  | normal | shortTravel
  deriving DecidableEq, Repr

/-- The state of the staging copy (R20). -/
inductive StagingState where
  | empty | filling | valid | bad
  deriving DecidableEq, Repr

/-- The checks of a COMMIT (R25). -/
inductive CommitCheck where
  | count | presence | sum | range | order | coverage
  deriving DecidableEq, Repr

/-- A class named by an entry of the phase table (R169). -/
inductive PhaseClass where
  | beacon | slice | report
  deriving DecidableEq, Repr

/-- The pulse phase of a quench ring (R125). -/
inductive PulsePhase where
  | idle | on | off
  deriving DecidableEq, Repr

/-- Where the Configuration Loader stands: RST_N not yet released, reading, or the load's outcome (R176, R180). -/
inductive LoaderStatus where
  | held | loading | good | bad
  deriving DecidableEq, Repr

/-- The bit rate of the line (R147). -/
inductive LineRate where
  | mbit1 | mbit2 | mbit4
  deriving DecidableEq, Repr

/-- A timer: stopped, or the REFCLK ticks it has left. -/
abbrev Timer := Option Nat

/-! ## The blocks -/

/-- The station's clock: local time and the REFCLK ticks (0..19) since its last whole µs. -/
structure Clock where
  time : LocalTime
  sub : Nat
  deriving DecidableEq, Repr

/-- Levels of the inputs that are read as levels. `true` is active. -/
structure Pins where
  /-- ACT_READY (R70, R91, R129). -/
  actReady : Bool
  /-- ACT_FAULT (R70, R91, R129). -/
  actFault : Bool
  /-- LIMIT as the latest power control step read it (R78). -/
  limit : Bool
  /-- ENC_A as the latest edge left it (R3). -/
  encA : Bool
  /-- ENC_B at the latest edge of ENC_A (R3). -/
  encB : Bool
  deriving DecidableEq, Repr

/-- Configuration Loader: strapped values and memory image (R176, R177). -/
structure Loader where
  number : StationNo
  roleCode : BitVec 2
  image : List Word
  status : LoaderStatus
  deriving DecidableEq, Repr

/-- The configured values a good load hands to the blocks (R178, R180). -/
structure Settings where
  /-- 1, 2, 3 for 1, 2, 4 Mbit/s. -/
  lineRateCode : Nat
  /-- In 100 µs. -/
  beaconPeriod : Nat
  /-- In ms. -/
  stalenessLimit : Nat
  /-- In ms. -/
  coastLimit : Nat
  /-- In ms. -/
  startTimeout : Nat
  toolOffset : Int
  stage : Nat
  ratedPower : Nat
  rampLimit : Nat
  ratedSpeed : Nat
  acceleration : Nat
  abortDecel : Nat
  umPerCount : Nat
  homePosition : Nat
  tachPulses : Nat
  flowMinimum : Nat
  /-- In ms. -/
  settleTime : Nat
  sprayLead : Nat
  /-- In ms. -/
  soakTime : Nat
  /-- In ms. -/
  floodTime : Nat
  /-- Bit n masks kind n (R187). -/
  mask : Marks16
  /-- Bit n makes kind n fatal (R187). -/
  severity : Marks16
  /-- Bit n lets kind n assert ATTN (R187). -/
  attention : Marks16
  /-- Bit n turns the sense of input n (R195). -/
  polarity : Marks8
  groupA : Marks8
  groupB : Marks8
  /-- Sixteen entries (R169). -/
  phaseTable : List PhaseClass
  deriving DecidableEq, Repr

/-- Cycle Control (R42) and the join window (R182). -/
structure Cycle where
  state : StationState
  number : Nat
  /-- Bit n marks station n (R150). -/
  roster : Marks16
  startTimer : Timer
  /-- Scan timer in 0.1 s (R42). -/
  scanTenths : Nat
  /-- REFCLK ticks within the current tenth: the model's own field. -/
  scanTicks : Nat
  endKind : Option EndKind
  /-- Last command result: kind and code (R45). -/
  last : Option (Kind × ResultCode)
  joinWindow : Timer
  deriving DecidableEq, Repr

/-- The last TRAVEL beacon: C_b, v_b, t_b (R8). -/
structure TravelBeacon where
  position : Nat
  speed : Nat
  time : LocalTime
  deriving DecidableEq, Repr

/-- A crossing record (R16). -/
structure Crossing where
  previous : Zone
  current : Zone
  /-- Slice boundaries crossed. -/
  k : Nat
  /-- Slices left, in scan order. -/
  left : List Nat
  deriving DecidableEq, Repr

/-- Position Tracker (file 01, section 1.1; R18). -/
structure Tracker where
  /-- Encoder count, signed 32 bits, wrapping (R3). -/
  count : BitVec 32
  referenced : Bool
  outOfRange : Bool
  /-- Net edges counted since the latest position update (R6). -/
  periodEdges : Int
  /-- Net counts of the ten latest control periods, newest first (R6). -/
  window : List Int
  measured : Nat
  tracked : Option StationNo
  last : Option TravelBeacon
  coastTimer : Timer
  coastExpired : Bool
  raw : Nat
  held : Nat
  estimate : Nat
  tool : Nat
  zone : Zone
  sliceCount : Nat
  /-- The seeding update of R12 is still to come. -/
  seedDue : Bool
  /-- Crossing record of the latest position update (R2). -/
  crossing : Option Crossing
  deriving DecidableEq, Repr

/-- The fields of a recipe header (file 02, section 2.1). -/
structure Header where
  recipe : Nat
  direction : Dir
  scanStart : Nat
  scanEnd : Nat
  sliceLength : Nat
  travelStart : Nat
  travelEnd : Nat
  spindle : Nat
  segmentCount : Nat
  deriving DecidableEq, Repr

/-- The quench fields of a segment (file 02, section 2.2). `mode` is the code as received. -/
structure QuenchFields where
  mode : Nat
  onTime : Nat
  offTime : Nat
  delayMin : Nat
  delayMax : Nat
  energyLow : Nat
  energyHigh : Nat
  deriving DecidableEq, Repr

/-- The fields of one role. -/
inductive RoleFields where
  | travel (speed : Nat)
  | power (heat : Bool) (energy : Nat)
  | quench (fields : QuenchFields)
  deriving DecidableEq, Repr

/-- A segment [start, stop) with its blend and the fields of its role. -/
structure Segment where
  index : Nat
  start : Nat
  stop : Nat
  blend : Nat
  fields : RoleFields
  deriving DecidableEq, Repr

/-- A staged header: its fields and its payload words (R20). -/
structure StagedHeader where
  header : Header
  words : List Word
  deriving DecidableEq, Repr

/-- A staged segment: its fields and its payload words (R20). -/
structure StagedSegment where
  segment : Segment
  words : List Word
  deriving DecidableEq, Repr

/-- The check that failed, and the index at which it failed (R20). -/
structure CheckResult where
  check : CommitCheck
  index : Option Nat
  deriving DecidableEq, Repr

/-- The kinds of clamp applied (R33). -/
structure ClampSet where
  speed : Bool
  blend : Bool
  pulse : Bool
  deriving DecidableEq, Repr

/-- The staging copy (R20). `segments` are in ascending index order. -/
structure Staging where
  state : StagingState
  header : Option StagedHeader
  segments : List StagedSegment
  check : Option CheckResult
  clamps : Option ClampSet
  /-- The segments as clamped, held alongside in VALID (R33). -/
  clamped : List Segment
  deriving DecidableEq, Repr

/-- A valid active copy (R35). -/
structure ActiveCopy where
  header : Header
  segments : List Segment
  deriving DecidableEq, Repr

/-- Profile Store (R20, R35). `active = none` is an invalid active copy. -/
structure Store where
  staging : Staging
  active : Option ActiveCopy
  deriving DecidableEq, Repr

/-- Power Engine (R89). -/
structure Power where
  feedback : Nat
  /-- Specific energy at the tool as the latest step took it (R72). -/
  energy : Nat
  /-- Carriage speed v_c as the latest step took it (R73). -/
  speed : Nat
  /-- P_avail of the latest step (R78). -/
  available : Nat
  target : Nat
  command : Nat
  clamped : Bool
  clampedSeen : Bool
  ceiling : Nat
  /-- Current slice (R81). -/
  current : Option Nat
  /-- Slice accumulator, 0.1 J (R81). -/
  acc : Nat
  /-- Chain link (R84). -/
  link : Option Nat
  /-- Notices-queued count (R83). -/
  notices : Nat
  /-- Crossing records handed and not yet taken, oldest first (R82). -/
  inbox : List Crossing
  /-- The latest word sent on SETPOINT (R68). -/
  setpoint : Option Nat
  /-- How many setpoint words have been sent: the model's own field. -/
  sent : Nat
  deriving DecidableEq, Repr

/-- A POSITION move in flight (R99). `ahead`: the target lay ahead of the carriage in the direction of DIR
when the move was last looked at (log entry 12). -/
structure Move where
  target : Nat
  speed : Nat
  ahead : Bool
  deriving DecidableEq, Repr

/-- Travel Engine (R107). -/
structure Travel where
  target : Nat
  command : Nat
  /-- Prescaler and preset loaded last; none asks for no steps (R96). -/
  load : Option (Nat × Nat)
  /-- The half-period of STEP under way, in ticks left; none when the generator has stopped (R97). -/
  half : Timer
  /-- Ticks to the first toggle after the command rose from 0 while an older half-period still ran with STEP active; none
  otherwise (R97, log entry 46). -/
  rise : Timer
  step : Bool
  dir : Dir
  move : Option Move
  spindleHold : Bool
  tachCount : Nat
  tachWindow : Timer
  rpm : Nat
  atSpeed : Bool
  deriving DecidableEq, Repr

/-- An entry of the pending quench list (R110). -/
structure Entry where
  slice : Nat
  /-- (stage, E_slice) in ascending stage order. -/
  energies : List (Nat × Nat)
  tFirst : Option LocalTime
  tHeat : Option LocalTime
  heated : Bool
  lost : Bool
  deriving DecidableEq, Repr

/-- Quench Engine (R131). -/
structure Quench where
  /-- The pending quench list, in ascending slice order. -/
  entries : List Entry
  finalStage : Option Nat
  /-- Judged-through index J (R112). -/
  judged : Option Nat
  /-- Last-notice records, one for each station number 0..15 (R113). -/
  lastNotice : List (Option Nat)
  nCreated : Nat
  nJudged : Nat
  nFlushed : Nat
  nGood : Nat
  nRejected : Nat
  nLate : Nat
  runout : Bool
  soak : Timer
  pulse : PulsePhase
  pulseTimer : Timer
  spray : Bool
  flood : Bool
  floodTimer : Timer
  /-- Ticks SPRAY has been open in CONTINUOUS mode; none when stopped at 0 (R126). -/
  openTime : Option Nat
  flowCount : Nat
  flowWindow : Timer
  ceiling : Nat
  deriving DecidableEq, Repr

/-- The fault summary of a station: three marks (R192). -/
structure Summary where
  fatal : Bool
  nonFatal : Bool
  hold : Bool
  deriving DecidableEq, Repr

/-- The role data of a peer entry (R132). -/
inductive RoleData where
  | power (ceiling : Nat)
  | quench (ceiling : Nat) (flood : Bool)
  deriving DecidableEq, Repr

/-- A peer entry (R132). -/
structure Peer where
  number : StationNo
  role : Role
  stage : Option Nat
  toolOffset : Option Int
  /-- The tool offset of the peer's last JOIN; none when none was heard (R136). -/
  joinOffset : Option Int
  state : StationState
  cycle : Nat
  recipe : Nat
  live : Bool
  /-- The entry returned in STARTING by a frame other than a BEACON or JOIN, and holds the start barrier open until the
  next of them (R140, log entry 47). -/
  awaitsBeacon : Bool
  lastFrame : LocalTime
  lastBeacon : Option LocalTime
  summary : Summary
  data : Option RoleData
  /-- Staleness timer; none while LOST (R138). -/
  stale : Timer
  deriving DecidableEq, Repr

/-- The offered frame and the phase entry it was chosen from (R165, R171). -/
structure Offer where
  frame : Frame
  entry : Nat
  deriving DecidableEq, Repr

/-- Transmit Scheduler (R165, R175). -/
structure Sched where
  abortQ : Option Frame
  beaconQ : Option Frame
  sliceQ : List Frame
  reportQ : List Frame
  offered : Option Offer
  phasePtr : Nat
  dropCount : Nat
  beaconTimer : Timer
  joinTimer : Timer
  /-- A refresh fell due for the offered BEACON during its attempt, and acts on a later attempt (R172). -/
  refreshDue : Bool
  deriving DecidableEq, Repr

/-- What the receiver does with the frame on the line (R153, R155). -/
inductive Reception where
  /-- No reception: the line is idle or the receiver waits for it to go idle. -/
  | waiting
  /-- A reception is under way in the receive buffer. -/
  | receiving
  /-- The frame is the station's own, sent whole or abandoned: the receiver ignores it until the line is idle. -/
  | ownFrame
  deriving DecidableEq, Repr

/-- Line Interface (R164). -/
structure Line where
  rate : LineRate
  idle : Bool
  rx : Reception
  /-- The fixed copy of the frame in transmission (R151). -/
  attempt : Option Frame
  txErr : Nat
  rxErr : Nat
  dupSeen : Bool
  deriving DecidableEq, Repr

/-- A captured frame header: class, source and kind; the kind gives the class (R187). -/
structure Captured where
  source : StationNo
  kind : Kind
  deriving DecidableEq, Repr

/-- A peer snapshot (R145). -/
structure Snapshot where
  role : Role
  state : StationState
  cycle : Nat
  recipe : Nat
  live : Bool
  summary : Summary
  /-- Age of the last beacon, ms, saturating. -/
  age : Nat
  deriving DecidableEq, Repr

/-- The first-fault record (R189). -/
structure FaultRecord where
  kind : FaultKind
  time : LocalTime
  cycle : Nat
  state : StationState
  estimate : Nat
  related : Option StationNo
  captured : Option Captured
  snapshot : Option Snapshot
  deriving DecidableEq, Repr

/-- The abort cause (R191). -/
inductive AbortCause where
  | fault (kind : FaultKind)
  | abortFrom (source : StationNo)
  deriving DecidableEq, Repr

/-- Fault Unit (R188 to R191). -/
structure FaultUnit where
  /-- Bit n is the latch of kind n. -/
  latches : Marks16
  record : Option FaultRecord
  cause : Option AbortCause
  abortSeen : Nat
  deriving DecidableEq, Repr

/-- Interlock Inputs (R195 to R197). -/
structure Interlock where
  /-- Bit n set when input n is active. -/
  level : Marks8
  /-- The first sample after OFFLINE has been taken (R195). -/
  sampled : Bool
  drop : Marks8
  carried : Marks8
  deriving DecidableEq, Repr

/-- The state of a station: one field for each block of the scope file's section 3, its clock, its
input levels, its settings, the count of free values drawn, and the queue of commands that wait. -/
structure State where
  clock : Clock
  pins : Pins
  loader : Loader
  settings : Settings
  cycle : Cycle
  tracker : Tracker
  store : Store
  power : Power
  travel : Travel
  quench : Quench
  peers : List Peer
  sched : Sched
  line : Line
  fault : FaultUnit
  interlock : Interlock
  freeDraws : Nat
  pending : List Instr
  deriving DecidableEq, Repr

/-- Reasons a step can stop with a fault. The spec names no condition that stops the block (its fault kinds
are latches in State), so there is none; safe, since nothing raises one. -/
inductive Fault where
  deriving DecidableEq, Repr

/-- Reasons a step can be refused. -/
inductive Refusal where
  /-- Raised by exec for a row with no meaning yet; safe, since the machine stops. No arm of exec raises it. -/
  | notModelled (mnemonic : String)
  deriving DecidableEq, Repr

/-! ## Updates, one for each block -/

namespace State

/-- The state with its `clock` replaced. -/
def setClock (v : Clock) (s : State) : State := { s with clock := v }

/-- The state with its `pins` replaced. -/
def setPins (v : Pins) (s : State) : State := { s with pins := v }

/-- The state with its `loader` replaced. -/
def setLoader (v : Loader) (s : State) : State := { s with loader := v }

/-- The state with its `settings` replaced. -/
def setSettings (v : Settings) (s : State) : State := { s with settings := v }

/-- The state with its `cycle` replaced. -/
def setCycle (v : Cycle) (s : State) : State := { s with cycle := v }

/-- The state with its `tracker` replaced. -/
def setTracker (v : Tracker) (s : State) : State := { s with tracker := v }

/-- The state with its `store` replaced. -/
def setStore (v : Store) (s : State) : State := { s with store := v }

/-- The state with its `power` replaced. -/
def setPower (v : Power) (s : State) : State := { s with power := v }

/-- The state with its `travel` replaced. -/
def setTravel (v : Travel) (s : State) : State := { s with travel := v }

/-- The state with its `quench` replaced. -/
def setQuench (v : Quench) (s : State) : State := { s with quench := v }

/-- The state with its `peers` replaced. -/
def setPeers (v : List Peer) (s : State) : State := { s with peers := v }

/-- The state with its `sched` replaced. -/
def setSched (v : Sched) (s : State) : State := { s with sched := v }

/-- The state with its `line` replaced. -/
def setLine (v : Line) (s : State) : State := { s with line := v }

/-- The state with its `fault` replaced. -/
def setFault (v : FaultUnit) (s : State) : State := { s with fault := v }

/-- The state with its `interlock` replaced. -/
def setInterlock (v : Interlock) (s : State) : State := { s with interlock := v }

/-- The state with its `freeDraws` replaced. -/
def setFreeDraws (v : Nat) (s : State) : State := { s with freeDraws := v }

/-- The state with its `pending` replaced. -/
def setPending (v : List Instr) (s : State) : State := { s with pending := v }

end State

/-! ## Reset -/

/-- The default phase table: BEACON, SLICE, SLICE, REPORT four times (R169). -/
def defaultPhaseTable : List PhaseClass :=
  [.beacon, .slice, .slice, .report, .beacon, .slice, .slice, .report,
   .beacon, .slice, .slice, .report, .beacon, .slice, .slice, .report]

/-- The severities of the table of R187: kinds 0..4 and 6..11 fatal. -/
def defaultSeverity : Marks16 := 0x0FDF#16

/-- The settings before a good load: mask clear, default severities, attention enables clear (R187), line at
2 Mbit/s (R147), tool offset and home position taken as 0 (R180), default phase table (R169).
The other values are not given by the spec and are read by no rule before a load: 0 (DESIGN CHOICE, log entry 4). -/
def Settings.beforeLoad : Settings :=
  { lineRateCode := 2, beaconPeriod := 0, stalenessLimit := 0, coastLimit := 0, startTimeout := 0,
    toolOffset := 0, stage := 0, ratedPower := 0, rampLimit := 0, ratedSpeed := 0, acceleration := 0,
    abortDecel := 0, umPerCount := 0, homePosition := 0, tachPulses := 0, flowMinimum := 0,
    settleTime := 0, sprayLead := 0, soakTime := 0, floodTime := 0, mask := 0, severity := defaultSeverity,
    attention := 0, polarity := 0, groupA := 0, groupB := 0, phaseTable := defaultPhaseTable }

/-- Cycle Control after power-on reset (R42). -/
def Cycle.powerOn : Cycle :=
  { state := .offline, number := 0, roster := 0, startTimer := none, scanTenths := 0, scanTicks := 0,
    endKind := none, last := none, joinWindow := none }

/-- The Position Tracker after power-on reset, with home position and tool offset taken as 0 (R18). -/
def Tracker.powerOn : Tracker :=
  { count := 0, referenced := false, outOfRange := false, periodEdges := 0, window := List.replicate 10 0,
    measured := 0, tracked := none, last := none, coastTimer := none, coastExpired := true, raw := 0,
    held := 0, estimate := 0, tool := 0, zone := .unset, sliceCount := 0, seedDue := false, crossing := none }

/-- An empty staging copy (R20). -/
def Staging.cleared : Staging :=
  { state := .empty, header := none, segments := [], check := none, clamps := none, clamped := [] }

/-- The Profile Store after power-on reset (R41). -/
def Store.powerOn : Store := { staging := Staging.cleared, active := none }

/-- The Power Engine after power-on reset (R89). -/
def Power.powerOn : Power :=
  { feedback := 0, energy := 0, speed := 0, available := 0, target := 0, command := 0, clamped := false,
    clampedSeen := false, ceiling := Config.noLimit, current := none, acc := 0, link := none, notices := 0,
    inbox := [], setpoint := none, sent := 0 }

/-- The Travel Engine after power-on reset (R107). -/
def Travel.powerOn : Travel :=
  { target := 0, command := 0, load := none, half := none, rise := none, step := false, dir := .up, move := none,
    spindleHold := false, tachCount := 0, tachWindow := none, rpm := 0, atSpeed := false }

/-- The Quench Engine after power-on reset (R131). -/
def Quench.powerOn : Quench :=
  { entries := [], finalStage := none, judged := none, lastNotice := List.replicate 16 none, nCreated := 0,
    nJudged := 0, nFlushed := 0, nGood := 0, nRejected := 0, nLate := 0, runout := false, soak := none,
    pulse := .idle, pulseTimer := none, spray := false, flood := false, floodTimer := none, openTime := none,
    flowCount := 0, flowWindow := none, ceiling := Config.noLimit }

/-- The Transmit Scheduler after power-on reset (R175). -/
def Sched.powerOn : Sched :=
  { abortQ := none, beaconQ := none, sliceQ := [], reportQ := [], offered := none, phasePtr := 0,
    dropCount := 0, beaconTimer := none, joinTimer := none, refreshDue := false }

/-- The Line Interface after power-on reset (R147, R164). -/
def Line.powerOn : Line :=
  { rate := .mbit2, idle := false, rx := .waiting, attempt := none, txErr := 0, rxErr := 0, dupSeen := false }

/-- The Fault Unit after power-on reset (R193). -/
def FaultUnit.powerOn : FaultUnit := { latches := 0, record := none, cause := none, abortSeen := 0 }

/-- The Interlock Inputs after power-on reset: drop latches clear (R193); no sample yet, so no input is taken
as active (DESIGN CHOICE, log entry 4). -/
def Interlock.powerOn : Interlock := { level := 0, sampled := false, drop := 0, carried := 0 }

/-- The station held in reset: every block at its power-on values, the straps not yet sampled (R176; log entry 3), the memory
image empty (DESIGN CHOICE, log entry 56). -/
def State.reset : State :=
  { clock := { time := 0, sub := 0 },
    pins := { actReady := false, actFault := false, limit := false, encA := false, encB := false },
    loader := { number := 0, roleCode := 0, image := [], status := .held },
    settings := Settings.beforeLoad, cycle := Cycle.powerOn, tracker := Tracker.powerOn, store := Store.powerOn,
    power := Power.powerOn, travel := Travel.powerOn, quench := Quench.powerOn, peers := [],
    sched := Sched.powerOn, line := Line.powerOn, fault := FaultUnit.powerOn, interlock := Interlock.powerOn,
    freeDraws := 0, pending := [] }

end Sys2Proof.Machine
end

