-- ==== Sys2Proof/Machine/Arith.lean ====
section
/-! DEFINITION. The station's arithmetic (R1): clamping, saturating sums, ceiling quotients, square roots,
differences of local times, and timers. -/

namespace Sys2Proof.Machine

/-- The smallest integer not less than `a / b` (R1, "ceil"). -/
def ceilDiv (a b : Nat) : Nat := (a + (b - 1)) / b

/-- `|a - b|` of two naturals. -/
def distance (a b : Nat) : Nat := if a ≤ b then b - a else a - b

/-- A position clamped to 0..300 000 (R1, R13). -/
def clampPosition (z : Int) : Nat := (max 0 (min z (Config.maxPosition : Int))).toNat

/-- A sum that stays at `cap` (R1, "saturating"). -/
def satAdd (cap a b : Nat) : Nat := min cap (a + b)

/-- `now − past` modulo 2^32, in µs (R1). -/
def elapsed (now past : LocalTime) : Nat := (now - past).toNat

/-- The bits `b - 1 .. 0` of the square root of `n`, the higher bits already found in `r`. -/
def isqrtBits (n : Nat) : Nat → Nat → Nat
  | 0, r => r
  | b + 1, r => if (r + 2 ^ b) * (r + 2 ^ b) ≤ n then isqrtBits n b (r + 2 ^ b) else isqrtBits n b r

/-- The truncated square root (R100). -/
def isqrt (n : Nat) : Nat := isqrtBits n (n.log2 / 2 + 1) 0

/-- `command` moved toward `goal` by at most `rate`, in either direction (R94, R100). -/
def moveToward (rate goal command : Nat) : Nat :=
  if command < goal then min (command + rate) goal else max (command - rate) goal

/-! ## Timers -/

/-- The timer after `ticks` more REFCLK ticks; one that has run out stays at 0. -/
def Timer.pass (ticks : Nat) (t : Timer) : Timer := t.map (· - ticks)

/-- The timer has run out. -/
def Timer.due (t : Timer) : Bool := t == some 0

/-- A timer of `n` ms. -/
def timerMs (n : Nat) : Timer := some (n * Config.ticksPerMs)

/-- A timer of `n` µs. -/
def timerUs (n : Nat) : Timer := some (n * Config.ticksPerUs)

/-- A timer of one beacon period, given in 100 µs (R173). -/
def timerBeacon (period : Nat) : Timer := timerUs (period * 100)

end Sys2Proof.Machine
end

