-- ==== Sys2Proof/Machine/Operands.lean ====
section
/-! DEFINITION. The operands of frames: the code values and payload layouts of R149 and R150, read from and
written into payload words, and the form and size checks of R155. -/

namespace Sys2Proof.Machine

/-! ## Fields of words -/

/-- Word `i` of a payload. -/
def wordAt (ws : List Word) (i : Nat) : Word := ws.getD i 0

/-- The field in bits `hi .. lo` of a word (R150). -/
def bitsOf (w : Word) (hi lo : Nat) : Nat := (w.toNat / 2 ^ lo) % 2 ^ (hi + 1 - lo)

/-- A whole-word field. -/
def u16 (ws : List Word) (i : Nat) : Nat := (wordAt ws i).toNat

/-- A 32-bit quantity, high word first (R150). -/
def u32 (ws : List Word) (i : Nat) : Nat := u16 ws i * 65536 + u16 ws (i + 1)

/-- A signed 32-bit quantity, two's complement, high word first (R150). -/
def s32 (ws : List Word) (i : Nat) : Int := (BitVec.ofNat 32 (u32 ws i)).toInt

/-- A position of a station's frame: bits 16..18 in bits 2..0 of word `i`, the low word after it (R150). -/
def position19 (ws : List Word) (i : Nat) : Nat := bitsOf (wordAt ws i) 2 0 * 65536 + u16 ws (i + 1)

/-- `v` placed in the field of `width` bits at bit `lo`. -/
def put (lo width v : Nat) : Nat := v % 2 ^ width * 2 ^ lo

/-- A mark placed at bit `lo`. -/
def putFlag (lo : Nat) (b : Bool) : Nat := if b then 2 ^ lo else 0

/-- A word of the given value. -/
def toWord (n : Nat) : Word := BitVec.ofNat 16 n

/-- The two words of a signed 32-bit quantity, high word first. -/
def wordsOfInt (z : Int) : List Word :=
  [toWord ((BitVec.ofInt 32 z).toNat / 65536), toWord ((BitVec.ofInt 32 z).toNat % 65536)]

/-! ## Codes (R149, R150) -/

def roleCode : Role → Nat
  | .travel => 1
  | .power => 2
  | .quench => 3

def roleOfCode : Nat → Option Role
  | 1 => some .travel
  | 2 => some .power
  | 3 => some .quench
  | _ => none

def stateCode : StationState → Nat
  | .offline => 0
  | .joining => 1
  | .idle => 2
  | .armed => 3
  | .starting => 4
  | .scanning => 5
  | .done => 6
  | .aborted => 7
  | .silent => 8

/-- The station states a BEACON may show: IDLE..ABORTED (R155, FORM). -/
def beaconStateOfCode : Nat → Option StationState
  | 2 => some .idle
  | 3 => some .armed
  | 4 => some .starting
  | 5 => some .scanning
  | 6 => some .done
  | 7 => some .aborted
  | _ => none

def stagingCode : StagingState → Nat
  | .empty => 0
  | .filling => 1
  | .valid => 2
  | .bad => 3

def commitCheckCode : CommitCheck → Nat
  | .count => 1
  | .presence => 2
  | .sum => 3
  | .range => 4
  | .order => 5
  | .coverage => 6

def resultCode : ResultCode → Nat
  | .accepted => 0
  | .refusedState => 1
  | .refusedRange => 2
  | .refusedStaging => 3
  | .refusedRoster => 4
  | .refusedInterlock => 5
  | .refusedNotReady => 6
  | .refusedGeometry => 7
  | .refusedConflict => 8
  | .refusedNotHomed => 9

/-- The number of a fault kind (R187). -/
def faultCode : FaultKind → Nat
  | .configBad => 0
  | .duplicateStation => 1
  | .roleConflict => 2
  | .lineOff => 3
  | .peerLost => 4
  | .coastExpired => 5
  | .startTimeout => 6
  | .interlockTrip => 7
  | .actuatorFault => 8
  | .spinLost => 9
  | .flowLow => 10
  | .trailFull => 11
  | .sliceReject => 12
  | .noticeLost => 13
  | .txOverflow => 14
  | .frameErrors => 15

/-- All fault kinds in the order of their numbers. -/
def allFaultKinds : List FaultKind :=
  [.configBad, .duplicateStation, .roleConflict, .lineOff, .peerLost, .coastExpired, .startTimeout,
   .interlockTrip, .actuatorFault, .spinLost, .flowLow, .trailFull, .sliceReject, .noticeLost,
   .txOverflow, .frameErrors]

def endKindCode : EndKind → Nat
  | .normal => 0
  | .shortTravel => 1

/-- The kind codes of the table of R149. -/
def kindCode : Kind → Nat
  | .abort => 1
  | .arm => 8
  | .cycleStart => 9
  | .cycleEnd => 10
  | .clear => 11
  | .stationReset => 12
  | .recipeHeader => 16
  | .segment => 17
  | .commit => 18
  | .position => 20
  | .faultQuery => 24
  | .beacon => 32
  | .join => 33
  | .sliceNotice => 40
  | .sliceResult => 48
  | .faultNotice => 49
  | .faultRecord => 50
  | .cycleSummary => 51

/-- The kinds of the table of R149. -/
def allKinds : List Kind :=
  [.abort, .arm, .cycleStart, .cycleEnd, .clear, .stationReset, .recipeHeader, .segment, .commit, .position,
   .faultQuery, .beacon, .join, .sliceNotice, .sliceResult, .faultNotice, .faultRecord, .cycleSummary]

/-- The class each kind is sent with (R149). -/
def classOf : Kind → FrameClass
  | .abort => .abort
  | .arm | .cycleStart | .cycleEnd | .clear | .stationReset | .recipeHeader | .segment | .commit | .position
  | .faultQuery => .command
  | .beacon | .join => .beacon
  | .sliceNotice => .slice
  | .sliceResult | .faultNotice | .faultRecord | .cycleSummary => .report

/-- The class codes (R149). -/
def classCode : FrameClass → Nat
  | .abort => 0
  | .command => 1
  | .beacon => 2
  | .slice => 3
  | .report => 4

/-- The destination that means every station (R149). -/
def broadcast : StationNo := 15

/-! ## Form and size of a received frame (R155) -/

/-- The code of the role a frame declares: a BEACON, JOIN or CYCLE SUMMARY in bits 15..14 of word 0, a SEGMENT
in bits 13..12 (R150). -/
def declaredRole (k : Kind) (ws : List Word) : Nat :=
  match k with
  | .segment => bitsOf (wordAt ws 0) 13 12
  | _ => bitsOf (wordAt ws 0) 15 14

/-- The payload length is one the table of R149 accepts for the kind and, where it names roles, for the role the
frame declares. -/
def sizeOk (k : Kind) (ws : List Word) : Bool :=
  match k with
  | .abort | .arm | .cycleEnd => ws.length == 1
  | .cycleStart | .commit | .faultNotice => ws.length == 2
  | .clear | .stationReset | .faultQuery => ws.length == 0
  | .recipeHeader | .faultRecord => ws.length == 12
  | .position | .join => ws.length == 3
  | .sliceNotice => ws.length == 4
  | .sliceResult => ws.length == 5 || ws.length == 7 || ws.length == 9 || ws.length == 11
  | .segment =>
    match roleOfCode (declaredRole k ws) with
    | some .travel | some .power => ws.length == 7
    | some .quench => ws.length == 12
    | none => false
  | .beacon =>
    match roleOfCode (declaredRole k ws) with
    | some .travel => ws.length == 8
    | some .power => ws.length == 11
    | some .quench => ws.length == 12
    | none => false
  | .cycleSummary =>
    match roleOfCode (declaredRole k ws) with
    | some .travel => ws.length == 6
    | some .power => ws.length == 5
    | some .quench => ws.length == 8
    | none => false

/-- The FORM check: the source is not 15, a BEACON, JOIN or SEGMENT declares a role, a BEACON shows a state of
IDLE..ABORTED. -/
def formOk (k : Kind) (source : StationNo) (ws : List Word) : Bool :=
  source != 15 &&
  (match k with
   | .join | .segment => (roleOfCode (declaredRole k ws)).isSome
   | .beacon => (roleOfCode (declaredRole k ws)).isSome && (beaconStateOfCode (bitsOf (wordAt ws 0) 13 10)).isSome
   | _ => true)

/-- The frame passes the checks FORM and SIZE, so it is good when the line brought it whole. -/
def rxGood (k : Kind) (r : Rx) : Bool := formOk k r.source r.words && sizeOk k r.words

/-! ## Reading payloads (R150) -/

/-- The fields of a RECIPE HEADER. -/
def headerOf (ws : List Word) : Header :=
  { recipe := u16 ws 0
    direction := if bitsOf (wordAt ws 1) 15 15 = 0 then .up else .down
    scanStart := u32 ws 2
    scanEnd := u32 ws 4
    sliceLength := u16 ws 6
    travelStart := u32 ws 7
    travelEnd := u32 ws 9
    spindle := u16 ws 11
    segmentCount := bitsOf (wordAt ws 1) 7 0 }

/-- The role fields of a SEGMENT meant for `role`. -/
def roleFieldsOf (role : Role) (ws : List Word) : RoleFields :=
  match role with
  | .travel => .travel (u16 ws 6)
  | .power => .power (bitsOf (wordAt ws 0) 8 8 == 1) (u16 ws 6)
  | .quench =>
    .quench { mode := bitsOf (wordAt ws 0) 9 8, onTime := u16 ws 6, offTime := u16 ws 7, delayMin := u16 ws 8,
              delayMax := u16 ws 9, energyLow := u16 ws 10, energyHigh := u16 ws 11 }

/-- The index field of a SEGMENT. -/
def segmentIndex (ws : List Word) : Nat := bitsOf (wordAt ws 0) 7 0

/-- The fields of a SEGMENT meant for `role`. -/
def segmentOf (role : Role) (ws : List Word) : Segment :=
  { index := segmentIndex ws, start := u32 ws 1, stop := u32 ws 3, blend := u16 ws 5,
    fields := roleFieldsOf role ws }

/-- A fault summary of three bits: fatal-latched high, hold low (R150). -/
def summaryOf (n : Nat) : Summary :=
  { fatal := n / 4 % 2 == 1, nonFatal := n / 2 % 2 == 1, hold := n % 2 == 1 }

/-- The code of a fault summary. -/
def summaryCode (m : Summary) : Nat := putFlag 2 m.fatal + putFlag 1 m.nonFatal + putFlag 0 m.hold

/-- What a station reads from a BEACON: the fields the Peer Table and the Position Tracker take (R136, R8). -/
structure BeaconFields where
  role : Role
  state : StationState
  cycle : Nat
  recipe : Nat
  summary : Summary
  /-- Role data of a POWER or QUENCH beacon. -/
  data : Option RoleData
  /-- Stage and tool offset of a POWER beacon. -/
  stage : Nat
  toolOffset : Int
  /-- Position and speed of a TRAVEL beacon. -/
  position : Nat
  speed : Nat
  deriving DecidableEq, Repr

/-- The fields of a BEACON; none when it declares no role or shows no state of IDLE..ABORTED, which FORM discards. -/
def beaconOf (ws : List Word) : Option BeaconFields :=
  match roleOfCode (declaredRole .beacon ws), beaconStateOfCode (bitsOf (wordAt ws 0) 13 10) with
  | some role, some state =>
    some
      { role := role
        state := state
        cycle := bitsOf (wordAt ws 0) 7 0
        recipe := u16 ws 1
        summary := summaryOf (bitsOf (wordAt ws 3) 6 4)
        data :=
          match role with
          | .travel => none
          | .power => some (.power (u16 ws 10))
          | .quench =>
            some (.quench (if bitsOf (wordAt ws 0) 9 9 = 1 then 0 else Config.noLimit)
                          (bitsOf (wordAt ws 0) 8 8 == 1))
        stage := bitsOf (wordAt ws 5) 5 4
        toolOffset := s32 ws 7
        position := position19 ws 5
        speed := u16 ws 7 }
  | _, _ => none

/-- What a station reads from a JOIN (R135). -/
structure JoinFields where
  role : Role
  stage : Nat
  toolOffset : Int
  deriving DecidableEq, Repr

/-- The fields of a JOIN; none when it declares no role. -/
def joinOf (ws : List Word) : Option JoinFields :=
  (roleOfCode (declaredRole .join ws)).map fun role =>
    { role := role, stage := bitsOf (wordAt ws 0) 5 4, toolOffset := s32 ws 1 }

/-- The fields of a SLICE NOTICE; the previous slice is none for 0xFFFF (R84). -/
structure NoticeFields where
  stage : Nat
  cycle : Nat
  slice : Nat
  previous : Option Nat
  energy : Nat
  deriving DecidableEq, Repr

def noticeOf (ws : List Word) : NoticeFields :=
  { stage := bitsOf (wordAt ws 0) 9 8
    cycle := bitsOf (wordAt ws 0) 7 0
    slice := u16 ws 1
    previous := if u16 ws 2 = Config.noSlice then none else some (u16 ws 2)
    energy := u16 ws 3 }

end Sys2Proof.Machine
end

