-- ==== Sys2Proof/Machine/Flags.lean ====
section
/-! DEFINITION. What the station's state says at once: its role and number, its marks and levels (group-B hold,
fault summary), and the outputs the rules give as "active while" (ENABLE, DRV_EN, SPIN_RUN, ATTN). -/

namespace Sys2Proof.Machine

/-- STARTING, SCANNING and DONE are the states in cycle (file 03, section 3.1). -/
def StationState.inCycle : StationState → Bool
  | .starting | .scanning | .done => true
  | _ => false

/-- The zone is INSIDE (R15). -/
def Zone.isInside : Zone → Bool
  | .inside _ => true
  | _ => false

/-- The slice index, present when the zone is INSIDE (R15). -/
def Zone.slice : Zone → Option Nat
  | .inside i => some i
  | _ => none

namespace State

/-- The strapped role (R176); none for code 0. -/
def role (s : State) : Option Role := roleOfCode s.loader.roleCode.toNat

/-- The station state. -/
def state (s : State) : StationState := s.cycle.state

/-- The strapped number as the station's own number: present when it lies in 1..14 (R176, R158). -/
def ownNumber (s : State) : Option StationNo :=
  if s.loader.number = 0 ∨ s.loader.number = 15 then none else some s.loader.number

/-- The station is STARTING, SCANNING or DONE. -/
def inCycle (s : State) : Bool := s.cycle.state.inCycle

/-- The station may put frames on the line: it is neither OFFLINE nor SILENT (R151, R163). -/
def onLine (s : State) : Bool := s.cycle.state != .offline && s.cycle.state != .silent

/-- The station is strapped to `r` and not OFFLINE, so that role's engine runs (R67, R90, R108). -/
def runs (s : State) (r : Role) : Bool := s.role == some r && s.cycle.state != .offline

/-- The roster marks number `n`. -/
def inRoster (s : State) (n : StationNo) : Bool := s.cycle.roster.getLsbD n.toNat

/-! ## The active copy -/

/-- Scan direction of the active copy, UP while it is invalid (R6, R9). -/
def direction (s : State) : Dir :=
  match s.store.active with
  | some a => a.header.direction
  | none => .up

/-- Spindle target of the active copy, 0 while it is invalid (R103). -/
def spindleTarget (s : State) : Nat :=
  match s.store.active with
  | some a => a.header.spindle
  | none => 0

/-- The armed recipe number the beacons carry (R35). -/
def armedRecipe (s : State) : Nat :=
  match s.store.active with
  | some a => a.header.recipe
  | none => 0

/-! ## Interlocks (R195, R196) -/

/-- Every input of group A is active. -/
def groupAClear (s : State) : Bool := s.interlock.level &&& s.settings.groupA == s.settings.groupA

/-- The group-B hold: some group-B input is inactive, in every state except OFFLINE. -/
def hold (s : State) : Bool :=
  s.cycle.state != .offline && s.interlock.level &&& s.settings.groupB != s.settings.groupB

/-! ## Fault kinds and marks (R187, R188, R192) -/

def isMasked (s : State) (k : FaultKind) : Bool := s.settings.mask.getLsbD (faultCode k)

def isFatal (s : State) (k : FaultKind) : Bool := s.settings.severity.getLsbD (faultCode k)

def isLatched (s : State) (k : FaultKind) : Bool := s.fault.latches.getLsbD (faultCode k)

/-- A report of the kind latches: it is not masked, and its latch is clear (R188). -/
def latchable (s : State) (k : FaultKind) : Bool := !s.isMasked k && !s.isLatched k

/-- Some latched kind is fatal. -/
def fatalLatched (s : State) : Bool := s.fault.latches &&& s.settings.severity != 0

/-- The fault summary (R192). -/
def summary (s : State) : Summary :=
  { fatal := s.fatalLatched
    nonFatal := s.fault.latches &&& ~~~ s.settings.severity != 0
    hold := s.hold }

/-- ATTN: some latched kind has its attention enable set, or OFFLINE with CONFIG_BAD latched (R192). -/
def attn (s : State) : Bool :=
  s.fault.latches &&& s.settings.attention != 0 || (s.cycle.state == .offline && s.isLatched .configBad)

/-! ## Outputs given as "active while" -/

/-- The drive, inverter or valve set is ready and has not tripped. -/
def actuatorGood (s : State) : Bool := s.pins.actReady && !s.pins.actFault

/-- ENABLE (R70). -/
def enable (s : State) : Bool := s.role == some .power && s.inCycle && s.actuatorGood

/-- DRV_EN (R91). -/
def drvEn (s : State) : Bool :=
  s.role == some .travel && s.actuatorGood &&
  (s.inCycle || (s.cycle.state == .idle && s.travel.move.isSome) ||
   ((s.cycle.state == .aborted || s.cycle.state == .silent) && s.travel.command != 0))

/-- DIR: the engine's direction in a TRAVEL station that is not OFFLINE, active for UP; inactive in every other station
(R90, R95). -/
def dirOut (s : State) : Bool := s.runs .travel && s.travel.dir == .up

/-- SPIN_RUN: from STARTING while the spindle target is above 0, until spindle hold is released (R102). -/
def spinRun (s : State) : Bool :=
  s.role == some .travel && s.spindleTarget != 0 &&
  (s.cycle.state == .starting || s.cycle.state == .scanning || s.travel.spindleHold)

/-! ## Peers -/

/-- The entry of number `n`. -/
def peer (s : State) (n : StationNo) : Option Peer := s.peers.find? (·.number == n)

/-- The entries of roster numbers. -/
def rosterPeers (s : State) : List Peer := s.peers.filter fun p => s.inRoster p.number

/-- The entry of the tracked TRAVEL number is LIVE (R73). -/
def trackedLive (s : State) : Bool :=
  match s.tracker.tracked with
  | some n => (match s.peer n with | some p => p.live | none => false)
  | none => false

/-- The speed in use, as the last TRAVEL beacon record and the coast-expired flag give it at the moment it is read: it changes
at a beacon and at coast expiry (R9, R73), not only at the next position update (R2, R19; DEDUCED, log entry 52). -/
def speedInUse (s : State) : Nat :=
  match s.tracker.last with
  | some b => if s.tracker.coastExpired then 0 else b.speed
  | none => 0

/-- The start barrier's condition on one peer entry: LIVE, the station's cycle, STARTING or SCANNING (R52), and no beacon
still to come after a return (R140, log entry 47). -/
def reached (s : State) (p : Peer) : Bool :=
  p.live && !p.awaitsBeacon && p.cycle == s.cycle.number && (p.state == .starting || p.state == .scanning)

/-- Station numbers 1..14 of the roster other than the station's own. -/
def rosterOthers (s : State) : List StationNo :=
  ((List.range 15).map (BitVec.ofNat 4)).filter fun n => n != 0 && n != s.loader.number && s.inRoster n

/-- Number `n` holds the start barrier open. -/
def holdsBarrier (s : State) (n : StationNo) : Bool :=
  match s.peer n with
  | some p => !s.reached p
  | none => true

/-- The start barrier is complete (R52). -/
def barrierComplete (s : State) : Bool := s.rosterOthers.all fun n => !s.holdsBarrier n

/-- A roster QUENCH entry shows a state that releases spindle hold (R105). -/
def releasesSpindle (s : State) (p : Peer) : Bool :=
  !p.live || (p.state == .done && p.cycle == s.cycle.number) ||
  (p.state == .aborted && (match p.data with | some (.quench _ flood) => !flood | _ => false))

/-- Every roster QUENCH peer releases spindle hold (R105). -/
def spindleReleased (s : State) : Bool :=
  (s.rosterPeers.filter (·.role == .quench)).all s.releasesSpindle

end State

end Sys2Proof.Machine
end

