-- ==== Sys2Proof/Machine/Frames.lean ====
section
/-! DEFINITION. The frames a station builds from its state, laid out as R150 gives them. -/

namespace Sys2Proof.Machine

/-- A frame of the station's own to `destination`. -/
def State.ownFrame (s : State) (k : Kind) (destination : StationNo) (words : List Word) : Frame :=
  { kind := k, source := s.loader.number, destination := destination, words := words }

/-- The header of a frame as a fault report captures it (R187). -/
def capturedHeader (f : Frame) : Captured := { source := f.source, kind := f.kind }

/-- The role code the station's frames carry. -/
def State.ownRoleCode (s : State) : Nat := s.loader.roleCode.toNat

/-- Word 2 of a BEACON: staging state, failing index (63 none), failed check, clamp set (R34, R150). -/
def stagingWord (g : Staging) : Word :=
  toWord <|
    put 14 2 (stagingCode g.state) +
    (match g.check with
     | some c => put 8 6 (c.index.getD 63) + put 4 3 (commitCheckCode c.check)
     | none => put 8 6 63) +
    (match g.clamps with
     | some c => putFlag 2 c.pulse + putFlag 1 c.blend + putFlag 0 c.speed
     | none => 0)

/-- Word 3 of a BEACON: last command kind, fault summary, result code (R45, R150). -/
def lastWord (last : Option (Kind × ResultCode)) (m : Summary) : Word :=
  toWord <|
    put 4 3 (summaryCode m) +
    (match last with
     | some (k, c) => put 8 6 (kindCode k) + put 0 4 (resultCode c)
     | none => 0)

/-- Role flag (word 0 bit 8) and QUENCH ceiling bit (bit 9) of a BEACON (R150). -/
def roleFlagBits (s : State) : Nat :=
  match s.role with
  | some .travel => putFlag 8 s.travel.atSpeed
  | some .power => putFlag 8 s.power.clamped
  | some .quench => putFlag 8 s.quench.flood + putFlag 9 (s.quench.ceiling == 0)
  | none => 0

/-- Words 5 onward of a BEACON (R88, R106, R130). -/
def roleWords (s : State) : List Word :=
  match s.role with
  | some .travel =>
    [toWord (put 0 3 (s.tracker.estimate / 65536)), toWord s.tracker.estimate, toWord s.tracker.measured]
  | some .power =>
    [toWord (put 4 2 s.settings.stage + put 0 3 (s.tracker.tool / 65536)), toWord s.tracker.tool] ++
    wordsOfInt s.settings.toolOffset ++ [toWord s.power.command, toWord s.power.ceiling]
  | some .quench =>
    [toWord (put 10 6 s.quench.nFlushed + put 4 6 s.quench.entries.length + put 0 3 (s.tracker.tool / 65536)),
     toWord s.tracker.tool, toWord s.quench.nCreated, toWord s.quench.nJudged, toWord s.quench.nGood,
     toWord s.quench.nRejected, toWord s.quench.nLate]
  | none => []

/-- The BEACON built from the values the station holds now (R172). -/
def beaconFrame (s : State) : Frame :=
  s.ownFrame .beacon broadcast <|
    [toWord (put 14 2 s.ownRoleCode + put 10 4 (stateCode s.cycle.state) + roleFlagBits s + put 0 8 s.cycle.number),
     toWord s.armedRecipe, stagingWord s.store.staging, lastWord s.cycle.last s.summary,
     toWord (put 8 8 s.interlock.drop.toNat + put 0 8 s.line.rxErr)] ++ roleWords s

/-- The drop latches a BEACON carries (R150, R197). -/
def carriedLatches (f : Frame) : Marks8 := BitVec.ofNat 8 (bitsOf (wordAt f.words 4) 15 8)

/-- The JOIN frame (R174). -/
def joinFrame (s : State) : Frame :=
  s.ownFrame .join broadcast <|
    toWord (put 14 2 s.ownRoleCode + (if s.role = some .power then put 4 2 s.settings.stage else 0)) ::
    wordsOfInt s.settings.toolOffset

/-- The ABORT frame of the station's cycle (R64). -/
def abortFrame (s : State) : Frame := s.ownFrame .abort broadcast [toWord s.cycle.number]

/-- A SLICE NOTICE (R83). -/
def sliceNoticeFrame (s : State) (slice : Nat) (energy : Nat) : Frame :=
  s.ownFrame .sliceNotice broadcast
    [toWord (put 8 2 s.settings.stage + put 0 8 s.cycle.number), toWord slice,
     toWord (s.power.link.getD Config.noSlice), toWord energy]

/-- The verdict flags of a slice result (R118 to R120). -/
structure Verdict where
  late : Bool
  short : Bool
  low : Bool
  high : Bool
  partialHeat : Bool
  lost : Bool
  untracked : Bool
  unquenched : Bool
  deriving DecidableEq, Repr

/-- No flag is set: the result is GOOD (R118). -/
def Verdict.good (v : Verdict) : Bool :=
  !(v.late || v.short || v.low || v.high || v.partialHeat || v.lost || v.untracked || v.unquenched)

/-- The verdict byte (R150). -/
def Verdict.code (v : Verdict) : Nat :=
  putFlag 7 v.unquenched + putFlag 6 v.untracked + putFlag 5 v.lost + putFlag 4 v.partialHeat + putFlag 3 v.high +
  putFlag 2 v.low + putFlag 1 v.short + putFlag 0 v.late

/-- The content of a SLICE RESULT (R120). -/
structure SliceResult where
  slice : Nat
  energies : List (Nat × Nat)
  judgedEnergy : Nat
  delay : Option Nat
  verdict : Verdict
  deriving DecidableEq, Repr

/-- A SLICE RESULT (R120, R150). -/
def sliceResultFrame (s : State) (r : SliceResult) : Frame :=
  s.ownFrame .sliceResult 0 <|
    [toWord (putFlag 10 r.delay.isSome + put 8 2 r.energies.length + put 0 8 s.cycle.number), toWord r.slice,
     toWord r.judgedEnergy, toWord (r.delay.getD 0), toWord r.verdict.code] ++
    r.energies.flatMap fun p => [toWord p.1, toWord p.2]

/-- A FAULT NOTICE; station state and cycle number as they stand, before Cycle Control acts (R190). -/
def faultNoticeFrame (s : State) (k : FaultKind) (related : Option StationNo) (seen : Bool) : Frame :=
  s.ownFrame .faultNotice 0
    [toWord (put 12 4 (stateCode s.cycle.state) + put 8 4 (related.getD 15).toNat + putFlag 5 seen +
       putFlag 4 (s.isFatal k) + put 0 4 (faultCode k)),
     toWord (put 0 8 s.cycle.number)]

/-- A CYCLE SUMMARY with the values at the moment (R58). -/
def cycleSummaryFrame (s : State) : Frame :=
  s.ownFrame .cycleSummary 0 <|
    [toWord (put 14 2 s.ownRoleCode + (if s.role = some .power then putFlag 12 s.power.clampedSeen else 0) +
       put 9 3 (summaryCode s.summary) + put 8 1 ((s.cycle.endKind.map endKindCode).getD 0) +
       put 0 8 s.cycle.number),
     toWord s.armedRecipe, toWord s.cycle.scanTenths, toWord s.sched.dropCount] ++
    (match s.role with
     | some .travel => [toWord (put 0 3 (s.tracker.estimate / 65536)), toWord s.tracker.estimate]
     | some .power => [toWord s.power.notices]
     | some .quench =>
       [toWord s.quench.nJudged, toWord s.quench.nGood, toWord s.quench.nRejected, toWord s.quench.nFlushed]
     | none => [])

/-- Word 0 of a FAULT RECORD (R150); an absent part leaves its fields 0, the related station 15 (log entry 22). -/
def recordWord0 (record : Option FaultRecord) (dupSeen : Bool) : Word :=
  toWord <| putFlag 14 dupSeen +
    (match record with
     | some r =>
       putFlag 15 true + putFlag 13 r.snapshot.isSome + putFlag 12 r.captured.isSome +
       put 8 4 (r.related.getD 15).toNat + put 4 4 (stateCode r.state) + put 0 4 (faultCode r.kind)
     | none => put 8 4 15)

/-- Words 1 to 5 of a FAULT RECORD (R150); all 0 when the record is empty. -/
def recordWords1to5 (record : Option FaultRecord) : List Word :=
  match record with
  | some r =>
    [toWord (r.time.toNat / 65536), toWord (r.time.toNat % 65536),
     toWord (put 0 8 r.cycle +
       (match r.captured with
        | some c => put 12 4 c.source.toNat + put 8 4 (classCode (classOf c.kind))
        | none => 0)),
     toWord (put 8 3 (r.estimate / 65536) + (match r.captured with | some c => put 0 6 (kindCode c.kind) | none => 0)),
     toWord r.estimate]
  | none => [0, 0, 0, 0, 0]

/-- Word 7 of a FAULT RECORD: abort-seen count saturated at 255, and the cause (R191). -/
def recordWord7 (f : FaultUnit) : Word :=
  toWord <| put 8 8 (min f.abortSeen 255) +
    (match f.cause with
     | some (.fault k) => putFlag 6 true + put 0 4 (faultCode k)
     | some (.abortFrom n) => putFlag 7 true + putFlag 6 true + put 0 4 n.toNat
     | none => 0)

/-- The peer snapshot of the record, when it has one. -/
def recordSnapshot (record : Option FaultRecord) : Option Snapshot := record.bind (·.snapshot)

/-- Words 8 to 11 of a FAULT RECORD (R150). -/
def recordWords8to11 (snapshot : Option Snapshot) (txErr : Nat) : List Word :=
  match snapshot with
  | some p =>
    [toWord (put 14 2 (roleCode p.role) + put 10 4 (stateCode p.state) + putFlag 9 p.live + put 4 3 (summaryCode p.summary)),
     toWord (put 8 6 txErr + put 0 8 p.cycle), toWord p.recipe, toWord p.age]
  | none => [0, toWord (put 8 6 txErr), 0, 0]

/-- The FAULT RECORD (R194, R150). -/
def faultRecordFrame (s : State) : Frame :=
  s.ownFrame .faultRecord 0 <|
    [recordWord0 s.fault.record s.line.dupSeen] ++ recordWords1to5 s.fault.record ++
    [s.fault.latches, recordWord7 s.fault] ++ recordWords8to11 (recordSnapshot s.fault.record) s.line.txErr

end Sys2Proof.Machine
end

