-- ==== Sys2Proof/Machine/Ops.lean ====
section
/-! DEFINITION. The operations the commands share: the passing of time, the Transmit Scheduler's queues and offers,
the entry to ABORTED and to SILENT, and the Fault Unit's taking of a report. -/

namespace Sys2Proof.Machine

/-! ## Time -/

/-- The clock after `ticks` REFCLK ticks. -/
def Clock.pass (ticks : Nat) (c : Clock) : Clock :=
  { time := c.time + BitVec.ofNat 32 ((c.sub + ticks) / Config.ticksPerUs)
    sub := (c.sub + ticks) % Config.ticksPerUs }

/-- Cycle Control's timers after `ticks`; the scan timer counts while SCANNING (R42). -/
def Cycle.pass (ticks : Nat) (c : Cycle) : Cycle :=
  { c with
    startTimer := Timer.pass ticks c.startTimer
    joinWindow := Timer.pass ticks c.joinWindow
    scanTenths :=
      if c.state = .scanning then satAdd Config.max16 c.scanTenths ((c.scanTicks + ticks) / Config.tenthTicks)
      else c.scanTenths
    scanTicks := if c.state = .scanning then (c.scanTicks + ticks) % Config.tenthTicks else c.scanTicks }

def Tracker.pass (ticks : Nat) (t : Tracker) : Tracker := { t with coastTimer := Timer.pass ticks t.coastTimer }

def Travel.pass (ticks : Nat) (t : Travel) : Travel :=
  { t with half := Timer.pass ticks t.half, rise := Timer.pass ticks t.rise, tachWindow := Timer.pass ticks t.tachWindow }

def Quench.pass (ticks : Nat) (q : Quench) : Quench :=
  { q with
    soak := Timer.pass ticks q.soak
    pulseTimer := Timer.pass ticks q.pulseTimer
    floodTimer := Timer.pass ticks q.floodTimer
    flowWindow := Timer.pass ticks q.flowWindow
    openTime := q.openTime.map (· + ticks) }

def Peer.pass (ticks : Nat) (p : Peer) : Peer := { p with stale := Timer.pass ticks p.stale }

def Sched.pass (ticks : Nat) (c : Sched) : Sched :=
  { c with beaconTimer := Timer.pass ticks c.beaconTimer, joinTimer := Timer.pass ticks c.joinTimer }

/-- The station after `ticks` REFCLK ticks in which nothing but time acts: the clock, every timer that runs, the
scan timer and the open time move on (DESIGN CHOICE, log entry 2). -/
def advance (ticks : Nat) (s : State) : State :=
  s |>.setClock (s.clock.pass ticks)
    |>.setCycle (s.cycle.pass ticks)
    |>.setTracker (s.tracker.pass ticks)
    |>.setTravel (s.travel.pass ticks)
    |>.setQuench (s.quench.pass ticks)
    |>.setPeers (s.peers.map (Peer.pass ticks))
    |>.setSched (s.sched.pass ticks)

/-! ## Last command result -/

/-- Cycle Control stores the command's kind with its result code (R45). -/
def setResult (k : Kind) (c : ResultCode) (s : State) : State := s.setCycle { s.cycle with last := some (k, c) }

/-! ## The class queues and the offer (file 09) -/

/-- The offered frame belongs to class `c`. -/
def Sched.offers (q : Sched) (c : FrameClass) : Bool :=
  match q.offered with
  | some o => classOf o.frame.kind == c
  | none => false

/-- Occupancy of the SLICE class (R165). -/
def Sched.sliceOccupancy (q : Sched) : Nat := q.sliceQ.length + (if q.offers .slice then 1 else 0)

/-- Occupancy of the REPORT class (R165). -/
def Sched.reportOccupancy (q : Sched) : Nat := q.reportQ.length + (if q.offers .report then 1 else 0)

/-- The queue an entry of the phase table names holds a frame that may be chosen; in JOINING the SLICE and REPORT
entries are passed over (R168). -/
def entryReady (s : State) : PhaseClass → Bool
  | .beacon => s.sched.beaconQ.isSome
  | .slice => s.cycle.state != .joining && !s.sched.sliceQ.isEmpty
  | .report => s.cycle.state != .joining && !s.sched.reportQ.isEmpty

/-- The class named by entry `i` of the phase table. -/
def phaseEntry (s : State) (i : Nat) : PhaseClass := s.settings.phaseTable.getD i .beacon

/-- The first entry, from the phase pointer on and wrapping from 15 to 0, whose queue can be chosen from (R168). -/
def findEntry (s : State) : Option Nat :=
  ((List.range 16).map fun i => (s.sched.phasePtr + i) % 16).find? fun i => entryReady s (phaseEntry s i)

/-- The head frame of a class queue becomes the offered frame, chosen from entry `i`. -/
def offerFrom (i : Nat) (c : PhaseClass) (q : Sched) : Sched :=
  match c with
  | .beacon =>
    match q.beaconQ with
    | some f => { q with beaconQ := none, offered := some ⟨f, i⟩, phasePtr := (i + 1) % 16 }
    | none => q
  | .slice =>
    match q.sliceQ with
    | f :: rest => { q with sliceQ := rest, offered := some ⟨f, i⟩, phasePtr := (i + 1) % 16 }
    | [] => q
  | .report =>
    match q.reportQ with
    | f :: rest => { q with reportQ := rest, offered := some ⟨f, i⟩, phasePtr := (i + 1) % 16 }
    | [] => q

/-- The scheduler after the choice of a new offer: the ABORT queue first, then the phase table (R168). -/
def chosen (s : State) : Sched :=
  match s.sched.abortQ with
  | some f => { s.sched with abortQ := none, offered := some ⟨f, s.sched.phasePtr⟩ }
  | none =>
    match findEntry s with
    | some i => offerFrom i (phaseEntry s i) s.sched
    | none => s.sched

/-- A new offer is chosen where nothing is offered (R168). The caller has checked that the line is idle and the station
on it. -/
def chooseOffer (s : State) : State := s.setSched (if s.sched.offered.isNone then chosen s else s.sched)

/-- The Line Interface begins an attempt of the offered frame: it takes its fixed copy, the line is busy, and the receiver
takes nothing of the frame (R151, R155). -/
def Line.begun (offered : Option Offer) (l : Line) : Line :=
  match offered with
  | some o => { l with idle := false, attempt := some o.frame, rx := .ownFrame }
  | none => l

/-- An attempt of the offered frame begins, where one is offered (R151). -/
def beginAttempt (s : State) : State := s.setLine (s.line.begun s.sched.offered)

/-- The line is idle, the station is on it, and it drives no frame (R151, R168). -/
def State.mayBegin (s : State) : Bool := s.onLine && s.line.idle && s.line.attempt.isNone

/-- Where the line is idle and the station is on it, the scheduler chooses an offer if it has none, and the Line
Interface begins an attempt (R151, R168). Made at every moment at which a frame is handed or the line falls idle
(DEDUCED, log entry 8). -/
def tryBegin (s : State) : State := if s.mayBegin then beginAttempt (chooseOffer s) else s

/-- An offered frame of another class than ABORT returns to the head of its own queue, and the phase pointer to the
entry it was chosen from; a BEACON or JOIN gives way to a newer frame in its queue (R171). -/
def returnOffer (o : Offer) (q : Sched) : Sched :=
  match classOf o.frame.kind with
  | .slice => { q with sliceQ := o.frame :: q.sliceQ, offered := none, phasePtr := o.entry }
  | .report => { q with reportQ := o.frame :: q.reportQ, offered := none, phasePtr := o.entry }
  | .beacon => { q with beaconQ := some (q.beaconQ.getD o.frame), offered := none, phasePtr := o.entry }
  | .abort | .command => { q with offered := none }

/-- An ABORT in its queue takes the offer: it replaces an offered ABORT, displaces any other frame, and is offered
where nothing is (R167, R171). -/
def displaceByAbort (q : Sched) : Sched :=
  match q.abortQ, q.offered with
  | some f, some o => { returnOffer o q with abortQ := none, offered := some ⟨f, (returnOffer o q).phasePtr⟩ }
  | _, _ => q

/-- An ABORT frame joins its queue, replacing one that waits, and displaces the offer at once when no attempt is under
way (R167, R171). -/
def Sched.placeAbort (f : Frame) (attempted : Bool) (q : Sched) : Sched :=
  if attempted then { q with abortQ := some f } else displaceByAbort { q with abortQ := some f }

/-- Cycle Control hands an ABORT frame (R167, R171). In OFFLINE and SILENT it is discarded (R166). -/
def handAbort (f : Frame) (s : State) : State :=
  if s.onLine then tryBegin (s.setSched (s.sched.placeAbort f s.line.attempt.isSome)) else s

/-- A BEACON or JOIN that falls due replaces an offered one in place when no attempt is under way, and otherwise joins
the BEACON queue or replaces the one there (R172, R174). -/
def Sched.placeBeacon (f : Frame) (attempted : Bool) (q : Sched) : Sched :=
  if q.offers .beacon && !attempted then { q with offered := q.offered.map fun o => { o with frame := f } }
  else { q with beaconQ := some f }

/-- A BEACON or JOIN that falls due is placed (R172, R174). In OFFLINE and SILENT it is discarded (R175). -/
def placeBeacon (f : Frame) (s : State) : State :=
  if s.onLine then tryBegin (s.setSched (s.sched.placeBeacon f s.line.attempt.isSome)) else s

/-- Each set drop latch is marked carried, as when a beacon is built or refreshed (R197). -/
def markCarried (s : State) : State := s.setInterlock { s.interlock with carried := s.interlock.drop }

/-- A BEACON waits in its queue. -/
def Sched.waitsBeacon (q : Sched) : Bool := q.beaconQ.any fun f => f.kind == .beacon

/-- A BEACON is offered. -/
def Sched.offersBeacon (q : Sched) : Bool := q.offered.any fun o => o.frame.kind == .beacon

/-- The frame of each BEACON that waits, or is offered with no attempt under way, replaced (R172). -/
def Sched.rebuilt (f : Frame) (attempted : Bool) (q : Sched) : Sched :=
  { q with
    beaconQ := if q.waitsBeacon then some f else q.beaconQ
    offered := if q.offersBeacon && !attempted then q.offered.map fun o => { o with frame := f } else q.offered }

/-- A BEACON can be refreshed: it waits, or is offered with no attempt under way (R172). -/
def State.refreshable (s : State) : Bool :=
  s.sched.waitsBeacon || (s.sched.offersBeacon && s.line.attempt.isNone)

/-- A refresh during the attempt of an offered BEACON waits for a later attempt (R172). -/
def Sched.noteRefresh (attempted : Bool) (q : Sched) : Sched :=
  { q with refreshDue := q.refreshDue || (q.offersBeacon && attempted) }

/-- A BEACON that waits, or is offered with no attempt under way, is rebuilt in place; the refresh of one under attempt is
noted (R172). -/
def refreshBeacon (s : State) : State :=
  let t := s.setSched (s.sched.noteRefresh s.line.attempt.isSome)
  if s.refreshable then markCarried (t.setSched (t.sched.rebuilt (beaconFrame s) s.line.attempt.isSome)) else t

/-- The station state, cycle number, last command result and staging state stand as before (R172). -/
def sameFields (old new : State) : Bool :=
  old.cycle.state == new.cycle.state && old.cycle.number == new.cycle.number && old.cycle.last == new.cycle.last &&
  old.store.staging.state == new.store.staging.state

/-- The end of a command: beacons not yet on the line are refreshed if the station state, the cycle number, the last
command result or the staging state changed in it (R172; log entry 9). -/
def settled (old new : State) : State := if sameFields old new then new else refreshBeacon new

/-- A command that took the station from `old` to `new` ends: the next state. -/
def settle (old new : State) : Host.Outcome State Fault Refusal := .next (settled old new)

/-! ## Outputs of the Power Engine -/

/-- A word goes out on SETPOINT (R68). -/
def sendSetpoint (s : State) : State :=
  s.setPower { s.power with setpoint := some s.power.command, sent := s.power.sent + 1 }

/-- The command at 0, and the word that carries it. -/
def Power.zeroed (p : Power) : Power := { p with command := 0, setpoint := some 0, sent := p.sent + 1 }

/-- In a POWER station that is not OFFLINE, the power command is set to 0 at once and a setpoint word carrying 0 goes
out (R68, R77). -/
def zeroPower (s : State) : State := if s.runs .power then s.setPower s.power.zeroed else s

/-- ENABLE becomes inactive as the station leaves the states that allow it: an active one zeroes the command (R70, R77). -/
def dropEnable (s : State) : State := if s.enable then zeroPower s else s

/-- SPRAY closes, and the open time with it (R125, R126). -/
def Quench.closeSpray (q : Quench) : Quench := { q with spray := false, openTime := none }

/-- SPRAY within the limit of the state: closed in DONE, whatever demand and the pulse phase ask for (R44; DEDUCED, log entry
17). -/
def limitSpray (state : StationState) (q : Quench) : Quench := if state = .done then q.closeSpray else q

/-! ## Travel: command and spindle -/

/-- The speed command becomes 0 at once, and the generator is asked for no steps (R97). -/
def Travel.stop (t : Travel) : Travel := { t with command := 0, load := none, rise := none }

/-- Spindle hold is released when every roster QUENCH peer shows a releasing state (R105). -/
def testSpindleHold (s : State) : State :=
  s.setTravel { s.travel with spindleHold := s.travel.spindleHold && !s.spindleReleased }

/-- Spindle hold begins in a TRAVEL station, and its release is tested (R105); at an abort or silence from DONE it begins
anew even where it had been released there (DEDUCED, log entry 42). -/
def beginSpindleHold (s : State) : State :=
  if s.role = some .travel then testSpindleHold (s.setTravel { s.travel with spindleHold := true }) else s

/-! ## Entry to ABORTED and to SILENT (R63, R66) -/

/-- The Power Engine at an abort: the open slice is abandoned, untaken crossing records with it (R87). -/
def Power.abandon (p : Power) : Power := { p with current := none, acc := 0, inbox := [] }

/-- The Quench Engine at an abort from a cycle: flood and flush (R127). -/
def Quench.flushAndFlood (floodTime : Nat) (q : Quench) : Quench :=
  { q with
    flood := true, spray := true, floodTimer := timerMs floodTime, soak := none, pulse := .idle, pulseTimer := none,
    openTime := none, runout := false, entries := [], nFlushed := q.nFlushed + q.entries.length }

/-- The Quench Engine at entry to ABORTED or SILENT from outside a cycle: soak stopped, pulse phase IDLE (R124, R125). -/
def Quench.standDown (q : Quench) : Quench := { q with soak := none, pulse := .idle, pulseTimer := none }

/-- A QUENCH station floods and flushes (R127). -/
def floodRing (s : State) : State :=
  if s.role = some .quench then s.setQuench (s.quench.flushAndFlood s.settings.floodTime) else s

/-- What the role engines do at an abort out of a cycle (R63): power off, flood and flush, spindle hold. -/
def abortFromCycle (s : State) : State := beginSpindleHold (floodRing (zeroPower (s.setPower s.power.abandon)))

/-- What they do when no cycle was under way: nothing is heated, the valves stay closed (R63, R127). -/
def abortFromRest (s : State) : State :=
  (s.setPower s.power.abandon).setQuench s.quench.standDown

/-- What Cycle Control, the Fault Unit and the Travel Engine do at entry to ABORTED, whatever the state before (R63,
R191, R101). -/
def markAborted (cause : AbortCause) (s : State) : State :=
  s.setCycle { s.cycle with state := .aborted, startTimer := none, joinWindow := none }
    |>.setFault { s.fault with cause := some cause }
    |>.setTravel { s.travel with move := none }

/-- Entry to ABORTED with its cause (R63, R191). A POSITION move is abandoned, the command falls from where it is. -/
def enterAborted (cause : AbortCause) (s : State) : State :=
  if s.inCycle then abortFromCycle (markAborted cause s) else abortFromRest (markAborted cause s)

/-- Entry to ABORTED from a cycle on a fatal kind: the station's own ABORT frame is queued (R62, R64). -/
def enterAbortedOwn (k : FaultKind) (s : State) : State :=
  handAbort (abortFrame s) (enterAborted (.fault k) s)

/-- The scheduler at entry to SILENT: queues, offer and timers gone, pointer and drop count kept (R175). -/
def Sched.silenced (q : Sched) : Sched :=
  { q with abortQ := none, beaconQ := none, sliceQ := [], reportQ := [], offered := none, beaconTimer := none,
           joinTimer := none, refreshDue := false }

/-- What Cycle Control, the scheduler and the Line Interface do at entry to SILENT, whatever the state before (R66,
R175). -/
def markSilent (s : State) : State :=
  s.setCycle { s.cycle with state := .silent, startTimer := none, joinWindow := none }
    |>.setSched s.sched.silenced
    |>.setLine { s.line with attempt := none }

/-- Entry to SILENT on LINE_OFF or an established duplicate (R66, R175, R191): from a cycle the blocks act as at entry
to ABORTED; from ABORTED what is under way goes on; from IDLE a move is abandoned with the command at 0 (R101). -/
def enterSilent (k : FaultKind) (s : State) : State :=
  if s.inCycle then
    abortFromCycle (markSilent s |>.setFault { s.fault with cause := some (.fault k) }
      |>.setTravel { s.travel with move := none })
  else if s.cycle.state = .aborted then markSilent s
  else abortFromRest (markSilent s |>.setTravel { s.travel.stop with move := none })

/-- The two kinds that take the station off the line (R66). -/
def FaultKind.silences : FaultKind → Bool
  | .lineOff | .duplicateStation => true
  | _ => false

/-- Cycle Control acts on a fatal kind according to the station state (R62, R66). -/
def actOnFatal (k : FaultKind) (s : State) : State :=
  match s.cycle.state with
  | .offline | .silent => s
  | .joining | .aborted => if k.silences then enterSilent k s else s
  | .idle | .armed => if k.silences then enterSilent k s else enterAborted (.fault k) s
  | .starting | .scanning | .done => if k.silences then enterSilent k s else enterAbortedOwn k s

/-! ## Reports (R188, R189, R190) -/

/-- A report to the Fault Unit: its kind, and the related station and captured header it names (R187). -/
structure Report where
  kind : FaultKind
  related : Option StationNo
  captured : Option Captured
  deriving DecidableEq, Repr

/-- A peer snapshot of an entry (R145). The age in ms is truncated (DESIGN CHOICE, log entry 40). -/
def snapshotOf (now : LocalTime) (p : Peer) : Snapshot :=
  { role := p.role, state := p.state, cycle := p.cycle, recipe := p.recipe, live := p.live, summary := p.summary,
    age := match p.lastBeacon with
      | some t => min Config.max16 (elapsed now t / 1000)
      | none => Config.max16 }

/-- The first-fault record a report fills (R189). -/
def recordOf (r : Report) (s : State) : FaultRecord :=
  { kind := r.kind, time := s.clock.time, cycle := s.cycle.number, state := s.cycle.state,
    estimate := s.tracker.estimate, related := r.related, captured := r.captured,
    snapshot := (r.related.bind s.peer).map (snapshotOf s.clock.time) }

/-- The latch of `k` among sixteen. -/
def latchBit (k : FaultKind) : Marks16 := 1#16 <<< faultCode k

/-- The latch is set, and the record filled if it is empty (R188, R189). -/
def latch (r : Report) (s : State) : State :=
  s.setFault { s.fault with
    latches := s.fault.latches ||| latchBit r.kind
    record := some (s.fault.record.getD (recordOf r s)) }

/-- A frame joins the tail of the REPORT queue. -/
def pushReport (f : Frame) (s : State) : State :=
  tryBegin (s.setSched { s.sched with reportQ := s.sched.reportQ ++ [f] })

/-- A frame is dropped: the drop count rises, saturating (R165, R166). -/
def countDrop (s : State) : State :=
  s.setSched { s.sched with dropCount := satAdd Config.max16 s.sched.dropCount 1 }

/-- A fatal kind is reported to Cycle Control (R188, step 4). -/
def tellCycle (k : FaultKind) (s : State) : State := if s.isFatal k then actOnFatal k s else s

/-- A frame handed to the REPORT queue now would be dropped: the class is at its capacity, the station on the line (R166). -/
def State.dropsReport (s : State) : Bool := s.onLine && decide (Config.reportCapacity ≤ s.sched.reportOccupancy)

/-- A frame joins the REPORT queue, is dropped and counted, or is discarded in OFFLINE and SILENT (R166, R175). -/
def placeReport (f : Frame) (s : State) : State :=
  if s.onLine = false then s
  else if s.sched.reportOccupancy < Config.reportCapacity then pushReport f s
  else countDrop s

/-- TX_OVERFLOW is reported for a dropped frame. Its FAULT NOTICE can itself be dropped and counted; the report this
makes finds the kind latched, and the chain ends (R166, R188). -/
def reportOverflow (captured : Captured) (s : State) : State :=
  if s.latchable .txOverflow then
    tellCycle .txOverflow
      (placeReport (faultNoticeFrame s .txOverflow none false) (latch ⟨.txOverflow, none, some captured⟩ s))
  else s

/-- A producer hands a frame to the REPORT queue, and a drop is reported (R166). -/
def handReport (f : Frame) (s : State) : State :=
  if s.dropsReport then reportOverflow (capturedHeader f) (placeReport f s) else placeReport f s

/-- A frame joins the tail of the SLICE queue. -/
def pushSlice (f : Frame) (s : State) : State := tryBegin (s.setSched { s.sched with sliceQ := s.sched.sliceQ ++ [f] })

/-- The Power Engine hands a frame to the SLICE queue (R166); in OFFLINE and SILENT it is discarded (R175). -/
def handSlice (f : Frame) (s : State) : State :=
  if s.onLine = false then s
  else if s.sched.sliceOccupancy < Config.sliceCapacity then pushSlice f s
  else reportOverflow (capturedHeader f) (countDrop s)

/-- The four things the Fault Unit does at once for a report it takes: the latch set, an empty record filled, a FAULT NOTICE
handed, and a fatal kind told to Cycle Control, in this order (R188). -/
def takeReport (r : Report) (s : State) : State :=
  tellCycle r.kind (placeReport (faultNoticeFrame s r.kind r.related false) (latch r s))

/-- A report to the Fault Unit: masked or already latched it has no effect; otherwise it is taken. Where its FAULT NOTICE is
dropped TX_OVERFLOW is reported for the drop, after the four things (R166, R188; DEDUCED, log entry 45). -/
def report (r : Report) (s : State) : State :=
  if s.latchable r.kind then
    if s.dropsReport then
      reportOverflow (capturedHeader (faultNoticeFrame s r.kind r.related false)) (takeReport r s)
    else takeReport r s
  else s

/-- A report that names neither a station nor a frame. -/
def reportPlain (k : FaultKind) (s : State) : State := report ⟨k, none, none⟩ s

/-! ## Entry to IDLE, SCANNING, DONE and JOINING -/

/-- Entry to IDLE: cycle number 0, roster empty, end kind none (R42); ENABLE becomes inactive (R77); the valves of a quench
ring are closed and its pulse phase is IDLE (R108, R125). -/
def enterIdle (s : State) : State :=
  (dropEnable s).setCycle { s.cycle with state := .idle, number := 0, roster := 0, endKind := none }
    |>.setQuench { s.quench.closeSpray with pulse := .idle, pulseTimer := none }

/-- Entry to SCANNING: the start timer stops, the scan timer starts from 0 (R54). -/
def enterScanning (s : State) : State :=
  s.setCycle { s.cycle with state := .scanning, startTimer := none, scanTenths := 0, scanTicks := 0 }

/-- The start barrier is tested; complete, it takes a STARTING station to SCANNING (R52). -/
def testBarrier (s : State) : State :=
  if s.cycle.state = .starting ∧ s.barrierComplete then enterScanning s else s

/-- The blocks at entry to DONE, before the summary: end kind set, the power command 0, spindle hold begun, SPRAY closed, its
pulse phase going on (R57, R77, R105, R44, R125, log entry 17). -/
def markDone (e : EndKind) (s : State) : State :=
  beginSpindleHold <| zeroPower <| s.setCycle { s.cycle with state := .done, endKind := some e }
    |>.setQuench { limitSpray .done s.quench with runout := false }

/-- Entry to DONE, with one CYCLE SUMMARY queued (R57, R58). -/
def enterDone (e : EndKind) (s : State) : State := handReport (cycleSummaryFrame (markDone e s)) (markDone e s)

/-- The join window of twice the staleness limit starts, and a JOIN falls due every beacon period (R174, R182). -/
def markJoining (s : State) : State :=
  s.setCycle { s.cycle with state := .joining, joinWindow := timerMs (2 * s.settings.stalenessLimit) }
    |>.setSched { s.sched with beaconTimer := none, joinTimer := timerBeacon s.settings.beaconPeriod }

/-- Entry to JOINING: the join window starts and the first JOIN is placed (R174, R182). -/
def enterJoining (s : State) : State := placeBeacon (joinFrame s) (markJoining s)

/-- The stagger delay in µs: station number × beacon period / 16 (R173). -/
def staggerDelay (s : State) : Nat := s.loader.number.toNat * (s.settings.beaconPeriod * 100) / 16

/-- The beacon timer starts with the stagger delay (R173). -/
def startBeaconTimer (s : State) : State :=
  s.setSched { s.sched with beaconTimer := timerUs (staggerDelay s), joinTimer := none }

end Sys2Proof.Machine
end

