-- ==== Sys2Proof/Machine/Profile.lean ====
section
/-! DEFINITION. The Profile Store (file 02): staging, the checks of COMMIT, the clamps, the readiness and application at
ARM, and the segment lookups of the role engines. -/

namespace Sys2Proof.Machine

/-! ## Staging (R22, R23) -/

/-- Staging restarted with a new header (R22). -/
def stageHeader (ws : List Word) : Staging :=
  { state := .filling, header := some ⟨headerOf ws, ws⟩, segments := [], check := none, clamps := none, clamped := [] }

/-- A staged segment put in its place by index; one of the same index is replaced whole (R23). -/
def insertSegment (x : StagedSegment) : List StagedSegment → List StagedSegment
  | [] => [x]
  | y :: rest =>
    if x.segment.index < y.segment.index then x :: y :: rest
    else if x.segment.index = y.segment.index then x :: rest
    else y :: insertSegment x rest

/-- A segment stored: the check result is removed and the state is FILLING (R23). -/
def stageSegment (x : StagedSegment) (g : Staging) : Staging :=
  { g with state := .filling, segments := insertSegment x g.segments, check := none }

/-! ## The checks of COMMIT (R25 to R32). `none` is a pass; a failure carries its index. -/

/-- COUNT (R26). -/
def checkCount (h : Header) (segs : List Segment) : Option CheckResult :=
  if h.segmentCount = 0 ∨ 32 < h.segmentCount then some ⟨.count, none⟩
  else (segs.find? fun g => h.segmentCount ≤ g.index).map fun g => ⟨.count, some g.index⟩

/-- PRESENCE (R27). -/
def checkPresence (h : Header) (segs : List Segment) : Option CheckResult :=
  ((List.range h.segmentCount).find? fun i => !segs.any fun g => g.index == i).map fun i => ⟨.presence, some i⟩

/-- The commit sum of the staged words, modulo 65 536 (R28). -/
def commitSum (header : List Word) (segs : List StagedSegment) : Nat :=
  (((header :: segs.map (·.words)).map fun ws => (ws.map (·.toNat)).sum).sum) % 65536

/-- SUM, against the COMMIT's recipe number and commit sum (R28). -/
def checkSum (recipe sum : Nat) (h : StagedHeader) (segs : List StagedSegment) : Option CheckResult :=
  if recipe = h.header.recipe ∧ sum = commitSum h.words segs then none else some ⟨.sum, none⟩

/-- The header's part of RANGE (R29). -/
def headerInRange (h : Header) : Bool :=
  h.recipe != 0 &&
  h.scanStart ≤ Config.maxPosition && h.scanEnd ≤ Config.maxPosition &&
  h.travelStart ≤ Config.maxPosition && h.travelEnd ≤ Config.maxPosition &&
  100 ≤ h.sliceLength && h.sliceLength ≤ 2000 &&
  (match h.direction with
   | .up => h.scanStart < h.scanEnd && h.travelStart < h.travelEnd
   | .down => h.scanEnd < h.scanStart && h.travelEnd < h.travelStart)

/-- The role fields' part of RANGE (R30). -/
def roleFieldsInRange : RoleFields → Bool
  | .travel v => 1 ≤ v && v ≤ Config.maxSpeed
  | .power _ _ => true
  | .quench q =>
    q.mode ≤ 2 && q.onTime ≤ 1000 && q.offTime ≤ 1000 && q.delayMin ≤ q.delayMax && q.energyLow ≤ q.energyHigh

/-- A segment's part of RANGE (R30). -/
def segmentInRange (g : Segment) : Bool :=
  g.start ≤ Config.maxPosition && g.stop ≤ Config.maxPosition && g.blend ≤ 10000 && roleFieldsInRange g.fields

/-- RANGE (R29, R30). -/
def checkRange (h : Header) (segs : List Segment) : Option CheckResult :=
  if headerInRange h then (segs.find? fun g => !segmentInRange g).map fun g => ⟨.range, some g.index⟩
  else some ⟨.range, none⟩

/-- ORDER over the segments in index order, `prev` the end of the one before (R31). -/
def orderFails : Option Nat → List Segment → Option Nat
  | _, [] => none
  | prev, g :: rest =>
    if g.stop ≤ g.start ∨ g.start < prev.getD 0 then some g.index else orderFails (some g.stop) rest

/-- ORDER (R31). -/
def checkOrder (segs : List Segment) : Option CheckResult :=
  (orderFails none segs).map fun i => ⟨.order, some i⟩

/-- COVERAGE from the second segment on: every segment starts at the end of the one before, and the last reaches the
upper travel edge (R32). -/
def coverageFails (upper : Nat) : Segment → List Segment → Option Nat
  | g, [] => if g.stop < upper then some g.index else none
  | g, n :: rest => if g.stop = n.start then coverageFails upper n rest else some n.index

/-- COVERAGE, in a TRAVEL station (R32). -/
def checkCoverage (h : Header) : List Segment → Option CheckResult
  | [] => none
  | g :: rest =>
    if min h.travelStart h.travelEnd < g.start then some ⟨.coverage, some 0⟩
    else (coverageFails (max h.travelStart h.travelEnd) g rest).map fun i => ⟨.coverage, some i⟩

/-- The six checks in their order; the first failure ends the validation (R25). -/
def validateStaged (role : Role) (recipe sum : Nat) (h : StagedHeader) (segs : List StagedSegment) :
    Option CheckResult :=
  let gs := segs.map (·.segment)
  checkCount h.header gs <|> checkPresence h.header gs <|> checkSum recipe sum h segs <|> checkRange h.header gs <|>
    checkOrder gs <|> (if role = .travel then checkCoverage h.header gs else none)

/-- The result code of a failed check (R25). -/
def commitCode : CommitCheck → ResultCode
  | .count | .presence | .sum => .refusedStaging
  | .range => .refusedRange
  | .order | .coverage => .refusedGeometry

/-! ## Clamps (R33) -/

/-- Which clamps a segment needs. -/
def clampsOf (ratedSpeed : Nat) (g : Segment) : ClampSet :=
  { blend := decide (g.stop - g.start < g.blend)
    speed := match g.fields with | .travel v => decide (ratedSpeed < v) | _ => false
    pulse := match g.fields with | .quench q => q.onTime == 0 || q.offTime == 0 | _ => false }

/-- The segment as clamped. -/
def clampSegment (ratedSpeed : Nat) (g : Segment) : Segment :=
  { g with
    blend := min g.blend (g.stop - g.start)
    fields := match g.fields with
      | .travel v => .travel (min v ratedSpeed)
      | .power h e => .power h e
      | .quench q => .quench { q with onTime := max q.onTime 1, offTime := max q.offTime 1 } }

/-- The clamp set of a copy: each kind of clamp applied at least once. -/
def clampSetOf (ratedSpeed : Nat) (gs : List Segment) : ClampSet :=
  { blend := gs.any fun g => (clampsOf ratedSpeed g).blend
    speed := gs.any fun g => (clampsOf ratedSpeed g).speed
    pulse := gs.any fun g => (clampsOf ratedSpeed g).pulse }

/-- A COMMIT validated in FILLING or BAD: the staging copy and the result code it yields (R24, R25, R33). In BAD too the copy is
validated against the new COMMIT's recipe number and sum, so that it need not fail at the same check (DEDUCED, log entry 54). -/
def commitStaged (role : Role) (ratedSpeed recipe sum : Nat) (g : Staging) : Staging × ResultCode :=
  match g.header with
  | none => (g, .refusedStaging)
  | some h =>
    match validateStaged role recipe sum h g.segments with
    | some c => ({ g with state := .bad, check := some c, clamps := none, clamped := [] }, commitCode c.check)
    | none =>
      let gs := g.segments.map (·.segment)
      ({ g with state := .valid, check := none, clamps := some (clampSetOf ratedSpeed gs),
                clamped := gs.map (clampSegment ratedSpeed) }, .accepted)

/-! ## ARM (R36, R37) -/

/-- Readiness: from staging, from the active copy, or not ready; the candidate header comes with it (R36). -/
inductive Readiness where
  | staging (candidate : Header)
  | active (candidate : Header)
  | notReady
  deriving DecidableEq, Repr

/-- The Profile Store's answer to an ARM (R36). -/
def readiness (p : Store) : Readiness :=
  match p.staging.state with
  | .valid => match p.staging.header with | some h => .staging h.header | none => .notReady
  | .empty => match p.active with | some a => .active a.header | none => .notReady
  | .filling | .bad => .notReady

/-- A QUENCH active copy holds no blend (R35). -/
def activeSegment (g : Segment) : Segment :=
  match g.fields with
  | .quench _ => { g with blend := 0 }
  | _ => g

/-- The clamped staging copy replaces the active copy, and staging becomes EMPTY (R37). -/
def applyStaging (p : Store) : Store :=
  match p.staging.header with
  | some h => { staging := Staging.cleared, active := some ⟨h.header, p.staging.clamped.map activeSegment⟩ }
  | none => p

/-- The slice count of a header (R14). -/
def sliceCountOf (h : Header) : Nat := ceilDiv (distance h.scanStart h.scanEnd) h.sliceLength

/-! ## Segment lookup (R38 to R40) -/

/-- The index of the segment with start ≤ position < end (R38). -/
def findSegment (a : ActiveCopy) (pos : Nat) : Option Nat :=
  a.segments.findIdx? fun g => decide (g.start ≤ pos) && decide (pos < g.stop)

/-- The distance from the entry edge (R39). -/
def entryDistance (d : Dir) (g : Segment) (pos : Nat) : Nat :=
  match d with
  | .up => pos - g.start
  | .down => g.stop - 1 - pos

/-- The entry-side neighbour of segment `k`, when it abuts it (R39). -/
def entryNeighbour (a : ActiveCopy) (k : Nat) (g : Segment) : Option Segment :=
  match a.header.direction with
  | .up => if k = 0 then none else a.segments[k - 1]?.filter fun n => n.stop == g.start
  | .down => a.segments[k + 1]?.filter fun n => n.start == g.stop

/-- A value blended in over the distance `b` from `prev` to `this`, truncated toward zero (R39, R40). -/
def blendIn (prev this d b : Nat) : Nat :=
  if 0 < b ∧ d < b then ((prev : Int) + (((this : Int) - prev) * d).tdiv b).toNat else this

/-- The specific energy a segment asks for, 0 with heat enable off. -/
def heatOf (g : Segment) : Nat :=
  match g.fields with
  | .power true e => e
  | _ => 0

/-- The speed of a TRAVEL segment. -/
def speedOf (g : Segment) : Nat :=
  match g.fields with
  | .travel v => v
  | _ => 0

/-- Specific energy E at a position of a valid active copy (R38, R39). -/
def energyIn (a : ActiveCopy) (pos : Nat) : Nat :=
  match findSegment a pos with
  | none => 0
  | some k =>
    match a.segments[k]? with
    | none => 0
    | some g =>
      match g.fields with
      | .power true e =>
        blendIn (((entryNeighbour a k g).map heatOf).getD 0) e (entryDistance a.header.direction g pos) g.blend
      | _ => 0

/-- The segment speed at a position of a valid active copy; outside the table the speed of the nearest end segment,
unblended (R38, R40). -/
def speedIn (a : ActiveCopy) (pos : Nat) : Nat :=
  match findSegment a pos with
  | some k =>
    match a.segments[k]? with
    | none => 0
    | some g =>
      match entryNeighbour a k g with
      | some n => blendIn (speedOf n) (speedOf g) (entryDistance a.header.direction g pos) g.blend
      | none => speedOf g
  | none =>
    match a.segments.head? with
    | none => 0
    | some g => if pos < g.start then speedOf g else ((a.segments.getLast?).map speedOf).getD 0

/-- The quench settings where there is no segment (R38). -/
def noQuench : QuenchFields :=
  { mode := 0, onTime := 0, offTime := 0, delayMin := 0, delayMax := Config.max16, energyLow := 0,
    energyHigh := Config.max16 }

/-- The quench settings at a position (R38). -/
def quenchIn (a : ActiveCopy) (pos : Nat) : QuenchFields :=
  match (findSegment a pos).bind fun k => a.segments[k]? with
  | some g => match g.fields with | .quench q => q | _ => noQuench
  | none => noQuench

namespace State

/-- Specific energy at the coil (R72). -/
def energyAtTool (s : State) : Nat := (s.store.active.map fun a => energyIn a s.tracker.tool).getD 0

/-- Segment speed at the carriage estimate (R92). -/
def speedAtCarriage (s : State) : Nat := (s.store.active.map fun a => speedIn a s.tracker.estimate).getD 0

/-- Quench settings at the ring (R116, R123). -/
def quenchAtRing (s : State) : QuenchFields := (s.store.active.map fun a => quenchIn a s.tracker.tool).getD noQuench

end State

end Sys2Proof.Machine
end

