-- ==== Sys2Proof/Machine/TravelEngine.lean ====
section
/-! DEFINITION. The Travel Engine (file 05): speed target, speed command, DIR, POSITION moves, the step generator and the
tach windows; the meanings of TRAVEL_CONTROL_STEP, STEP_TOGGLE, TACH_PULSE and TACH_WINDOW_END. -/

namespace Sys2Proof.Machine

/-! ## Speed target (R92, R93) -/

/-- The published estimate is at or past travel_end of the active copy (R92, R98). -/
def State.pastTravelEnd (s : State) : Bool :=
  match s.store.active with
  | some a =>
    (match a.header.direction with
     | .up => decide (a.header.travelEnd ≤ s.tracker.estimate)
     | .down => decide (s.tracker.estimate ≤ a.header.travelEnd))
  | none => false

/-- The ceiling a roster POWER or QUENCH peer contributes: 0 while its entry holds no role data (R93). -/
def ceilingOf (p : Peer) : Nat :=
  match p.data with
  | some (.power c) => c
  | some (.quench c _) => c
  | none => 0

/-- The ceilings of the LIVE roster POWER and QUENCH peers (R92, R93). -/
def State.peerCeilings (s : State) : List Nat :=
  (s.rosterPeers.filter fun p => p.live && p.role != .travel).map ceilingOf

/-- Some roster peer is LOST (R92). -/
def State.rosterLost (s : State) : Bool := s.rosterPeers.any fun p => !p.live

/-- The carriage may move: none of the conditions of R92 that make the target 0 holds. -/
def State.travels (s : State) : Bool :=
  s.cycle.state == .scanning && (s.spindleTarget == 0 || s.travel.atSpeed) && !s.rosterLost && !s.hold &&
  !s.pastTravelEnd

/-- The speed target (R92). -/
def travelTarget (s : State) : Nat :=
  if s.travels then s.peerCeilings.foldl min (min s.speedAtCarriage s.settings.ratedSpeed) else 0

/-- The speed target of a TRAVEL station is recomputed (R92). -/
def recomputeTarget (s : State) : State :=
  if s.runs .travel then s.setTravel { s.travel with target := travelTarget s } else s

/-! ## Speed command and DIR (R94, R95) -/

/-- The carriage is at rest (R95). -/
def State.atRest (s : State) : Bool := s.tracker.window.sum == 0

/-- The command moves toward the target at the acceleration; it is held at 0 while DIR is not the scan direction, and
while the drive is not ready (R94, R95, log entry 13). -/
def cycleDrive (s : State) (t : Travel) : Travel :=
  let command :=
    if t.dir = s.direction ∧ s.actuatorGood = true then moveToward s.settings.acceleration t.target t.command else 0
  { t with command := command, dir := if command = 0 ∧ s.atRest = true then s.direction else t.dir }

/-- The abort stop: the command falls by the abort deceleration, DIR kept (R94, R95). -/
def abortDrive (s : State) (t : Travel) : Travel :=
  { t with command := if s.actuatorGood then t.command - s.settings.abortDecel else 0 }

/-! ## POSITION moves (R100) -/

/-- The target lies ahead of the estimate in the direction of DIR. -/
def aheadOf (d : Dir) (estimate target : Nat) : Bool :=
  match d with
  | .up => decide (estimate < target)
  | .down => decide (target < estimate)

/-- The direction of a move toward its target. -/
def moveDir (estimate target : Nat) : Dir := if estimate ≤ target then .up else .down

/-- Stopping speed over the remaining distance (R100). -/
def stoppingSpeed (acceleration distance : Nat) : Nat := isqrt (2000 * acceleration * distance)

/-- The move has ended: the estimate equals the target, or passed it with the command above 0 (R100, log entry 12). -/
def moveEnds (s : State) (m : Move) (t : Travel) : Bool :=
  s.tracker.estimate == m.target ||
  (t.command != 0 && m.ahead && !aheadOf t.dir s.tracker.estimate m.target)

/-- The speed goal of a move that goes on (R100). -/
def moveGoal (s : State) (m : Move) (t : Travel) : Nat :=
  if s.hold = true ∨ t.dir ≠ moveDir s.tracker.estimate m.target then 0
  else min m.speed (stoppingSpeed s.settings.acceleration (distance m.target s.tracker.estimate))

/-- A control step of a move: it ends with the command at 0 at once, or the command moves toward the goal and DIR turns
once the command is 0 and the carriage at rest (R100). -/
def moveDrive (s : State) (m : Move) (t : Travel) : Travel :=
  if moveEnds s m t then { t with command := 0, move := none }
  else
    let command :=
      if s.actuatorGood then moveToward s.settings.acceleration (moveGoal s m t) t.command else 0
    let dir := if command = 0 ∧ s.atRest = true then moveDir s.tracker.estimate m.target else t.dir
    { t with command := command, dir := dir
             move := some { m with ahead := aheadOf dir s.tracker.estimate m.target } }

/-- The command and DIR a control step gives, by the station state (R94). -/
def drive (s : State) (t : Travel) : Travel :=
  match s.cycle.state with
  | .offline | .joining | .armed => { t with command := 0 }
  | .idle => match t.move with | some m => moveDrive s m t | none => { t with command := 0 }
  | .starting | .scanning | .done => cycleDrive s t
  | .aborted | .silent => abortDrive s t

/-! ## The step generator (R96, R97) -/

/-- The prescalers in ascending order (R96). -/
def prescalers : List Nat := [1, 2, 4, 8, 16, 32, 64, 128]

/-- round_half_up(H / p) for a command v (R96). -/
def roundedHalf (v p : Nat) : Nat := (2000000 + v * p) / (2 * v * p)

/-- Prescaler and preset for a command; none for 0 (R96). -/
def generatorLoad (v : Nat) : Option (Nat × Nat) :=
  if v = 0 then none
  else (prescalers.find? fun p => decide (roundedHalf v p - 1 ≤ Config.max16)).map fun p => (p, roundedHalf v p - 1)

/-- A half-period in REFCLK ticks (R96). -/
def halfTicks (load : Nat × Nat) : Nat := load.1 * (load.2 + 1)

/-- A command that rises from 0: the first toggle comes one new half-period later. An older half-period that still runs with
STEP inactive would have ended without a toggle and is dropped; one with STEP active runs out first (R97, log entry 46). -/
def Travel.risen (first : Nat) (t : Travel) : Travel :=
  if t.half.isSome ∧ t.step = true then { t with rise := some first } else { t with half := some first, rise := none }

/-- The generator is loaded for the command: a load that stands is replaced at the next toggle, a command that rises from 0
starts a half-period, and for 0 the half-period under way is the last (R97). -/
def loadSteps (t : Travel) : Travel :=
  match generatorLoad t.command with
  | none => { t with load := none, rise := none }
  | some l => if t.load.isSome ∧ t.half.isSome then { t with load := some l } else { t.risen (halfTicks l) with load := some l }

/-- The half-period after a toggle that ends an older pulse: what is left to the first toggle, or a whole new half-period
where that has passed (log entry 46). -/
def riseLeft (whole left : Nat) : Nat := if left = 0 then whole else left

/-- The generator's count runs out: STEP toggles and takes the latest load, or comes to rest inactive (R97). -/
def toggle (t : Travel) : Travel :=
  match t.load, t.rise with
  | some l, none => { t with step := !t.step, half := some (halfTicks l) }
  | some l, some n => { t with step := false, half := some (riseLeft (halfTicks l) n), rise := none }
  | none, _ => { t with step := false, half := none, rise := none }

/-! ## Control step -/

/-- The TRAVEL role end: SCANNING, the estimate at or past travel_end, the command 0 (R55, R98). -/
def travelRoleEnd (s : State) : State :=
  if s.cycle.state = .scanning ∧ s.pastTravelEnd = true ∧ s.travel.command = 0 then enterDone .normal s else s

/-- One control step of a TRAVEL station (R90). -/
def travelStep (s : State) : State :=
  let t := { s.travel with target := travelTarget s }
  travelRoleEnd (s.setTravel (loadSteps (drive s t)))

/-- TRAVEL_CONTROL_STEP (R90). -/
def execTravelControlStep (ticks : Nat) (s : State) : Host.Outcome State Fault Refusal :=
  let t := advance ticks s
  settle s (if t.runs .travel then travelStep t else t)

/-- STEP_TOGGLE: only when the half-period under way has run out (R97, log entry 5). -/
def execStepToggle (ticks : Nat) (s : State) : Host.Outcome State Fault Refusal :=
  let t := advance ticks s
  settle s (if Timer.due t.travel.half then t.setTravel (toggle t.travel) else t)

/-! ## Spindle (R103, R104) -/

/-- TACH_PULSE: counted in a TRAVEL station in every state except OFFLINE (R103). -/
def execTachPulse (ticks : Nat) (s : State) : Host.Outcome State Fault Refusal :=
  let t := advance ticks s
  settle s (if t.runs .travel then t.setTravel { t.travel with tachCount := t.travel.tachCount + 1 } else t)

/-- rpm of a window (R103). -/
def rpmOf (count pulses : Nat) : Nat := min Config.max16 (count * 600 / pulses)

/-- |rpm − target| is not above truncate(target / 20) (R103). -/
def nearTarget (rpm target : Nat) : Bool := decide (distance rpm target ≤ target / 20)

/-- A window ends: rpm and the at-speed flag, and the next window (R103). -/
def endTachWindow (s : State) : State :=
  let rpm := rpmOf s.travel.tachCount s.settings.tachPulses
  s.setTravel { s.travel with
    rpm := rpm, atSpeed := nearTarget rpm s.spindleTarget, tachCount := 0, tachWindow := some Config.windowTicks }

/-- SPIN_LOST is reported in these states (R104). -/
def StationState.watchesSpindle : StationState → Bool
  | .starting | .scanning | .done | .aborted => true
  | _ => false

/-- A window end, with SPIN_LOST where the flag falls while SPIN_RUN is active (R103, R104). -/
def tachWindow (s : State) : State :=
  let t := endTachWindow s
  if s.travel.atSpeed && !t.travel.atSpeed && s.spinRun && s.cycle.state.watchesSpindle then reportPlain .spinLost t
  else t

/-- TACH_WINDOW_END: only when the window has run out (R103, log entry 5). -/
def execTachWindowEnd (ticks : Nat) (s : State) : Host.Outcome State Fault Refusal :=
  let t := advance ticks s
  settle s (if t.runs .travel && Timer.due t.travel.tachWindow then tachWindow t else t)

end Sys2Proof.Machine
end

