-- ==== Sys2Proof/Machine/PositionTracker.lean ====
section
/-! DEFINITION. The Position Tracker (file 01): encoder, home, dead reckoning, the monotone hold, zones and slice
crossings; the meanings of POSITION_UPDATE, ENCODER_EDGE, HOME_CAPTURE and COAST_TIMER_EXPIRY. -/

namespace Sys2Proof.Machine

/-! ## The TRAVEL station's carriage -/

/-- ENC_B and the edge of ENC_A give the count's step (R3). -/
def edgeStep (rising encB : Bool) : Int := if rising == encB then -1 else 1

/-- The carriage position computed from the encoder count (R4). -/
def carriagePosition (settings : Settings) (count : BitVec 32) : Int :=
  (settings.homePosition : Int) + (count.toInt * settings.umPerCount).tdiv 10

/-- The computed position lies outside 0..300 000 (R4). -/
def outOfRange (z : Int) : Bool := decide (z < 0) || decide ((Config.maxPosition : Int) < z)

/-- The measured speed from the window (R6). -/
def measuredSpeed (d : Dir) (umPerCount : Nat) (window : List Int) : Nat :=
  let gained : Int := match d with | .up => window.sum | .down => -window.sum
  min Config.maxSpeed (gained.toNat * umPerCount * 10)

/-- The control period's net count joins the window, the oldest leaves, and the measured speed is recomputed (R6). -/
def recordPeriod (s : State) : State :=
  let window := (s.tracker.periodEdges :: s.tracker.window).take 10
  s.setTracker { s.tracker with
    window := window, periodEdges := 0, measured := measuredSpeed s.direction s.settings.umPerCount window }

/-! ## Dead reckoning -/

/-- The elapsed time that R9 counts, µs: at most the coast limit, and the coast limit itself once it has run out. -/
def reckonedTime (s : State) (b : TravelBeacon) : Nat :=
  if s.tracker.coastExpired then s.settings.coastLimit * 1000
  else min (elapsed s.clock.time b.time) (s.settings.coastLimit * 1000)

/-- The raw estimate of a POWER or QUENCH station (R9). -/
def reckoned (s : State) : Nat :=
  match s.tracker.last with
  | none => 0
  | some b =>
    let delta := b.speed * reckonedTime s b / 1000000
    match s.direction with
    | .up => min Config.maxPosition (b.position + delta)
    | .down => b.position - delta

/-! ## The position update -/

/-- The raw estimate, with the out-of-range flag of a TRAVEL station (R4, R7, R9). -/
def computeRaw (s : State) : State :=
  if s.role = some .travel then
    let z := carriagePosition s.settings s.tracker.count
    s.setTracker { s.tracker with raw := clampPosition z, outOfRange := outOfRange z }
  else s.setTracker { s.tracker with raw := reckoned s }

/-- The later of two positions in scan order (R11). -/
def further (d : Dir) (a b : Nat) : Nat :=
  match d with
  | .up => max a b
  | .down => min a b

/-- The monotone hold applies: in cycle, and after the seeding update (R11, R12). -/
def holdApplies (s : State) : Bool := s.inCycle && !s.tracker.seedDue

/-- The published estimate; the held value follows it (R11, R12). -/
def publish (s : State) : State :=
  let e := if holdApplies s then further s.direction s.tracker.raw s.tracker.held else s.tracker.raw
  s.setTracker { s.tracker with estimate := e, held := e }

/-- The tool position (R13). -/
def toolPosition (estimate : Nat) (offset : Int) : Nat := clampPosition ((estimate : Int) + offset)

/-- Zone and slice index of a tool position (R15). -/
def zoneOf (h : Header) (t : Nat) : Zone :=
  match h.direction with
  | .up =>
    if t < h.scanStart then .before
    else if t < h.scanEnd then .inside ((t - h.scanStart) / h.sliceLength)
    else .past
  | .down =>
    if h.scanStart ≤ t then .before
    else if h.scanEnd ≤ t then .inside ((h.scanStart - 1 - t) / h.sliceLength)
    else .past

/-- The crossing record between two zones, where N is the slice count (R16). -/
def crossingOf (n : Nat) (previous current : Zone) : Option Crossing :=
  match previous, current with
  | .inside s, .inside t =>
    if s < t then some ⟨previous, current, t - s, List.range' s (t - s)⟩ else none
  | .inside s, .past => some ⟨previous, current, n - s, List.range' s (n - s)⟩
  | .before, .inside t => some ⟨previous, current, t + 1, List.range t⟩
  | .before, .past => some ⟨previous, current, n + 1, List.range n⟩
  | _, _ => none

/-- The zone and slice index the update computes; UNSET while there is no valid active copy (R14, R15). -/
def newZone (s : State) : Zone :=
  match s.store.active with
  | some a => zoneOf a.header s.tracker.tool
  | none => .unset

/-- Zone and slice index are replaced; in cycle and after the seeding update a change gives a crossing record, which a
POWER station's engine is handed (R16, R82). -/
def updateZone (s : State) : State :=
  let z := newZone s
  let c := if holdApplies s then crossingOf s.tracker.sliceCount s.tracker.zone z else none
  let t := s.setTracker { s.tracker with zone := z, crossing := c }
  if s.role = some .power then t.setPower { t.power with inbox := t.power.inbox ++ c.toList } else t

/-- The seeding update sets the Power Engine's current slice (R81). -/
def seedCurrentSlice (s : State) : State :=
  if s.inCycle && s.tracker.seedDue && s.role == some .power then
    s.setPower { s.power with current := s.tracker.zone.slice }
  else s

/-- The power command is zeroed when the update sets the coil's zone anew to BEFORE, PAST or UNSET (R77; log entry 10). -/
def zeroOutside (was : Zone) (s : State) : State :=
  if s.tracker.zone ≠ was ∧ s.tracker.zone.isInside = false then zeroPower s else s

/-- The part of the update that only POWER and QUENCH stations make: tool position, zone, slice index, crossings
(R2, R7, R13). -/
def updateTool (s : State) : State :=
  if s.role = some .travel then s
  else
    let t := s.setTracker { s.tracker with tool := toolPosition s.tracker.estimate s.settings.toolOffset }
    zeroOutside s.tracker.zone (seedCurrentSlice (updateZone t))

/-- One position update (R2). -/
def positionUpdate (s : State) : State :=
  if s.cycle.state = .offline then s
  else
    let s := if s.role = some .travel then recordPeriod s else s
    let s := updateTool (publish (computeRaw s))
    s.setTracker { s.tracker with seedDue := false }

/-! ## Meanings -/

/-- POSITION_UPDATE (R2). -/
def execPositionUpdate (ticks : Nat) (s : State) : Host.Outcome State Fault Refusal :=
  settle s (positionUpdate (advance ticks s))

/-- The count and the period's net count move by one step (R3, R6). -/
def countEdge (rising encB : Bool) (t : Tracker) : Tracker :=
  { t with count := t.count + BitVec.ofInt 32 (edgeStep rising encB)
           periodEdges := t.periodEdges + edgeStep rising encB }

/-- ENCODER_EDGE: counted in a TRAVEL station in every state except OFFLINE (R3). -/
def execEncoderEdge (ticks : Nat) (rising encB : Bool) (s : State) : Host.Outcome State Fault Refusal :=
  let t := advance ticks s
  let t := t.setPins { t.pins with encA := rising, encB := encB }
  settle s (if t.runs .travel then t.setTracker (countEdge rising encB t.tracker) else t)

/-- A move in flight at a HOME capture: it ends at once, with the command at 0, where the home position equals its target
or lies past a target that lay ahead, and goes on otherwise (R101, log entry 12). -/
def moveAtHome (home : Nat) (t : Travel) : Travel :=
  match t.move with
  | some m =>
    if home = m.target ∨ (m.ahead && !aheadOf t.dir home m.target) = true then { t.stop with move := none } else t
  | none => t

/-- The capture: the count becomes 0, the referenced flag is set, and a move in flight meets it (R5, R101). -/
def captureHome (s : State) : State :=
  s.setTracker { s.tracker with count := 0, referenced := true }
    |>.setTravel (moveAtHome s.settings.homePosition s.travel)

/-- HOME_CAPTURE: only in a TRAVEL station that is IDLE (R5). -/
def execHomeCapture (ticks : Nat) (s : State) : Host.Outcome State Fault Refusal :=
  let t := advance ticks s
  settle s (if t.role = some .travel ∧ t.cycle.state = .idle then captureHome t else t)

/-- The coast limit has run out: the flag is set, a POWER station's command zeroed, and in cycle COAST_EXPIRED is
reported, naming the tracked TRAVEL number (R10, R77, R187). -/
def coastExpires (s : State) : State :=
  let t := zeroPower (s.setTracker { s.tracker with coastTimer := none, coastExpired := true })
  if t.inCycle then report ⟨.coastExpired, t.tracker.tracked, none⟩ t else t

/-- COAST_TIMER_EXPIRY (R10). -/
def execCoastTimerExpiry (ticks : Nat) (s : State) : Host.Outcome State Fault Refusal :=
  let t := advance ticks s
  settle s (if Timer.due t.tracker.coastTimer then coastExpires t else t)

end Sys2Proof.Machine
end

