-- ==== Sys2Proof/Machine/PowerEngine.lean ====
section
/-! DEFINITION. The Power Engine (file 04): feedback, slices and their notices, target, command and ceiling; the meanings of
POWER_CONTROL_STEP and FEEDBACK_WORD; short travel of a POWER station. -/

namespace Sys2Proof.Machine

/-! ## Slices (R81 to R84) -/

/-- Records close slices and samples are credited while the station is STARTING or SCANNING (R81, R82). -/
def State.closesSlices (s : State) : Bool := s.cycle.state == .starting || s.cycle.state == .scanning

/-- Slice energy of a closed slice, 0.1 kJ (R83). -/
def sliceEnergy (share : Nat) : Nat := min Config.max16 (share / 1000)

/-- The shares of `acc` over the slices left: floor(A / m) each, the first with the remainder besides (R82). -/
def sharesOf (acc : Nat) (left : List Nat) : List (Nat × Nat) :=
  match left with
  | [] => []
  | first :: rest =>
    (first, acc / left.length + acc % left.length) :: rest.map fun i => (i, acc / left.length)

/-- One SLICE NOTICE is handed to the SLICE queue; taken or dropped, it sets the chain link and is counted (R83, R84). -/
def handNotice (slice share : Nat) (s : State) : State :=
  let t := handSlice (sliceNoticeFrame s slice (sliceEnergy share)) s
  t.setPower { t.power with link := some slice, notices := satAdd Config.max16 t.power.notices 1 }

/-- The listed slices are closed in order, each with its share (R82). An abort on the way ends it (log entry 15). -/
def closeSlices : List (Nat × Nat) → State → State
  | [], s => s
  | p :: rest, s => if s.closesSlices then closeSlices rest (handNotice p.1 p.2 s) else s

/-- One crossing record taken: its slices closed, then the current slice replaced and the accumulator 0 (R82). -/
def takeRecord (c : Crossing) (s : State) : State :=
  let t := closeSlices (sharesOf s.power.acc c.left) s
  if t.closesSlices then t.setPower { t.power with current := c.current.slice, acc := 0 } else t

/-- Crossing records taken in the order handed; in a state that closes no slices they are retired (R82, R85). -/
def takeRecords : List Crossing → State → State
  | [], s => s
  | c :: rest, s => if s.closesSlices then takeRecords rest (takeRecord c s) else s

/-- Every record handed since the step before is taken (R82). -/
def takeInbox (s : State) : State := takeRecords s.power.inbox (s.setPower { s.power with inbox := [] })

/-- The feedback sample is credited to the current slice (R81). -/
def creditSample (s : State) : State :=
  if s.closesSlices && s.power.current.isSome then
    s.setPower { s.power with acc := satAdd Config.maxAccumulator s.power.acc s.power.feedback }
  else s

/-! ## Target, command and ceiling (R74 to R79) -/

/-- Available power (R78). -/
def availablePower (s : State) : Nat :=
  if s.pins.limit then min s.settings.ratedPower s.power.feedback else s.settings.ratedPower

/-- Carriage speed v_c (R73). -/
def carriageSpeed (s : State) : Nat := if s.trackedLive then s.speedInUse else 0

/-- The conditions under which the target is not 0 (R74). -/
def heats (s : State) : Bool :=
  s.cycle.state == .scanning && s.tracker.zone.isInside && s.enable && !s.hold

/-- E × v_c / 10 000 rounded half up (R74). -/
def powerFormula (energy speed : Nat) : Nat := (energy * speed + 5000) / 10000

/-- The target before the clamp (R74). -/
def wantedPower (s : State) : Nat := if heats s then powerFormula s.energyAtTool (carriageSpeed s) else 0

/-- The power command after a step toward the target: rises are limited by the ramp, falls are not (R76). -/
def rampPower (ramp target command : Nat) : Nat := if command < target then min (command + ramp) target else target

/-- Speed ceiling (R79). -/
def powerCeiling (hold inside : Bool) (energy available : Nat) : Nat :=
  if hold then 0
  else if energy = 0 ∨ !inside then Config.noLimit
  else min Config.noLimit (available * 10000 / energy)

/-- Energy, speed, available power, target, clamp, command and ceiling of a control step (R72 to R79). -/
def computePower (s : State) : State :=
  let target := min (wantedPower s) s.settings.ratedPower
  let clamped := decide (s.settings.ratedPower < wantedPower s)
  s.setPower { s.power with
    energy := s.energyAtTool
    speed := carriageSpeed s
    available := availablePower s
    target := target
    clamped := clamped
    clampedSeen := s.power.clampedSeen || clamped
    command := rampPower s.settings.rampLimit target s.power.command
    ceiling := powerCeiling s.hold s.tracker.zone.isInside s.energyAtTool (availablePower s) }

/-- The POWER role end: SCANNING, the coil PAST, no record untaken (R55, R85). -/
def powerRoleEnd (s : State) : State :=
  if s.cycle.state = .scanning ∧ s.tracker.zone = .past ∧ s.power.inbox = [] then enterDone .normal s else s

/-- One control step of a POWER station (R67): LIMIT is read, the records are taken, the sample is credited, the step's
values are computed, the role end is tested, and the setpoint word goes out. A step that itself leaves SCANNING has sent R77's
word of 0 by then, and its own follows (R68; DEDUCED, log entry 53). -/
def powerStep (limit : Bool) (s : State) : State :=
  let t := s.setPins { s.pins with limit := limit }
  sendSetpoint (powerRoleEnd (computePower (creditSample (takeInbox t))))

/-- POWER_CONTROL_STEP (R67). -/
def execPowerControlStep (ticks : Nat) (limit : Bool) (s : State) : Host.Outcome State Fault Refusal :=
  let t := advance ticks s
  settle s (if t.runs .power then powerStep limit t else t)

/-! ## Feedback (R69) -/

/-- FEEDBACK_WORD: a good word's value, clamped to 10 000, becomes the sample of a POWER station; any other is discarded
(R69), and so is every word in OFFLINE, where no role engine runs (DEDUCED from R181, log entry 41). -/
def execFeedbackWord (ticks : Nat) (value : Nat) (good : Bool) (s : State) : Host.Outcome State Fault Refusal :=
  let t := advance ticks s
  settle s (if t.runs .power && good then t.setPower { t.power with feedback := min Config.maxPower value } else t)

/-! ## Short travel (R86) -/

/-- The current slice, if there is one, is closed with the whole accumulator (R86). -/
def closeCurrent (s : State) : State :=
  match s.power.current with
  | some i =>
    let t := handNotice i s.power.acc s
    t.setPower { t.power with current := none, acc := 0 }
  | none => s

/-- Short travel recognised in a SCANNING POWER station: untaken records, then the open slice, then DONE (R56, R86). -/
def shortTravelPower (s : State) : State :=
  let t := takeInbox s
  if t.cycle.state = .scanning then
    let u := closeCurrent t
    if u.cycle.state = .scanning then enterDone .shortTravel u else u
  else t

end Sys2Proof.Machine
end

