-- ==== Sys2Proof/Machine/QuenchEngine.lean ====
section
/-! DEFINITION. The Quench Engine (file 06): the pending quench list, notices, judgment, the runout, spray and flow; the
meanings of QUENCH_CONTROL_STEP, SOAK_EXPIRY, PULSE_PHASE_EXPIRY, FLOW_PULSE, FLOW_WINDOW_END and FLOOD_TIMER_EXPIRY. -/

namespace Sys2Proof.Machine

/-! ## The pending quench list (R110, R114, R115) -/

/-- A fresh entry (R110). -/
def freshEntry (slice : Nat) : Entry :=
  { slice := slice, energies := [], tFirst := none, tHeat := none, heated := false, lost := false }

/-- An entry put in its place in scan order (R114). -/
def insertEntry (x : Entry) : List Entry → List Entry
  | [] => [x]
  | y :: rest => if x.slice < y.slice then x :: y :: rest else y :: insertEntry x rest

/-- The entry of a slice. -/
def findEntryOf (slice : Nat) (l : List Entry) : Option Entry := l.find? fun e => e.slice == slice

/-- The entry of a slice changed. -/
def changeEntry (slice : Nat) (f : Entry → Entry) (l : List Entry) : List Entry :=
  l.map fun e => if e.slice = slice then f e else e

/-- The entry of a slice taken out. -/
def removeEntry (slice : Nat) (l : List Entry) : List Entry := l.eraseP fun e => e.slice == slice

/-- A pair put in an energy list at its place in stage order (R110). -/
def insertPair (stage energy : Nat) : List (Nat × Nat) → List (Nat × Nat)
  | [] => [(stage, energy)]
  | p :: rest => if stage < p.1 then (stage, energy) :: p :: rest else p :: insertPair stage energy rest

/-- A stage's energy listed, unless the stage is already there: it keeps its first energy (R114). -/
def addPair (stage energy : Nat) (l : List (Nat × Nat)) : List (Nat × Nat) :=
  if l.any (fun p => p.1 == stage) then l else insertPair stage energy l

/-- A notice added to an entry (R114, R115). -/
def addNotice (finalStage : Option Nat) (now : LocalTime) (stage energy : Nat) (e : Entry) : Entry :=
  let first := some (e.tFirst.getD now)
  if finalStage = some stage ∧ e.heated = false then
    { e with tFirst := first, energies := addPair stage energy e.energies, tHeat := some now, heated := true }
  else { e with tFirst := first, energies := addPair stage energy e.energies }

/-- The slice lies above the judged-through index J (R112). -/
def Quench.above (q : Quench) (slice : Nat) : Bool :=
  match q.judged with
  | none => true
  | some j => decide (j < slice)

/-- A fresh entry joins the list, and the created count rises (R114). -/
def Quench.create (slice : Nat) (q : Quench) : Quench :=
  { q with entries := insertEntry (freshEntry slice) q.entries, nCreated := q.nCreated + 1 }

/-! ## Judgment (R116 to R120) -/

/-- The delay of an entry, ms (R117). -/
def delayOf (now : LocalTime) (e : Entry) : Option Nat :=
  (if e.heated then e.tHeat else e.tFirst).map fun t => min Config.max16 (elapsed now t / 1000)

/-- Slice length of the active header. -/
def State.sliceLength (s : State) : Nat :=
  match s.store.active with
  | some a => a.header.sliceLength
  | none => 0

/-- Judged specific energy, J/mm (R118). -/
def judgedEnergy (sliceLength : Nat) (energies : List (Nat × Nat)) : Nat :=
  min Config.max16 ((energies.map (·.2)).sum * 10000 / sliceLength)

/-- The result of an entry judged now against the segment at the ring (R117, R118). -/
def resultOf (s : State) (e : Entry) (unquenched : Bool) : SliceResult :=
  let q := s.quenchAtRing
  let energy := judgedEnergy s.sliceLength e.energies
  let delay := delayOf s.clock.time e
  { slice := e.slice, energies := e.energies, judgedEnergy := energy, delay := delay
    verdict :=
      { late := delay.any fun d => decide (q.delayMax < d)
        short := delay.any fun d => decide (d < q.delayMin)
        low := decide (energy < q.energyLow)
        high := decide (q.energyHigh < energy)
        partialHeat := !e.heated
        lost := e.lost
        untracked := false
        unquenched := unquenched } }

/-- The result of an untracked slice (R119). -/
def untrackedResult (slice : Nat) : SliceResult :=
  { slice := slice, energies := [], judgedEnergy := 0, delay := none
    verdict := { late := false, short := false, low := false, high := false, partialHeat := false, lost := false,
                 untracked := true, unquenched := false } }

/-- The soak one-shot restarts; not once the station has left the scan (R120, R124, log entry 15). -/
def restartSoak (s : State) : State :=
  if s.cycle.state = .scanning then s.setQuench { s.quench with soak := timerMs s.settings.soakTime } else s

/-- The good count rises for a result with no flag; otherwise the rejected count, with SLICE_REJECT (R120). -/
def countVerdict (good : Bool) (s : State) : State :=
  if good then s.setQuench { s.quench with nGood := s.quench.nGood + 1 }
  else reportPlain .sliceReject (s.setQuench { s.quench with nRejected := s.quench.nRejected + 1 })

/-- The judged count rises for a result judged from an entry (R120). -/
def countJudged (fromEntry : Bool) (s : State) : State :=
  if fromEntry then s.setQuench { s.quench with nJudged := s.quench.nJudged + 1 } else s

/-- What is done for each result: SLICE RESULT, verdict counts, judged count, soak, in this order (R120). -/
def deliver (fromEntry : Bool) (r : SliceResult) (s : State) : State :=
  restartSoak (countJudged fromEntry (countVerdict r.verdict.good (handReport (sliceResultFrame s r) s)))

/-- An entry of the list is judged and leaves it; J becomes its slice (R116, R122). -/
def judgeEntry (unquenched : Bool) (e : Entry) (s : State) : State :=
  deliver true (resultOf s e unquenched)
    (s.setQuench { s.quench with entries := removeEntry e.slice s.quench.entries, judged := some e.slice })

/-- A slice is judged: from its entry, as untracked, or passed over (R116, R119). -/
def judgeSlice (slice : Nat) (s : State) : State :=
  match findEntryOf slice s.quench.entries with
  | some e => judgeEntry false e s
  | none =>
    let t := s.setQuench { s.quench with judged := some slice }
    if 0 < s.quenchAtRing.energyLow then deliver false (untrackedResult slice) t else t

/-- Slices judged one after another; an abort on the way ends it (R116, log entry 15). -/
def judgeSlices : List Nat → State → State
  | [], s => s
  | i :: rest, s => if s.cycle.state = .scanning then judgeSlices rest (judgeSlice i s) else s

/-- The ring's reach (R116). -/
def reach (s : State) : Option Nat :=
  match s.tracker.zone with
  | .inside i => some i
  | .past => if s.tracker.sliceCount = 0 then none else some (s.tracker.sliceCount - 1)
  | .before | .unset => none

/-- The slices from J + 1, or 0, through the reach (R116). -/
def slicesToJudge (s : State) : List Nat :=
  let first := match s.quench.judged with | some j => j + 1 | none => 0
  match reach s with
  | some r => List.range' first (r + 1 - first)
  | none => []

/-- Judgment at a control step: while SCANNING and not in a runout (R108, R116, R122). -/
def judgeReached (s : State) : State :=
  if s.cycle.state = .scanning ∧ s.quench.runout = false then judgeSlices (slicesToJudge s) s else s

/-! ## Runout (R122) -/

/-- Entries judged at once in ascending order, each UNQUENCHED besides (R122). -/
def judgeAll : List Entry → State → State
  | [], s => s
  | e :: rest, s => if s.cycle.state = .scanning then judgeAll rest (judgeEntry true e s) else s

/-- Short travel recognised in a SCANNING QUENCH station: the runout, or DONE at once when there is nothing to wait for
(R56, R122). Recognised once (log entry 18). -/
def shortTravelQuench (s : State) : State :=
  if s.quench.runout then s
  else if s.quench.entries = [] ∧ s.quench.soak = none then enterDone .shortTravel s
  else judgeAll s.quench.entries (s.setQuench { s.quench with runout := true })

/-- In a runout the entry of a slice is judged at once (R122). -/
def judgeInRunout (slice : Nat) (s : State) : State :=
  if s.quench.runout then
    match findEntryOf slice s.quench.entries with
    | some e => judgeEntry true e s
    | none => s
  else s

/-! ## Notices (R112 to R115) -/

/-- Notices are applied while the station is STARTING or SCANNING (R112). -/
def State.takesNotices (s : State) : Bool := s.cycle.state == .starting || s.cycle.state == .scanning

/-- The sender and header a notice's reports name (R187). -/
structure NoticeSource where
  sender : StationNo
  captured : Captured
  deriving DecidableEq, Repr

/-- TRAIL_FULL, naming the sender (R114). -/
def reportTrailFull (from_ : NoticeSource) (s : State) : State :=
  report ⟨.trailFull, some from_.sender, some from_.captured⟩ s

/-- A slice inferred lost: its entry is flagged, or created and flagged; beyond N or at or below J nothing is made
(R113). Where the list is full TRAIL_FULL is reported and the notice still goes on to its own slice (DEDUCED, log entry
44). -/
def markLost (from_ : NoticeSource) (slice : Nat) (s : State) : State :=
  if s.quench.above slice && decide (slice < s.tracker.sliceCount) then
    match findEntryOf slice s.quench.entries with
    | some _ =>
      s.setQuench { s.quench with
        entries := changeEntry slice (fun e => { e with lost := true }) s.quench.entries }
    | none =>
      if s.quench.entries.length < Config.listCapacity then
        let q := s.quench.create slice
        judgeInRunout slice <| s.setQuench
          { q with entries := changeEntry slice (fun e => { e with lost := true }) q.entries }
      else reportTrailFull from_ s
  else s

/-- The sender's last-notice record (R113). -/
def Quench.lastNoticeOf (q : Quench) (n : StationNo) : Option Nat := q.lastNotice.getD n.toNat none

/-- The sender's record is set to the notice's own slice (R113). -/
def setLastNotice (n : StationNo) (slice : Nat) (s : State) : State :=
  s.setQuench { s.quench with lastNotice := s.quench.lastNotice.set n.toNat (some slice) }

/-- The chain-link check of a notice (R113). -/
def checkChain (from_ : NoticeSource) (n : NoticeFields) (s : State) : State :=
  match n.previous with
  | none => s
  | some l =>
    if s.quench.lastNoticeOf from_.sender = some l then s
    else
      let t := report ⟨.noticeLost, some from_.sender, some from_.captured⟩ s
      if t.inCycle then markLost from_ l t else t

/-- The late count rises (R112). -/
def countLate (s : State) : State := s.setQuench { s.quench with nLate := s.quench.nLate + 1 }

/-- The stage a notice is taken with; a field of 0 gives a free value (log entry 20). -/
def stageTaken (field : Nat) (s : State) : Nat :=
  if field = 0 then (Config.freeStage s.freeDraws).val + 1 else field

/-- A free value is counted as drawn when the stage field is 0. -/
def countDraw (field : Nat) (s : State) : State := if field = 0 then s.setFreeDraws (s.freeDraws + 1) else s

/-- The notice is added to the entry of its slice, which is in the list (R114, R115). -/
def addToEntry (n : NoticeFields) (s : State) : State :=
  countDraw n.stage <| s.setQuench { s.quench with
    entries := changeEntry n.slice
      (addNotice s.quench.finalStage s.clock.time (stageTaken n.stage s) n.energy) s.quench.entries }

/-- A notice applied to its own slice (R112, R114, R122). -/
def applyNotice (from_ : NoticeSource) (n : NoticeFields) (s : State) : State :=
  if s.quench.above n.slice = false then countLate s
  else if s.tracker.sliceCount ≤ n.slice then reportTrailFull from_ s
  else
    match findEntryOf n.slice s.quench.entries with
    | some _ => judgeInRunout n.slice (addToEntry n s)
    | none =>
      if s.quench.entries.length < Config.listCapacity then
        judgeInRunout n.slice (addToEntry n (s.setQuench (s.quench.create n.slice)))
      else reportTrailFull from_ s

/-- A SLICE NOTICE passed to the Quench Engine: the chain link is compared in every state of a cycle, and in DONE the notice
is late (R112, R113, log entry 14). -/
def takeNotice (from_ : NoticeSource) (n : NoticeFields) (s : State) : State :=
  if s.role ≠ some .quench ∨ s.inCycle = false ∨ n.cycle ≠ s.cycle.number then s
  else
    let t := setLastNotice from_.sender n.slice (checkChain from_ n s)
    if t.takesNotices then applyNotice from_ n t
    else if t.cycle.state = .done then countLate t
    else t

/-! ## Spray (R123, R125) -/

/-- The entry edge of a slice lies within the lead ahead of the ring (R123). -/
def edgeWithinLead (h : Header) (lead ring slice : Nat) : Bool :=
  match h.direction with
  | .up => decide (h.scanStart + slice * h.sliceLength ≤ ring + lead)
  | .down => decide (ring + 1 + slice * h.sliceLength ≤ h.scanStart + lead)

/-- The head entry calls for spray (R123). -/
def headWithinLead (s : State) : Bool :=
  match s.quench.entries.head?, s.store.active with
  | some e, some a => edgeWithinLead a.header s.settings.sprayLead s.tracker.tool e.slice
  | _, _ => false

/-- Spray is demanded (R123). -/
def sprayDemanded (s : State) : Bool :=
  s.quenchAtRing.mode != 0 && (s.quench.soak.isSome || headWithinLead s)

/-- A phase ON begins (R125). -/
def Quench.beginOn (onTime : Nat) (q : Quench) : Quench :=
  { q with spray := true, pulse := .on, pulseTimer := timerMs onTime, openTime := none }

/-- SPRAY at a control step in CONTINUOUS mode (R125); the open time runs while it is open (R126). Without demand a phase under
way goes on, and an ON phase keeps SPRAY open until its timer expires, as its rows say, where R125's first sentence would close
it (DESIGN CHOICE, log entry 57). -/
def continuousStep (demand : Bool) (q : Quench) : Quench :=
  if demand then { q with spray := true, pulse := .idle, pulseTimer := none, openTime := some (q.openTime.getD 0) }
  else if q.pulse = .idle then q.closeSpray
  else q

/-- SPRAY at a control step in PULSED mode (R125). -/
def pulsedStep (demand : Bool) (onTime : Nat) (q : Quench) : Quench :=
  if q.pulse = .idle then (if demand then q.beginOn onTime else q.closeSpray) else { q with openTime := none }

/-- SPRAY at a control step in mode OFF: an ON phase runs to its end (R125). -/
def offStep (q : Quench) : Quench := if q.pulse = .idle then q.closeSpray else { q with openTime := none }

/-- SPRAY and the pulse phase as demand and the mode at the ring ask for them at a control step (R123, R125). -/
def driveSpray (s : State) : Quench :=
  if s.quenchAtRing.mode = 1 then continuousStep (sprayDemanded s) s.quench
  else if s.quenchAtRing.mode = 2 then pulsedStep (sprayDemanded s) s.quenchAtRing.onTime s.quench
  else offStep s.quench

/-- SPRAY and FLOOD at a control step, by the station state: in STARTING, SCANNING and DONE demand is decided and the phase
cycle runs (R123, R125), SPRAY closed in DONE (R44, R108, R127, log entry 17). -/
def setValves (s : State) : State :=
  match s.cycle.state with
  | .starting | .scanning | .done => s.setQuench (limitSpray s.cycle.state (driveSpray s))
  | .aborted | .silent => s
  | .offline | .joining | .idle | .armed => s.setQuench { s.quench.closeSpray with flood := false }

/-! ## Control step -/

/-- Speed ceiling (R129). -/
def quenchCeiling (s : State) : Nat := if s.hold || !s.actuatorGood then 0 else Config.noLimit

/-- Soak over and SPRAY closed. -/
def Quench.sprayOver (q : Quench) : Bool := q.soak.isNone && !q.spray

/-- The QUENCH role end, and the end of a runout (R55, R122). -/
def quenchRoleEnd (s : State) : State :=
  if s.cycle.state = .scanning ∧ s.quench.sprayOver = true then
    if s.quench.runout then enterDone .shortTravel s
    else if s.tracker.zone = .past ∧ s.quench.entries = [] then enterDone .normal s
    else s
  else s

/-- The speed ceiling is computed (R129). -/
def computeCeiling (s : State) : State := s.setQuench { s.quench with ceiling := quenchCeiling s }

/-- One control step of a QUENCH station (R108). -/
def quenchStep (s : State) : State := quenchRoleEnd (computeCeiling (setValves (judgeReached s)))

/-- QUENCH_CONTROL_STEP (R108). -/
def execQuenchControlStep (ticks : Nat) (s : State) : Host.Outcome State Fault Refusal :=
  let t := advance ticks s
  settle s (if t.runs .quench then quenchStep t else t)

/-! ## Timers and flow -/

/-- SOAK_EXPIRY: only when the soak time has passed (R124, log entry 5). -/
def execSoakExpiry (ticks : Nat) (s : State) : Host.Outcome State Fault Refusal :=
  let t := advance ticks s
  settle s (if Timer.due t.quench.soak then t.setQuench { t.quench with soak := none } else t)

/-- What follows a pulse phase: with demand in PULSED mode the other phase, otherwise IDLE with SPRAY closed (R125, log entry
16). -/
def nextPhase (s : State) : Quench :=
  let closed := s.quench.closeSpray
  match s.quench.pulse, sprayDemanded s && s.quenchAtRing.mode == 2 with
  | .on, true => { closed with pulse := .off, pulseTimer := timerMs s.quenchAtRing.offTime }
  | .off, true => s.quench.beginOn s.quenchAtRing.onTime
  | _, _ => { closed with pulse := .idle, pulseTimer := none }

/-- A pulse phase ends, within the limit of the state (R125, R44, log entry 17). -/
def endPulsePhase (s : State) : Quench := limitSpray s.cycle.state (nextPhase s)

/-- PULSE_PHASE_EXPIRY: only when the phase timer has run out (R125, log entry 5). -/
def execPulsePhaseExpiry (ticks : Nat) (s : State) : Host.Outcome State Fault Refusal :=
  let t := advance ticks s
  settle s (if Timer.due t.quench.pulseTimer then t.setQuench (endPulsePhase t) else t)

/-- FLOW_PULSE: counted in a QUENCH station in every state except OFFLINE (R126). -/
def execFlowPulse (ticks : Nat) (s : State) : Host.Outcome State Fault Refusal :=
  let t := advance ticks s
  settle s (if t.runs .quench then t.setQuench { t.quench with flowCount := t.quench.flowCount + 1 } else t)

/-- The window qualifies for the flow check: the open time at its start was at least the settle time and has run
through it (R126). -/
def flowChecked (s : State) : Bool :=
  s.quench.openTime.any fun t => decide (s.settings.settleTime * Config.ticksPerMs + Config.windowTicks ≤ t)

/-- A flow window ends, with FLOW_LOW where it is checked and counted too few pulses (R126). -/
def endFlowWindow (s : State) : State :=
  let t := s.setQuench { s.quench with flowCount := 0, flowWindow := some Config.windowTicks }
  if flowChecked s && decide (s.quench.flowCount < s.settings.flowMinimum) then reportPlain .flowLow t else t

/-- FLOW_WINDOW_END: only when the window has run out (R126, log entry 5). -/
def execFlowWindowEnd (ticks : Nat) (s : State) : Host.Outcome State Fault Refusal :=
  let t := advance ticks s
  settle s (if t.runs .quench && Timer.due t.quench.flowWindow then endFlowWindow t else t)

/-- FLOOD_TIMER_EXPIRY: FLOOD and SPRAY close (R127); only when the flood time has passed (log entry 5). -/
def execFloodTimerExpiry (ticks : Nat) (s : State) : Host.Outcome State Fault Refusal :=
  let t := advance ticks s
  settle s (if Timer.due t.quench.floodTimer then
      t.setQuench { t.quench.closeSpray with flood := false, floodTimer := none }
    else t)

end Sys2Proof.Machine
end

