-- ==== Sys2Proof/Machine/PeerTable.lean ====
section
/-! DEFINITION. The Peer Table (file 07): entries, receipts, role conflicts and the notifications of entry changes; the
meaning of STALENESS_TIMER_EXPIRY and what the table does with a JOIN and a BEACON. -/

namespace Sys2Proof.Machine

/-! ## Entries (R132 to R136) -/

/-- An entry put in the table, in ascending order of numbers; one of the same number is replaced (R134). -/
def putPeer (p : Peer) : List Peer → List Peer
  | [] => [p]
  | q :: rest =>
    if p.number < q.number then p :: q :: rest
    else if p.number = q.number then p :: rest
    else q :: putPeer p rest

/-- The table takes frames of this source: not in OFFLINE, and not 0, 15 or the station's own number (R133). -/
def State.tablesNumber (s : State) (n : StationNo) : Bool :=
  s.cycle.state != .offline && n != 0 && n != 15 && s.ownNumber != some n

/-- A frame of the entry's number is taken: LIVE, with the receipt time, the staleness timer restarted (R133, R138). -/
def heardNow (s : State) (p : Peer) : Peer :=
  { p with live := true, lastFrame := s.clock.time, stale := timerMs s.settings.stalenessLimit }

/-- A frame other than a JOIN or BEACON is taken: an entry that it returns in STARTING waits for a beacon before it lets the
start barrier complete (R140, log entry 47). -/
def returned (s : State) (p : Peer) : Peer :=
  { heardNow s p with awaitsBeacon := p.awaitsBeacon || (!p.live && s.cycle.state == .starting) }

/-- The stage an entry holds: that of the frame in a POWER entry, absent in the others (R132, R135). -/
def stageFor (role : Role) (stage : Nat) : Option Nat := if role = .power then some stage else none

/-- The entry as a JOIN leaves it (R135). -/
def joinEntry (s : State) (n : StationNo) (f : JoinFields) : Peer :=
  { number := n, role := f.role, stage := stageFor f.role f.stage, toolOffset := some f.toolOffset,
    joinOffset := some f.toolOffset, state := .joining, cycle := 0, recipe := 0, live := true, awaitsBeacon := false,
    lastFrame := s.clock.time, lastBeacon := none,
    summary := { fatal := false, nonFatal := false, hold := false }, data := none,
    stale := timerMs s.settings.stalenessLimit }

/-- The entry as a BEACON leaves it; a TRAVEL or QUENCH entry has the tool offset of its last JOIN (R136). -/
def beaconEntry (s : State) (n : StationNo) (f : BeaconFields) : Peer :=
  { number := n, role := f.role, stage := stageFor f.role f.stage
    toolOffset := if f.role = .power then some f.toolOffset else (s.peer n).bind (·.joinOffset)
    joinOffset := (s.peer n).bind (·.joinOffset)
    state := f.state, cycle := f.cycle, recipe := f.recipe, live := true, awaitsBeacon := false, lastFrame := s.clock.time,
    lastBeacon := some s.clock.time, summary := f.summary, data := f.data,
    stale := timerMs s.settings.stalenessLimit }

/-! ## Role conflicts (R141, R142) -/

/-- A frame of number `n` that declares a role and stage conflicts with what the station and its table hold. -/
def conflicts (s : State) (n : StationNo) (role : Role) (stage : Nat) : Bool :=
  match role with
  | .travel =>
    s.role == some .travel || s.tracker.tracked.any (· != n) ||
    s.peers.any fun p => p.number != n && p.role == .travel
  | .power =>
    (s.role == some .power && s.settings.stage == stage) ||
    s.peers.any fun p => p.number != n && p.role == .power && p.stage == some stage
  | .quench => false

/-- ROLE_CONFLICT is reported for a conflicting JOIN or BEACON (R141 to R143). -/
def testConflict (k : Kind) (n : StationNo) (role : Role) (stage : Nat) (s : State) : State :=
  if conflicts s n role stage then report ⟨.roleConflict, some n, some ⟨n, k⟩⟩ s else s

/-! ## Notification of an entry change (R137) -/

/-- A roster peer's beacon shows ABORTED in the station's cycle: the station enters ABORTED (R61). -/
def peerAborts (p : Peer) (s : State) : State :=
  if s.inCycle = true ∧ p.state = .aborted ∧ p.cycle = s.cycle.number then enterAborted (.abortFrom p.number) s else s

/-- The roster's TRAVEL station's beacon shows DONE in the cycle: short travel of a SCANNING station (R56). -/
def peerDone (p : Peer) (s : State) : State :=
  if s.cycle.state = .scanning ∧ p.role = .travel ∧ p.state = .done ∧ p.cycle = s.cycle.number then
    match s.role with
    | some .power => shortTravelPower s
    | some .quench => shortTravelQuench s
    | _ => s
  else s

/-- Cycle Control's part: the start barrier at every change, aborts and short travel at a beacon (R52, R56, R61). -/
def notifyCycle (p : Peer) (beacon : Bool) (s : State) : State :=
  if s.inRoster p.number then
    let t := testBarrier s
    if beacon then peerDone p (peerAborts p t) else t
  else s

/-- The Travel Engine's part at a roster entry, whatever role it had or has: the speed target at once, and the release of
spindle hold (R92, R105). -/
def notifyTravel (p : Peer) (s : State) : State :=
  if s.inRoster p.number then testSpindleHold (recomputeTarget s) else s

/-- The Power Engine's part: the tracked TRAVEL peer marked LOST zeroes the command (R77). -/
def notifyPower (p : Peer) (s : State) : State :=
  if s.tracker.tracked = some p.number ∧ p.live = false then zeroPower s else s

/-- The blocks that act on peers are notified of a changed entry (R137). -/
def notifyPeer (p : Peer) (beacon : Bool) (s : State) : State :=
  notifyPower p (notifyTravel p (notifyCycle p beacon s))

/-! ## Receipts, JOIN and BEACON -/

/-- A frame that is not a JOIN or BEACON: it keeps its sender's entry LIVE, or returns it to LIVE (R133, R140). -/
def receipt (n : StationNo) (s : State) : State :=
  if s.tablesNumber n then
    match s.peer n with
    | some p =>
      let t := s.setPeers (putPeer (returned s p) s.peers)
      if p.live then t else notifyPeer (returned s p) false t
    | none => s
  else s

/-- The table takes a JOIN (R135). -/
def takeJoin (n : StationNo) (f : JoinFields) (s : State) : State :=
  if s.tablesNumber n then
    let p := joinEntry s n f
    notifyPeer p false (testConflict .join n f.role f.stage (s.setPeers (putPeer p s.peers)))
  else s

/-- The last TRAVEL beacon record is replaced, the coast timer restarts, the coast-expired flag is cleared (R8, R10). -/
def takeRecordOf (n : StationNo) (f : BeaconFields) (s : State) : State :=
  s.setTracker { s.tracker with
    tracked := some n
    last := some { position := min Config.maxPosition f.position, speed := min Config.maxSpeed f.speed,
                   time := s.clock.time }
    coastTimer := timerMs s.settings.coastLimit
    coastExpired := false }

/-- A beacon declaring TRAVEL goes to the tracker of a POWER or QUENCH station, which takes it from the tracked TRAVEL
number, the first one heard (R8, R136). -/
def trackTravel (n : StationNo) (f : BeaconFields) (s : State) : State :=
  if f.role = .travel ∧ s.role ≠ some .travel ∧ s.tracker.tracked.getD n = n then takeRecordOf n f s else s

/-- The table takes a BEACON: entry, conflict test, tracker, notification (R136, R137, log entry 19). -/
def takeBeacon (n : StationNo) (f : BeaconFields) (s : State) : State :=
  if s.tablesNumber n then
    let p := beaconEntry s n f
    notifyPeer p true (trackTravel n f (testConflict .beacon n f.role f.stage (s.setPeers (putPeer p s.peers))))
  else s

/-! ## Staleness (R138, R139) -/

/-- The entry becomes LOST, its fields kept and its timer stopped (R138, R139). -/
def lose (p : Peer) : Peer := { p with live := false, stale := none }

/-- PEER_LOST is reported for a roster number in STARTING and SCANNING (R139). -/
def reportLost (n : StationNo) (s : State) : State :=
  if (s.cycle.state = .starting ∨ s.cycle.state = .scanning) ∧ s.inRoster n = true then
    report ⟨.peerLost, some n, none⟩ s
  else s

/-- A LIVE entry whose staleness timer has run out becomes LOST (R139). -/
def losePeer (p : Peer) (s : State) : State :=
  reportLost p.number (notifyPeer (lose p) false (s.setPeers (putPeer (lose p) s.peers)))

/-- STALENESS_TIMER_EXPIRY: only for a LIVE entry whose timer has run out (R139, log entry 5). -/
def execStalenessTimerExpiry (ticks : Nat) (n : StationNo) (s : State) : Host.Outcome State Fault Refusal :=
  let t := advance ticks s
  settle s (match t.peer n with
    | some p => if p.live && Timer.due p.stale then losePeer p t else t
    | none => t)

end Sys2Proof.Machine
end

