-- ==== Sys2Proof/Machine/Reception.lean ====
section
/-! DEFINITION. Reception (file 08, sections 8.5 and 8.6): the end of a reception, discarded frames, duplicates of the
station's number, receipts and destination filtering; the meanings of FRAME_NOT_ACCEPTED, DISCARDED_FRAME,
DUPLICATE_FRAME and RECEPTION_START. -/

namespace Sys2Proof.Machine

/-- A reception has ended; the line is not idle until it has been recessive for 12 bit times (R147, log entry 27). -/
def endReception (s : State) : State := s.setLine { s.line with idle := false, rx := .waiting }

/-- A frame that ends now is a reception: one that began at its start bit, or one that falls whole on an idle line (log entry
27). A reception begins on an idle line alone, so of a frame under way as the receiver waits for the line to go idle, and of the
station's own frame, sent whole or abandoned, nothing is taken (R147, R153, R155, R180). -/
def Line.hears (l : Line) : Bool := l.rx == .receiving || (l.rx == .waiting && l.idle)

/-- What the end of a reception does; where none is under way it does nothing (R155). -/
def hear (act : State → State) (s : State) : State := if s.line.hears then act (endReception s) else s

/-- A frame is discarded: the receive error count rises, saturating, and FRAME_ERRORS is reported when it rises from 15
to 16; in OFFLINE nothing is counted (R155, R156). -/
def discard (s : State) : State :=
  if s.cycle.state = .offline then s
  else
    let t := s.setLine { s.line with rxErr := satAdd 255 s.line.rxErr 1 }
    if t.line.rxErr = Config.frameErrorsCount then reportPlain .frameErrors t else t

/-- DUPLICATE_STATION is reported as established, with the duplicate frame's header (R160, R162). -/
def duplicateEstablished (k : Kind) (s : State) : State :=
  report ⟨.duplicateStation, none, some ⟨s.loader.number, k⟩⟩ s

/-- A duplicate JOIN after joining: the seen report, once (R161, R188). -/
def duplicateSeen (s : State) : State :=
  if s.line.dupSeen then s
  else
    let t := s.setLine { s.line with dupSeen := true }
    handReport (faultNoticeFrame t .duplicateStation none true) t

/-- A good frame whose source is the station's own number (R159 to R162). -/
def duplicate (k : Kind) (s : State) : State :=
  match s.cycle.state with
  | .offline | .silent => s
  | .joining => duplicateEstablished k s
  | .idle | .armed | .starting | .scanning | .done | .aborted =>
    if k = .join then duplicateSeen s else duplicateEstablished k s

/-- The frames R157 discards whatever their destination: a COMMAND frame from a station, and a BEACON, JOIN or SLICE
NOTICE from source 0. -/
def excluded (k : Kind) (source : StationNo) : Bool :=
  if classOf k = .command then source != 0
  else if k = .beacon ∨ k = .join ∨ k = .sliceNotice then source == 0
  else false

/-- The frame is addressed to the station or to all (R158). -/
def State.addressed (s : State) (destination : StationNo) : Bool :=
  destination == broadcast || s.ownNumber == some destination

/-- The frame is accepted (R157, R158). -/
def State.accepts (s : State) (k : Kind) (f : Rx) : Bool := s.addressed f.destination && !excluded k f.source

/-- A frame whose kind the Line Interface knows: it fails FORM or SIZE and is discarded, or it is a duplicate, or its
source is handed to the Peer Table and, if it is accepted, `act` is what its block does (R155 to R159). A JOIN or BEACON
that is accepted is one entry change, receipt included (R137). -/
def receive (k : Kind) (f : Rx) (act : State → State) (s : State) : State :=
  hear (fun t =>
    if rxGood k f = false then discard t
    else if t.ownNumber = some f.source then duplicate k t
    else if t.accepts k f then (if k = .beacon ∨ k = .join then act t else act (receipt f.source t))
    else receipt f.source t) s

/-- A good frame that no block acts on is its sender's receipt (R157, R158). -/
def unaccepted (k : Kind) (f : Rx) (t : State) : State :=
  if rxGood k f = false then discard t
  else if t.ownNumber = some f.source then duplicate k t
  else receipt f.source t

/-- FRAME_NOT_ACCEPTED: a good frame that no block acts on; only the Peer Table's receipt (R157, R158). -/
def execFrameNotAccepted (ticks : Nat) (k : Kind) (f : Rx) (s : State) : Host.Outcome State Fault Refusal :=
  settle s (hear (unaccepted k f) (advance ticks s))

/-- DISCARDED_FRAME, whichever check failed (R155, R156). -/
def execDiscardedFrame (ticks : Nat) (_failed : RxCheck) (s : State) : Host.Outcome State Fault Refusal :=
  settle s (hear discard (advance ticks s))

/-- DUPLICATE_FRAME (R159). -/
def execDuplicateFrame (ticks : Nat) (k : Kind) (s : State) : Host.Outcome State Fault Refusal :=
  settle s (hear (duplicate k) (advance ticks s))

/-- RECEPTION_START: a start bit on an idle line; the station does not begin a frame of its own (R151, R155). -/
def execReceptionStart (ticks : Nat) (s : State) : Host.Outcome State Fault Refusal :=
  let t := advance ticks s
  settle s (if t.line.idle then t.setLine { t.line with idle := false, rx := .receiving } else t)

end Sys2Proof.Machine
end

