-- ==== Sys2Proof/Machine/CycleControl.lean ====
section
/-! DEFINITION. Cycle Control (file 03) and the resets a frame brings (files 10, 11): the meanings of ABORT, ARM,
CYCLE_START, START_TIMER_EXPIRY, CYCLE_END, CLEAR and STATION_RESET. -/

namespace Sys2Proof.Machine

/-! ## ABORT (R60) -/

/-- The ABORT names the cycle of the station (R60). -/
def namesCycle (source : StationNo) (number : Nat) (s : State) : Bool :=
  s.inCycle && (number == s.cycle.number || (number == 0 && source == 0))

/-- The abort-seen count rises, saturating; not in OFFLINE (R191). -/
def countAbort (s : State) : State :=
  if s.cycle.state = .offline then s
  else s.setFault { s.fault with abortSeen := satAdd Config.max16 s.fault.abortSeen 1 }

/-- An accepted ABORT frame (R60). -/
def takeAbort (source : StationNo) (number : Nat) (s : State) : State :=
  if namesCycle source number s then enterAborted (.abortFrom source) s else countAbort s

/-- ABORT (R60). -/
def execAbort (ticks : Nat) (f : Rx) (s : State) : Host.Outcome State Fault Refusal :=
  settle s (receive .abort f (takeAbort f.source (u16 f.words 0)) (advance ticks s))

/-! ## ARM (R46, R47) -/

/-- The code of the first check that fails, in order; none when all pass. -/
def firstFailure : List (Bool × ResultCode) → Option ResultCode
  | [] => none
  | c :: rest => if c.1 then firstFailure rest else some c.2

/-- The LIVE POWER peers (R111, R128). -/
def State.livePower (s : State) : List Peer := s.peers.filter fun p => p.live && p.role == .power

/-- A coil offset is ahead of the ring offset in the scan direction (R128). -/
def coilAhead (d : Dir) (ring coil : Int) : Bool :=
  match d with
  | .up => decide (ring < coil)
  | .down => decide (coil < ring)

/-- |ring offset − coil offset| (R128). -/
def offsetDistance (ring coil : Int) : Nat := (ring - coil).natAbs

/-- The required trail depth for the farthest coil (R128). -/
def requiredDepth (sliceLength farthest : Nat) : Nat := ceilDiv farthest sliceLength + 2

/-- Trail depth and geometry pass for the candidate header and the LIVE POWER peers (R128). -/
def geometryPasses (s : State) (h : Header) : Bool :=
  let ring := s.settings.toolOffset
  !s.livePower.isEmpty &&
  (s.livePower.all fun p => p.toolOffset.any (coilAhead h.direction ring)) &&
  decide (requiredDepth h.sliceLength
    ((s.livePower.map fun p => offsetDistance ring (p.toolOffset.getD ring)).foldl max 0) ≤ Config.listCapacity)

/-- The candidate header of a readiness (R36). -/
def Readiness.candidate : Readiness → Option Header
  | .staging h | .active h => some h
  | .notReady => none

/-- The ARM names the recipe the station has ready (R46, check 2). -/
def recipeReady (recipe : Nat) (r : Readiness) : Bool :=
  r.candidate.any fun h => recipe == 0 || recipe == h.recipe

/-- The checks of an ARM in their order (R46). -/
def armChecks (recipe : Nat) (s : State) : List (Bool × ResultCode) :=
  let r := readiness s.store
  [((s.cycle.state == .idle || s.cycle.state == .done) && !(s.role == some .travel && s.travel.spindleHold),
      .refusedState),
   (recipeReady recipe r, .refusedStaging),
   (!s.isLatched .roleConflict, .refusedConflict),
   (s.groupAClear, .refusedInterlock),
   (s.pins.actReady, .refusedNotReady),
   (s.role != some .travel || s.tracker.referenced, .refusedNotHomed),
   (s.role != some .travel || !s.tracker.outOfRange, .refusedRange),
   (s.role != some .quench || r.candidate.any (geometryPasses s), .refusedGeometry)]

/-- Step 1 of R47: staging applied when the readiness was from staging, and the slice count of a POWER or QUENCH station
recomputed at the ARM itself (R37, R14; DEDUCED, log entry 49). -/
def armStore (s : State) : State :=
  let store := match readiness s.store with | .staging _ => applyStaging s.store | _ => s.store
  let t := s.setStore store
  if s.role = some .travel then t
  else t.setTracker { t.tracker with sliceCount := ((store.active.map fun a => sliceCountOf a.header).getD 0) }

/-- The final stage: the highest stage of the LIVE POWER peers (R111). -/
def finalStageOf (s : State) : Nat := (s.livePower.map fun p => p.stage.getD 0).foldl max 0

/-- The Quench Engine at an accepted ARM (R111, R131). -/
def Quench.armed (finalStage : Nat) (q : Quench) : Quench :=
  { q with
    entries := [], finalStage := some finalStage, judged := none, lastNotice := List.replicate 16 none,
    nCreated := 0, nJudged := 0, nFlushed := 0, nGood := 0, nRejected := 0, nLate := 0, runout := false,
    pulse := .idle, pulseTimer := none, spray := false, flood := false, floodTimer := none, openTime := none }

/-- Steps 2 to 4 of R47, ENABLE inactive (R77), and the POSITION move abandoned with the command at 0 (R101). -/
def enterArmed (s : State) : State :=
  let t := (dropEnable s).setCycle { s.cycle with state := .armed, number := 0, roster := 0, endKind := none }
    |>.setTravel { s.travel.stop with move := none }
  if s.role = some .quench then t.setQuench (t.quench.armed (finalStageOf s)) else t

/-- An ARM is checked, and accepted when every check passes (R46, R47). -/
def takeArm (recipe : Nat) (s : State) : State :=
  match firstFailure (armChecks recipe s) with
  | some c => setResult .arm c s
  | none => setResult .arm .accepted (enterArmed (armStore s))

/-- ARM (R46). -/
def execArm (ticks : Nat) (f : Rx) (s : State) : Host.Outcome State Fault Refusal :=
  settle s (receive .arm f (takeArm (u16 f.words 0)) (advance ticks s))

/-! ## CYCLE START (R49 to R52) -/

/-- Station numbers a roster marks, other than `own`. -/
def rosterNumbers (own : StationNo) (roster : Marks16) : List StationNo :=
  ((List.range 16).map (BitVec.ofNat 4)).filter fun n => n != own && roster.getLsbD n.toNat

/-- How many of the marked stations, the station included, have a role (R50). -/
def rosterCount (role : Role) (roster : Marks16) (s : State) : Nat :=
  ((s.role.toList ++ (rosterNumbers s.loader.number roster).filterMap fun n => (s.peer n).map (·.role)).filter
    (· == role)).length

/-- The roster marks the station's own number (R49). -/
def marksOwn (roster : Marks16) (s : State) : Bool := s.ownNumber.any fun n => roster.getLsbD n.toNat

/-- The roster is valid (R50). -/
def rosterValid (roster : Marks16) (s : State) : Bool :=
  marksOwn roster s && !roster.getLsbD 0 && !roster.getLsbD 15 &&
  ((rosterNumbers s.loader.number roster).all fun n => (s.peer n).isSome) &&
  rosterCount .travel roster s == 1 &&
  1 ≤ rosterCount .power roster s && rosterCount .power roster s ≤ 3 &&
  1 ≤ rosterCount .quench roster s && rosterCount .quench roster s ≤ 3

/-- The checks of a CYCLE START in their order (R49). -/
def startChecks (number : Nat) (roster : Marks16) (s : State) : List (Bool × ResultCode) :=
  [(s.cycle.state == .armed, .refusedState),
   (1 ≤ number && number ≤ 255, .refusedRange),
   (rosterValid roster s, .refusedRoster),
   (s.groupAClear, .refusedInterlock),
   (s.pins.actReady, .refusedNotReady)]

/-- The Power Engine at entry to STARTING (R81, R82, R89). -/
def Power.started (p : Power) : Power :=
  { p with target := 0, command := 0, clamped := false, clampedSeen := false, current := none, acc := 0,
           link := none, notices := 0, inbox := [] }

/-- The Travel Engine of a TRAVEL station at entry to STARTING; in the other roles it keeps its power-on values (R90). DIR
takes the scan direction if the carriage is at rest (R107, log entry 11), and STEP comes to rest with the half-period that
may still run (DEDUCED, log entry 43). -/
def travelStarted (s : State) : Travel :=
  if s.role ≠ some .travel then s.travel
  else { s.travel.stop with target := 0, spindleHold := false, dir := if s.atRest then s.direction else s.travel.dir }

/-- Entry to STARTING, with the start barrier tested once (R51, R52). -/
def enterStarting (number : Nat) (roster : Marks16) (s : State) : State :=
  let t := s.setCycle
      { s.cycle with state := .starting, number := number, roster := roster,
                     startTimer := timerMs s.settings.startTimeout }
    |>.setTracker { s.tracker with seedDue := true }
    |>.setPower s.power.started
    |>.setTravel (travelStarted s)
    |>.setSched { s.sched with dropCount := 0 }
  testBarrier t

/-- A CYCLE START: not meant for the station, refused, or accepted (R49). -/
def takeCycleStart (number : Nat) (roster : Marks16) (s : State) : State :=
  if marksOwn roster s then
    match firstFailure (startChecks number roster s) with
    | some c => setResult .cycleStart c s
    | none => enterStarting number roster (setResult .cycleStart .accepted s)
  else s

/-- CYCLE_START (R49). -/
def execCycleStart (ticks : Nat) (f : Rx) (s : State) : Host.Outcome State Fault Refusal :=
  settle s (receive .cycleStart f (takeCycleStart (u16 f.words 0) (wordAt f.words 1)) (advance ticks s))

/-- The start timer has run out with the barrier open: START_TIMEOUT names the lowest roster number that holds it
(R53, R145). -/
def startTimeout (s : State) : State :=
  report ⟨.startTimeout, s.rosterOthers.find? s.holdsBarrier, none⟩ (s.setCycle { s.cycle with startTimer := none })

/-- START_TIMER_EXPIRY: only in STARTING when the timer has run out (R53, log entry 5). -/
def execStartTimerExpiry (ticks : Nat) (s : State) : Host.Outcome State Fault Refusal :=
  let t := advance ticks s
  settle s (if t.cycle.state = .starting ∧ Timer.due t.cycle.startTimer = true then startTimeout t else t)

/-! ## CYCLE END (R59) -/

/-- The CYCLE END is accepted: in DONE for this cycle with no spindle hold running in a TRAVEL station, in ARMED for
cycle 0 (R59). -/
def cycleEndAccepted (number : Nat) (s : State) : Bool :=
  match s.cycle.state with
  | .done => (number == 0 || number == s.cycle.number) && !(s.role == some .travel && s.travel.spindleHold)
  | .armed => number == 0
  | _ => false

/-- A CYCLE END (R59). -/
def takeCycleEnd (number : Nat) (s : State) : State :=
  if cycleEndAccepted number s then setResult .cycleEnd .accepted (enterIdle s)
  else setResult .cycleEnd .refusedState s

/-- CYCLE_END (R59). -/
def execCycleEnd (ticks : Nat) (f : Rx) (s : State) : Host.Outcome State Fault Refusal :=
  settle s (receive .cycleEnd f (takeCycleEnd (u16 f.words 0)) (advance ticks s))

/-! ## CLEAR (R65, R193) -/

/-- What the Fault Unit and the Line Interface clear (R193, R156, R161). -/
def clearFaults (s : State) : State :=
  s.setFault { s.fault with latches := 0, record := none, cause := none }
    |>.setLine { s.line with rxErr := 0, dupSeen := false }

/-- ABORTED can be cleared: FLOOD closed, and in a TRAVEL station command 0 and no spindle hold (R65). -/
def clearable (s : State) : Bool :=
  !s.quench.flood && (s.role != some .travel || (s.travel.command == 0 && !s.travel.spindleHold))

/-- A CLEAR, by the station state; in DONE it is accepted while spindle hold runs too (R65; DEDUCED, log entry 51). -/
def takeClear (s : State) : State :=
  match s.cycle.state with
  | .offline | .silent => setResult .clear .refusedState s
  | .aborted =>
    if clearable s then setResult .clear .accepted (enterIdle (clearFaults s)) else setResult .clear .refusedState s
  | .joining | .idle | .armed | .starting | .scanning | .done => setResult .clear .accepted (clearFaults s)

/-- CLEAR (R65). -/
def execClear (ticks : Nat) (f : Rx) (s : State) : Host.Outcome State Fault Refusal :=
  settle s (receive .clear f takeClear (advance ticks s))

/-! ## STATION RESET (R184, R185) -/

/-- Cycle Control after a STATION RESET, the state still to be set (R42). -/
def Cycle.stationReset (c : Cycle) : Cycle :=
  { c with number := 0, roster := 0, startTimer := none, scanTenths := 0, scanTicks := 0, endKind := none,
           last := some (.stationReset, .accepted), joinWindow := none }

/-- The Position Tracker after a STATION RESET; zone and slice count are set at the reset itself (R18, R185; DEDUCED, log entry
48), and the crossing record of the latest update and a seeding that is due go (DESIGN CHOICE, log entry 48). -/
def Tracker.stationReset (t : Tracker) : Tracker :=
  { t with zone := .unset, sliceCount := 0, seedDue := false, crossing := none }

/-- The Power Engine after a STATION RESET: the feedback sample and the values of the latest step kept (R89; energy, speed and
available power: DESIGN CHOICE, log entry 55). -/
def Power.stationReset (p : Power) : Power :=
  { p with target := 0, command := 0, clamped := false, clampedSeen := false, current := none, acc := 0,
           link := none, notices := 0, inbox := [] }

/-- The Travel Engine after a STATION RESET (R107). -/
def Travel.stationReset (t : Travel) : Travel := { t.stop with target := 0, move := none, spindleHold := false }

/-- The Quench Engine after a STATION RESET: the flow window is kept (R131), and the ceiling until the next control step (DESIGN
CHOICE, log entry 55). -/
def Quench.stationReset (q : Quench) : Quench :=
  { Quench.powerOn with flowCount := q.flowCount, flowWindow := q.flowWindow, ceiling := q.ceiling }

/-- The Line Interface after a STATION RESET (R164). -/
def Line.stationReset (l : Line) : Line := { l with attempt := none, txErr := 0, rxErr := 0, dupSeen := false }

/-- Every block's part of an accepted STATION RESET (R185); from a cycle the setpoint word goes out (R77). -/
def resetBlocks (s : State) : State :=
  let t := if s.inCycle then zeroPower s else s
  t.setCycle t.cycle.stationReset
    |>.setStore Store.powerOn
    |>.setTracker t.tracker.stationReset
    |>.setPower t.power.stationReset
    |>.setTravel t.travel.stationReset
    |>.setQuench t.quench.stationReset
    |>.setSched Sched.powerOn
    |>.setLine t.line.stationReset
    |>.setFault FaultUnit.powerOn
    |>.setInterlock { t.interlock with drop := 0, carried := 0 }

/-- A STATION RESET, by the station state (R184). -/
def takeStationReset (s : State) : State :=
  match s.cycle.state with
  | .offline => setResult .stationReset .refusedState s
  | .silent => enterJoining (resetBlocks s)
  | .joining | .idle | .armed | .starting | .scanning | .done | .aborted =>
    let t := resetBlocks s
    startBeaconTimer (t.setCycle { t.cycle with state := .idle })

/-- STATION_RESET (R184). -/
def execStationReset (ticks : Nat) (f : Rx) (s : State) : Host.Outcome State Fault Refusal :=
  settle s (receive .stationReset f takeStationReset (advance ticks s))

end Sys2Proof.Machine
end

