-- ==== Sys2Proof/Machine/FrameCommands.lean ====
section
/-! DEFINITION. The frames that other blocks than Cycle Control take: the meanings of RECIPE_HEADER, SEGMENT, COMMIT,
POSITION, FAULT_QUERY, BEACON, JOIN and SLICE_NOTICE. -/

namespace Sys2Proof.Machine

/-! ## Recipe frames (R21 to R24) -/

/-- The staging copy replaced and the result stored. -/
def storeStaging (k : Kind) (g : Staging) (c : ResultCode) (s : State) : State :=
  setResult k c (s.setStore { s.store with staging := g })

/-- A RECIPE HEADER (R21, R22). -/
def takeHeader (ws : List Word) (s : State) : State :=
  if s.onLine then storeStaging .recipeHeader (stageHeader ws) .accepted s
  else setResult .recipeHeader .refusedState s

/-- RECIPE_HEADER (R22). -/
def execRecipeHeader (ticks : Nat) (f : Rx) (s : State) : Host.Outcome State Fault Refusal :=
  settle s (receive .recipeHeader f (takeHeader f.words) (advance ticks s))

/-- A SEGMENT by the staging state (R23). -/
def segmentResult (x : StagedSegment) (g : Staging) : Staging × ResultCode :=
  if 32 ≤ x.segment.index then (g, .refusedRange)
  else
    match g.state with
    | .empty | .valid => (g, .refusedStaging)
    | .filling | .bad => (stageSegment x g, .accepted)

/-- A SEGMENT; one for another role is not meant for the station (R21, R23, log entry 30). -/
def takeSegment (ws : List Word) (s : State) : State :=
  match s.role with
  | some r =>
    if declaredRole .segment ws ≠ roleCode r then s
    else if s.onLine then
      let x := segmentResult ⟨segmentOf r ws, ws⟩ s.store.staging
      storeStaging .segment x.1 x.2 s
    else setResult .segment .refusedState s
  | none => s

/-- SEGMENT (R23). -/
def execSegment (ticks : Nat) (f : Rx) (s : State) : Host.Outcome State Fault Refusal :=
  settle s (receive .segment f (takeSegment f.words) (advance ticks s))

/-- A COMMIT by the staging state (R24). -/
def commitResult (role : Role) (ratedSpeed recipe sum : Nat) (g : Staging) : Staging × ResultCode :=
  match g.state with
  | .empty | .valid => (g, .refusedStaging)
  | .filling | .bad => commitStaged role ratedSpeed recipe sum g

/-- A COMMIT (R21, R24). -/
def takeCommit (recipe sum : Nat) (s : State) : State :=
  match s.onLine, s.role with
  | true, some r =>
    let x := commitResult r s.settings.ratedSpeed recipe sum s.store.staging
    storeStaging .commit x.1 x.2 s
  | _, _ => setResult .commit .refusedState s

/-- COMMIT (R24). -/
def execCommit (ticks : Nat) (f : Rx) (s : State) : Host.Outcome State Fault Refusal :=
  settle s (receive .commit f (takeCommit (u16 f.words 0) (u16 f.words 1)) (advance ticks s))

/-! ## POSITION (R99) -/

/-- A POSITION frame (R99). -/
def takePosition (target speed : Nat) (s : State) : State :=
  if s.role ≠ some .travel ∨ s.cycle.state ≠ .idle then setResult .position .refusedState s
  else if Config.maxPosition < target ∨ speed = 0 ∨ Config.maxSpeed < speed then
    setResult .position .refusedRange s
  else
    setResult .position .accepted <| s.setTravel { s.travel with
      move := some { target := target, speed := min speed s.settings.ratedSpeed
                     ahead := aheadOf s.travel.dir s.tracker.estimate target } }

/-- POSITION (R99). -/
def execPosition (ticks : Nat) (f : Rx) (s : State) : Host.Outcome State Fault Refusal :=
  settle s (receive .position f (takePosition (u32 f.words 0) (u16 f.words 2)) (advance ticks s))

/-! ## FAULT QUERY (R194) -/

/-- A FAULT QUERY (R194). -/
def takeFaultQuery (s : State) : State :=
  if s.onLine then handReport (faultRecordFrame s) (setResult .faultQuery .accepted s)
  else setResult .faultQuery .refusedState s

/-- FAULT_QUERY (R194). -/
def execFaultQuery (ticks : Nat) (f : Rx) (s : State) : Host.Outcome State Fault Refusal :=
  settle s (receive .faultQuery f takeFaultQuery (advance ticks s))

/-! ## Stations' frames -/

/-- A BEACON's words taken by the Peer Table. -/
def takeBeaconWords (source : StationNo) (ws : List Word) (s : State) : State :=
  match beaconOf ws with
  | some b => takeBeacon source b s
  | none => s

/-- BEACON (R136). -/
def execBeacon (ticks : Nat) (f : Rx) (s : State) : Host.Outcome State Fault Refusal :=
  settle s (receive .beacon f (takeBeaconWords f.source f.words) (advance ticks s))

/-- A JOIN's words taken by the Peer Table. -/
def takeJoinWords (source : StationNo) (ws : List Word) (s : State) : State :=
  match joinOf ws with
  | some j => takeJoin source j s
  | none => s

/-- JOIN (R135). -/
def execJoin (ticks : Nat) (f : Rx) (s : State) : Host.Outcome State Fault Refusal :=
  settle s (receive .join f (takeJoinWords f.source f.words) (advance ticks s))

/-- SLICE_NOTICE (R112). -/
def execSliceNotice (ticks : Nat) (f : Rx) (s : State) : Host.Outcome State Fault Refusal :=
  settle s (receive .sliceNotice f (takeNotice ⟨f.source, ⟨f.source, .sliceNotice⟩⟩ (noticeOf f.words))
    (advance ticks s))

end Sys2Proof.Machine
end

