-- ==== Sys2Proof/Machine/Inputs.lean ====
section
/-! DEFINITION. The actuator inputs (files 04 to 06) and the interlock inputs (file 11): the meanings of
ACT_FAULT_ACTIVE, ACT_READY_INACTIVE, ACTUATOR_INPUT_RECOVERY and INTERLOCK_SAMPLE. -/

namespace Sys2Proof.Machine

/-! ## Actuator inputs (R70, R71, R91, R109) -/

/-- The direct effect of an actuator input that drops, whatever the mask or severity: in a POWER station ENABLE becoming
inactive zeroes the command (R77); in a TRAVEL station the command stops and a move is abandoned (R91, R101); a QUENCH
station's valves are not changed (R109). `enabled` is ENABLE before the change. -/
def actuatorDrops (enabled : Bool) (s : State) : State :=
  if s.runs .travel then s.setTravel { s.travel.stop with move := none }
  else if enabled then zeroPower s
  else s

/-- ACT_FAULT has gone active: its direct effect, and ACTUATOR_FAULT in every state except OFFLINE (R71). -/
def actuatorTrips (s : State) : State :=
  let t := actuatorDrops s.enable (s.setPins { s.pins with actFault := true })
  if t.cycle.state = .offline then t else reportPlain .actuatorFault t

/-- ACT_FAULT_ACTIVE: a change only when the input was inactive (R71). -/
def execActFaultActive (ticks : Nat) (s : State) : Host.Outcome State Fault Refusal :=
  let t := advance ticks s
  settle s (if t.pins.actFault then t else actuatorTrips t)

/-- ACT_READY has gone inactive: its direct effect, and ACTUATOR_FAULT in STARTING, SCANNING and DONE (R71). -/
def actuatorUnready (s : State) : State :=
  let t := actuatorDrops s.enable (s.setPins { s.pins with actReady := false })
  if t.inCycle then reportPlain .actuatorFault t else t

/-- ACT_READY_INACTIVE: a change only when the input was active (R71). -/
def execActReadyInactive (ticks : Nat) (s : State) : Host.Outcome State Fault Refusal :=
  let t := advance ticks s
  settle s (if t.pins.actReady then actuatorUnready t else t)

/-- ACTUATOR_INPUT_RECOVERY: the input's level; ENABLE and DRV_EN follow it, and nothing is reported (R70, R71, R91). -/
def execActuatorInputRecovery (ticks : Nat) (input : ActuatorInput) (s : State) :
    Host.Outcome State Fault Refusal :=
  let t := advance ticks s
  settle s (t.setPins (match input with
    | .faultCleared => { t.pins with actFault := false }
    | .readyActive => { t.pins with actReady := true }))

/-! ## Interlock inputs (R195 to R197) -/

/-- Which inputs are active, by pin level and polarity (R195). -/
def activeInputs (s : State) (pins : Marks8) : Marks8 := pins ^^^ s.settings.polarity

/-- The inputs that fall at a sample; none at the first sample after OFFLINE (R195). -/
def fallsAt (s : State) (level : Marks8) : Marks8 := if s.interlock.sampled then s.interlock.level &&& ~~~level else 0

/-- The sample is taken: levels, and for each fall its drop latch set and its carried mark removed (R195, R197). -/
def takeSample (level falls : Marks8) (i : Interlock) : Interlock :=
  { level := level, sampled := true, drop := i.drop ||| falls, carried := i.carried &&& ~~~falls }

/-- The group-B hold becoming active zeroes the power command (R77, R196); one that stands as the station leaves OFFLINE has
not become active (DEDUCED, log entry 50). -/
def holdBegins (held : Bool) (s : State) : State := if !held && s.hold then zeroPower s else s

/-- A group-A input that falls in STARTING or SCANNING reports INTERLOCK_TRIP (R195). -/
def groupATrips (falls : Marks8) (s : State) : State :=
  if falls &&& s.settings.groupA ≠ 0 ∧ (s.cycle.state = .starting ∨ s.cycle.state = .scanning) then
    reportPlain .interlockTrip s
  else s

/-- One sample of IL7..IL0, in every state except OFFLINE (R195). -/
def interlockSample (pins : Marks8) (s : State) : State :=
  if s.cycle.state = .offline then s
  else
    let level := activeInputs s pins
    let falls := fallsAt s level
    groupATrips falls (holdBegins s.hold (s.setInterlock (takeSample level falls s.interlock)))

/-- INTERLOCK_SAMPLE (R195). -/
def execInterlockSample (ticks : Nat) (pins : Marks8) (s : State) : Host.Outcome State Fault Refusal :=
  settle s (interlockSample pins (advance ticks s))

end Sys2Proof.Machine
end

