-- ==== Sys2Proof/Machine/StartUp.lean ====
section
/-! DEFINITION. Power-on reset and the configuration load (file 10): straps, memory image, sum, ranges and the outcome of
the load; the meanings of POWER_ON_RESET and CONFIGURATION_LOAD. -/

namespace Sys2Proof.Machine

/-! ## The configuration memory (R177 to R179) -/

/-- The words of a whole memory image. -/
def imageWords : Nat := 64

/-- A value of 0 stands for the default (R178). -/
def orDefault (dflt v : Nat) : Nat := if v = 0 then dflt else v

/-- The sum of the words, modulo 65 536 (R178). -/
def imageSum (m : List Word) : Nat := (m.map (·.toNat)).sum % 65536

/-- The eight codes of a phase table word, the first in bits 15..14 (R178). -/
def phaseCodes (w : Word) : List Nat := (List.range 8).map fun i => bitsOf w (15 - 2 * i) (14 - 2 * i)

/-- The class of a phase table code (R178). -/
def phaseClassOf : Nat → PhaseClass
  | 1 => .beacon
  | 2 => .slice
  | _ => .report

/-- The codes of words 28 and 29. -/
def imagePhase (m : List Word) : List Nat := phaseCodes (wordAt m 28) ++ phaseCodes (wordAt m 29)

/-- The phase table of an image: the default when both words are 0 (R169, R179). -/
def imagePhaseTable (m : List Word) : List PhaseClass :=
  if u16 m 28 = 0 ∧ u16 m 29 = 0 then defaultPhaseTable else (imagePhase m).map phaseClassOf

/-- Words 28 and 29 are in range: both 0, or every code 1..3 and each class named (R179). -/
def phaseInRange (m : List Word) : Bool :=
  (u16 m 28 == 0 && u16 m 29 == 0) ||
  ((imagePhase m).all (fun c => c != 0) && [1, 2, 3].all fun c => (imagePhase m).contains c)

/-- The settings an image gives, with defaults applied (R178). -/
def settingsOf (m : List Word) : Settings :=
  { lineRateCode := orDefault 2 (u16 m 0)
    beaconPeriod := orDefault 20 (u16 m 1)
    stalenessLimit := orDefault 10 (u16 m 2)
    coastLimit := orDefault 6 (u16 m 3)
    startTimeout := orDefault 500 (u16 m 4)
    toolOffset := s32 m 5
    stage := u16 m 7
    ratedPower := u16 m 8
    rampLimit := u16 m 9
    ratedSpeed := u16 m 10
    acceleration := u16 m 11
    abortDecel := u16 m 12
    umPerCount := u16 m 13
    homePosition := u32 m 14
    tachPulses := u16 m 16
    flowMinimum := u16 m 17
    settleTime := u16 m 18
    sprayLead := u16 m 19
    soakTime := u16 m 20
    floodTime := u16 m 21
    mask := wordAt m 22
    severity := wordAt m 23
    attention := wordAt m 24
    polarity := (wordAt m 25).truncate 8
    groupA := (wordAt m 26).truncate 8
    groupB := (wordAt m 27).truncate 8
    phaseTable := imagePhaseTable m }

/-- `lo ≤ v ≤ hi`. -/
def within (lo hi v : Nat) : Bool := decide (lo ≤ v) && decide (v ≤ hi)

/-- Fields checked in every station (R178, R179). -/
def commonInRange (m : List Word) : Bool :=
  let g := settingsOf m
  within 1 3 g.lineRateCode && within 5 200 g.beaconPeriod && within 2 255 g.stalenessLimit &&
  within 1 50 g.coastLimit && within 10 2000 g.startTimeout &&
  decide (-150000 ≤ g.toolOffset) && decide (g.toolOffset ≤ 150000) &&
  g.mask &&& 0x000F == 0 && g.severity &&& 0x000F == 0x000F &&
  wordAt m 25 &&& 0xFF00 == 0 && wordAt m 26 &&& 0xFF00 == 0 && wordAt m 27 &&& 0xFF00 == 0 && phaseInRange m

/-- Fields checked in a station of the role alone (R178). -/
def roleInRange (role : Role) (g : Settings) : Bool :=
  match role with
  | .travel =>
    within 1 5000 g.ratedSpeed && within 1 1000 g.acceleration && within 1 1000 g.abortDecel &&
    within 1 10 g.umPerCount && within 0 Config.maxPosition g.homePosition && within 1 1000 g.tachPulses
  | .power => within 1 3 g.stage && within 1 10000 g.ratedPower && within 1 1000 g.rampLimit
  | .quench =>
    within 0 10000 g.settleTime && within 0 10000 g.sprayLead && within 0 10000 g.soakTime &&
    within 1 60000 g.floodTime

/-- The image passes: 64 words answered, sum 0, every field in range (R177 to R179). -/
def imageGood (role : Role) (m : List Word) : Bool :=
  m.length == imageWords && imageSum m == 0 && commonInRange m && roleInRange role (settingsOf m)

/-! ## The outcome of the load (R180) -/

/-- The line rate of a code (R178). -/
def rateOfCode : Nat → LineRate
  | 1 => .mbit1
  | 3 => .mbit4
  | _ => .mbit2

/-- The tracker's power-on values computed from the configuration (R18, R180). -/
def Tracker.loaded (role : Role) (g : Settings) (t : Tracker) : Tracker :=
  let raw := if role = .travel then g.homePosition else 0
  { t with raw := raw, held := raw, estimate := raw, tool := clampPosition g.toolOffset }

/-- The load is bad: CONFIG_BAD is latched, the station stays OFFLINE (R180). -/
def loadBad (s : State) : State := reportPlain .configBad (s.setLoader { s.loader with status := .bad })

/-- The load is good: the values are handed to the blocks, the rate is set, the line taken as busy, the role's window
starts (log entry 25), and the station enters JOINING (R180). -/
def loadGood (role : Role) (g : Settings) (s : State) : State :=
  let t := s.setLoader { s.loader with status := .good }
    |>.setSettings g
    |>.setLine { s.line with rate := rateOfCode g.lineRateCode, idle := false, rx := .waiting }
    |>.setTracker (s.tracker.loaded role g)
    |>.setTravel { s.travel with tachWindow := if role = .travel then some Config.windowTicks else none }
    |>.setQuench { s.quench with flowWindow := if role = .quench then some Config.windowTicks else none }
  enterJoining t

/-- The load ends with what the memory answered (R177, R180). -/
def endLoad (memory : List Word) (s : State) : State :=
  let m := memory.take imageWords
  let t := s.setLoader { s.loader with image := m }
  match s.role with
  | some r => if imageGood r m then loadGood r (settingsOf m) t else loadBad t
  | none => loadBad t

/-- CONFIGURATION_LOAD: only while a load is under way (R177 to R180). -/
def execConfigurationLoad (ticks : Nat) (memory : List Word) (s : State) : Host.Outcome State Fault Refusal :=
  let t := advance ticks s
  settle s (if t.loader.status = .loading then endLoad memory t else t)

/-! ## Power-on reset (R176) -/

/-- Straps that make the load fail at once (R176). -/
def strapsBad (stn : StationNo) (roleCode : BitVec 2) : Bool := stn == 0 || stn == 15 || roleCode == 0

/-- Every block at its power-on values, the straps sampled; input levels, the queue and the count of free values drawn
stay (R176, log entry 31). The memory image is empty until it has been read (DESIGN CHOICE, log entry 56). -/
def powerOn (stn : StationNo) (roleCode : BitVec 2) (s : State) : State :=
  let t := State.reset
    |>.setPins s.pins
    |>.setFreeDraws s.freeDraws
    |>.setPending s.pending
    |>.setLoader { number := stn, roleCode := roleCode, image := [], status := .loading }
  if strapsBad stn roleCode then loadBad t else t

/-- POWER_ON_RESET: RST_N goes inactive (R176). -/
def execPowerOnReset (ticks : Nat) (stn : StationNo) (roleCode : BitVec 2) (s : State) :
    Host.Outcome State Fault Refusal :=
  settle s (powerOn stn roleCode (advance ticks s))

end Sys2Proof.Machine
end

