-- ==== Sys2Proof/Machine/Transmit.lean ====
section
/-! DEFINITION. Sending (files 08 and 09): the line falling idle, the outcomes of an attempt, and the beacon, JOIN and
join-window timers; the meanings of LINE_IDLE, SENT_WHOLE, LOST_CONTENTION, ABANDONED, BEACON_TIMER_EXPIRY,
JOIN_TIMER_EXPIRY and JOIN_WINDOW_END. -/

namespace Sys2Proof.Machine

/-- LINE_IDLE: the line has been recessive for 12 bit times; the next offer is chosen and begun (R147, R151, R168). While
the station drives a frame the line is not idle. -/
def execLineIdle (ticks : Nat) (s : State) : Host.Outcome State Fault Refusal :=
  let t := advance ticks s
  settle s (if t.line.attempt.isNone then tryBegin (t.setLine { t.line with idle := true, rx := .waiting }) else t)

/-! ## Outcomes of an attempt (R170) -/

/-- The latches a BEACON sent whole carried, still marked carried, are cleared (R197). A latch has one carried mark, whichever
beacon's build set it: a latch that fell again after the sent beacon was built, and that a newer beacon's build has marked since,
is cleared too, and not kept for the newer one to clear (DESIGN CHOICE, log entry 58). -/
def clearCarried (f : Frame) (s : State) : State :=
  if f.kind = .beacon then
    let cleared := carriedLatches f &&& s.interlock.carried
    s.setInterlock { s.interlock with drop := s.interlock.drop &&& ~~~cleared
                                      carried := s.interlock.carried &&& ~~~cleared }
  else s

/-- The attempt of `f` was sent whole: the offer becomes none, the transmit error count falls (R154, R170). -/
def sentWhole (f : Frame) (s : State) : State :=
  clearCarried f <| s.setSched { s.sched with offered := none, refreshDue := false }
    |>.setLine { s.line with attempt := none, txErr := s.line.txErr - 1 }

/-- SENT_WHOLE: only while an attempt is under way (R170, log entry 5). -/
def execSentWhole (ticks : Nat) (s : State) : Host.Outcome State Fault Refusal :=
  let t := advance ticks s
  settle s (match t.line.attempt with | some f => sentWhole f t | none => t)

/-- An offered BEACON or JOIN takes the content of a newer frame waiting in the BEACON queue (R172). -/
def takeNewerBeacon (q : Sched) : Sched :=
  match q.offered, q.beaconQ with
  | some o, some f =>
    if classOf o.frame.kind = .beacon then { q with offered := some { o with frame := f }, beaconQ := none } else q
  | _, _ => q

/-- A JOIN whose attempt outlived the join window leaves the offer (R174). -/
def dropLateJoin (state : StationState) (q : Sched) : Sched :=
  match q.offered with
  | some o => if o.frame.kind = .join ∧ state ≠ .joining then { q with offered := none } else q
  | none => q

/-- The offer after a lost attempt: a late JOIN leaves it, a newer beacon takes its place, and a refresh that fell due during
the attempt is made where no newer beacon waits (R172, R174). -/
def keepOffer (s : State) : State :=
  let t := s.setSched { takeNewerBeacon (dropLateJoin s.cycle.state s.sched) with refreshDue := false }
    |>.setLine { s.line with attempt := none, rx := .receiving }
  if s.sched.refreshDue && s.sched.beaconQ.isNone then refreshBeacon t else t

/-- The attempt lost contention: the station receives on and keeps its offer, which an ABORT that waits displaces (R152,
R170, R171). -/
def lostContention (s : State) : State := (keepOffer s).setSched (displaceByAbort (keepOffer s).sched)

/-- LOST_CONTENTION: only while an attempt is under way (R152, log entry 5). -/
def execLostContention (ticks : Nat) (s : State) : Host.Outcome State Fault Refusal :=
  let t := advance ticks s
  settle s (if t.line.attempt.isSome then lostContention t else t)

/-- The frame is abandoned: the offer becomes none, the transmit error count rises, and LINE_OFF is reported when it
reaches 32 (R153, R154, R170). -/
def abandon (f : Frame) (s : State) : State :=
  let count := satAdd Config.lineOffCount s.line.txErr 1
  let t := s.setSched { s.sched with offered := none, refreshDue := false }
    |>.setLine { s.line with attempt := none, txErr := count }
  if count = Config.lineOffCount then report ⟨.lineOff, none, some (capturedHeader f)⟩ t else t

/-- ABANDONED: only while an attempt is under way (R153, log entry 5). -/
def execAbandoned (ticks : Nat) (s : State) : Host.Outcome State Fault Refusal :=
  let t := advance ticks s
  settle s (match t.line.attempt with | some f => abandon f t | none => t)

/-! ## Beacon and JOIN timers (R172 to R174) -/

/-- A beacon falls due: it is built from the values the station holds, its drop latches marked carried, and placed; the
next falls due one period later (R172, R173, R197). -/
def beaconDue (s : State) : State :=
  let t := s.setSched { s.sched with beaconTimer := timerBeacon s.settings.beaconPeriod }
  placeBeacon (beaconFrame t) (markCarried t)

/-- BEACON_TIMER_EXPIRY: only when the beacon timer has run out (R172, log entry 5). -/
def execBeaconTimerExpiry (ticks : Nat) (s : State) : Host.Outcome State Fault Refusal :=
  let t := advance ticks s
  settle s (if Timer.due t.sched.beaconTimer then beaconDue t else t)

/-- A JOIN falls due (R174). -/
def joinDue (s : State) : State :=
  placeBeacon (joinFrame s) (s.setSched { s.sched with joinTimer := timerBeacon s.settings.beaconPeriod })

/-- JOIN_TIMER_EXPIRY: only in JOINING when the timer has run out, and not at the end of the window (R174, log entries 5
and 29). -/
def execJoinTimerExpiry (ticks : Nat) (s : State) : Host.Outcome State Fault Refusal :=
  let t := advance ticks s
  settle s (if t.cycle.state = .joining ∧ Timer.due t.sched.joinTimer = true ∧ Timer.due t.cycle.joinWindow = false
    then joinDue t else t)

/-! ## The end of the join window (R183) -/

/-- JOIN frames that wait, or are offered with no attempt under way, are discarded (R174). -/
def discardJoins (attempted : Bool) (q : Sched) : Sched :=
  { q with
    beaconQ := q.beaconQ.filter fun f => f.kind != .join
    offered := q.offered.filter fun o => attempted || o.frame.kind != .join }

/-- The lowest-numbered fatal kind latched (R191). -/
def lowestFatal (s : State) : Option FaultKind := allFaultKinds.find? fun k => s.isLatched k && s.isFatal k

/-- The state after the join window: IDLE, or ABORTED with a fatal kind latched (R62, R183). -/
def leaveJoining (s : State) : State :=
  match lowestFatal s with
  | some k => enterAborted (.fault k) s
  | none => enterIdle (s.setCycle { s.cycle with joinWindow := none })

/-- The join window ends (R174, R183). -/
def endJoinWindow (s : State) : State :=
  tryBegin (startBeaconTimer (leaveJoining (s.setSched (discardJoins s.line.attempt.isSome s.sched))))

/-- JOIN_WINDOW_END: only in JOINING when the window has run out (R183, log entry 5). -/
def execJoinWindowEnd (ticks : Nat) (s : State) : Host.Outcome State Fault Refusal :=
  let t := advance ticks s
  settle s (if t.cycle.state = .joining ∧ Timer.due t.cycle.joinWindow = true then endJoinWindow t else t)

end Sys2Proof.Machine
end

