-- ==== Sys2Proof/Machine/Dispatch.lean ====
section
/-! DEFINITION. The meaning of each command: one arm for each constructor. -/

namespace Sys2Proof.Machine

def exec (i : Instr) (s : State) : Host.Outcome State Fault Refusal :=
  match i with
  | .powerOnReset ticks stn roleCode => Sys2Proof.Machine.execPowerOnReset ticks stn roleCode s
  | .configurationLoad ticks memory => Sys2Proof.Machine.execConfigurationLoad ticks memory s
  | .positionUpdate ticks => Sys2Proof.Machine.execPositionUpdate ticks s
  | .encoderEdge ticks rising encB => Sys2Proof.Machine.execEncoderEdge ticks rising encB s
  | .homeCapture ticks => Sys2Proof.Machine.execHomeCapture ticks s
  | .coastTimerExpiry ticks => Sys2Proof.Machine.execCoastTimerExpiry ticks s
  | .powerControlStep ticks limit => Sys2Proof.Machine.execPowerControlStep ticks limit s
  | .feedbackWord ticks value good => Sys2Proof.Machine.execFeedbackWord ticks value good s
  | .travelControlStep ticks => Sys2Proof.Machine.execTravelControlStep ticks s
  | .stepToggle ticks => Sys2Proof.Machine.execStepToggle ticks s
  | .tachPulse ticks => Sys2Proof.Machine.execTachPulse ticks s
  | .tachWindowEnd ticks => Sys2Proof.Machine.execTachWindowEnd ticks s
  | .quenchControlStep ticks => Sys2Proof.Machine.execQuenchControlStep ticks s
  | .soakExpiry ticks => Sys2Proof.Machine.execSoakExpiry ticks s
  | .pulsePhaseExpiry ticks => Sys2Proof.Machine.execPulsePhaseExpiry ticks s
  | .flowPulse ticks => Sys2Proof.Machine.execFlowPulse ticks s
  | .flowWindowEnd ticks => Sys2Proof.Machine.execFlowWindowEnd ticks s
  | .floodTimerExpiry ticks => Sys2Proof.Machine.execFloodTimerExpiry ticks s
  | .actFaultActive ticks => Sys2Proof.Machine.execActFaultActive ticks s
  | .actReadyInactive ticks => Sys2Proof.Machine.execActReadyInactive ticks s
  | .actuatorInputRecovery ticks input => Sys2Proof.Machine.execActuatorInputRecovery ticks input s
  | .interlockSample ticks pins => Sys2Proof.Machine.execInterlockSample ticks pins s
  | .abort ticks frame => Sys2Proof.Machine.execAbort ticks frame s
  | .arm ticks frame => Sys2Proof.Machine.execArm ticks frame s
  | .cycleStart ticks frame => Sys2Proof.Machine.execCycleStart ticks frame s
  | .startTimerExpiry ticks => Sys2Proof.Machine.execStartTimerExpiry ticks s
  | .cycleEnd ticks frame => Sys2Proof.Machine.execCycleEnd ticks frame s
  | .clear ticks frame => Sys2Proof.Machine.execClear ticks frame s
  | .stationReset ticks frame => Sys2Proof.Machine.execStationReset ticks frame s
  | .recipeHeader ticks frame => Sys2Proof.Machine.execRecipeHeader ticks frame s
  | .segment ticks frame => Sys2Proof.Machine.execSegment ticks frame s
  | .commit ticks frame => Sys2Proof.Machine.execCommit ticks frame s
  | .position ticks frame => Sys2Proof.Machine.execPosition ticks frame s
  | .faultQuery ticks frame => Sys2Proof.Machine.execFaultQuery ticks frame s
  | .beacon ticks frame => Sys2Proof.Machine.execBeacon ticks frame s
  | .join ticks frame => Sys2Proof.Machine.execJoin ticks frame s
  | .sliceNotice ticks frame => Sys2Proof.Machine.execSliceNotice ticks frame s
  | .frameNotAccepted ticks kind frame => Sys2Proof.Machine.execFrameNotAccepted ticks kind frame s
  | .discardedFrame ticks failed => Sys2Proof.Machine.execDiscardedFrame ticks failed s
  | .duplicateFrame ticks kind => Sys2Proof.Machine.execDuplicateFrame ticks kind s
  | .lineIdle ticks => Sys2Proof.Machine.execLineIdle ticks s
  | .sentWhole ticks => Sys2Proof.Machine.execSentWhole ticks s
  | .lostContention ticks => Sys2Proof.Machine.execLostContention ticks s
  | .abandoned ticks => Sys2Proof.Machine.execAbandoned ticks s
  | .beaconTimerExpiry ticks => Sys2Proof.Machine.execBeaconTimerExpiry ticks s
  | .joinTimerExpiry ticks => Sys2Proof.Machine.execJoinTimerExpiry ticks s
  | .joinWindowEnd ticks => Sys2Proof.Machine.execJoinWindowEnd ticks s
  | .stalenessTimerExpiry ticks peer => Sys2Proof.Machine.execStalenessTimerExpiry ticks peer s
  | .receptionStart ticks => Sys2Proof.Machine.execReceptionStart ticks s

end Sys2Proof.Machine
end

