-- ==== Sys2Proof/Machine/Wire.lean ====
section
/-! DEFINITION. Frames as bits on the scan line (file 08, sections 8.1, 8.2, 8.4 and 8.5): header, CRC and sync bits; the
checks of a reception; the outcome of an attempt read back; and the command that each is to the station. A bit is
`true` when recessive and `false` when dominant. -/

namespace Sys2Proof.Machine

/-! ## Bits of a frame (R148, R149) -/

/-- The low `n` bits of a value, most significant first (R148). -/
def bitsMsb (n v : Nat) : List Bool := (List.range n).map fun i => v.testBit (n - 1 - i)

/-- The value of bits sent most significant first. -/
def valueMsb (bits : List Bool) : Nat := bits.foldl (fun v b => 2 * v + b.toNat) 0

/-- The 22 header bits: class, source, destination, kind and length (R149). -/
def headerBits (f : Frame) : List Bool :=
  bitsMsb 4 (classCode (classOf f.kind)) ++ bitsMsb 4 f.source.toNat ++ bitsMsb 4 f.destination.toNat ++
  bitsMsb 6 (kindCode f.kind) ++ bitsMsb 4 f.words.length

/-- Payload bits (R148). -/
def payloadBits (ws : List Word) : List Bool := ws.flatMap fun w => bitsMsb 16 w.toNat

/-- One bit into the CRC register: polynomial x^16 + x^12 + x^5 + 1 (R148). -/
def crcStep (reg : BitVec 16) (b : Bool) : BitVec 16 :=
  if reg.msb != b then (reg <<< 1) ^^^ 0x1021#16 else reg <<< 1

/-- The CRC of the content bits before it, the register preset to all ones (R148). -/
def crc16 (bits : List Bool) : BitVec 16 := bits.foldl crcStep 0xFFFF#16

/-- The content of a frame: header, payload and CRC (R148). -/
def contentBits (f : Frame) : List Bool :=
  let body := headerBits f ++ payloadBits f.words
  body ++ bitsMsb 16 (crc16 body).toNat

/-- A sync bit, opposite to the bit before it, after every eighth content bit; `n` bits of the group have gone (R148). -/
def addSync : Nat → List Bool → List Bool
  | _, [] => []
  | n, b :: rest => if n = 7 then b :: (!b) :: addSync 0 rest else b :: addSync (n + 1) rest

/-- A frame as sent: the start bit, dominant, then the content with its sync bits (R148). -/
def wireBits (f : Frame) : List Bool := false :: addSync 0 (contentBits f)

/-- Content bits of a frame with `l` payload words (R148). -/
def contentLength (l : Nat) : Nat := 38 + 16 * l

/-- Bits from the start bit's end to the last CRC bit, the sync bits with them (R148). -/
def lineLength (l : Nat) : Nat := contentLength l + contentLength l / 8

/-- Bit times from the start bit until the line is idle: start bit, content, sync bits and 12 recessive bit times
(R147, R148). -/
def bitTimes (l : Nat) : Nat := 1 + lineLength l + 12

/-! ## The checks of a reception (R155) -/

/-- What a reception gives: a good frame, or the check that failed first. -/
inductive Received where
  | good (f : Frame)
  | discarded (failed : RxCheck)
  deriving DecidableEq, Repr

/-- The content bits without their sync bits; none when a sync bit has the wrong value. `n` bits of the group have gone,
the last of them `last` (R148, R155). -/
def dropSync : Nat → Bool → List Bool → Option (List Bool)
  | _, _, [] => some []
  | n, last, b :: rest =>
    if n = 8 then (if b = last then none else dropSync 0 b rest) else (dropSync (n + 1) b rest).map (b :: ·)

/-- `run` recessive bits have just been seen, and ten in a row follow somewhere (R155). -/
def tenRecessive : Nat → List Bool → Bool
  | run, [] => decide (10 ≤ run)
  | run, b :: rest => decide (10 ≤ run) || (if b then tenRecessive (run + 1) rest else tenRecessive 0 rest)

/-- The kind of a class code and kind code (R149). -/
def kindOfCodes (cls kind : Nat) : Option Kind :=
  allKinds.find? fun k => kindCode k == kind && classCode (classOf k) == cls

/-- The payload words of `l` words' bits. -/
def wordsOfBits : Nat → List Bool → List Word
  | 0, _ => []
  | l + 1, bits => BitVec.ofNat 16 (valueMsb (bits.take 16)) :: wordsOfBits l (bits.drop 16)

/-- A field of the content. -/
def contentField (content : List Bool) (first count : Nat) : Nat := valueMsb ((content.drop first).take count)

/-- The checks KIND, FORM and SIZE on whole content with a good CRC (R155). -/
def checkContent (content : List Bool) : Received :=
  match kindOfCodes (contentField content 0 4) (contentField content 12 6) with
  | none => .discarded .kind
  | some k =>
    let f : Frame :=
      { kind := k, source := BitVec.ofNat 4 (contentField content 4 4)
        destination := BitVec.ofNat 4 (contentField content 8 4)
        words := wordsOfBits (contentField content 18 4) (content.drop 22) }
    if formOk k f.source f.words = false then .discarded .form
    else if sizeOk k f.words = false then .discarded .size
    else .good f

/-- The content bits of the first `n` bits on the line; none where FRAMING fails among them (R155). -/
def framed (n : Nat) (line : List Bool) : Option (List Bool) :=
  if tenRecessive 0 (line.take n) then none else dropSync 0 true (line.take n)

/-- Bits of the header on the line, its two sync bits with it (R148, R149). -/
def headerLength : Nat := 24

/-- The checks from CRC on, of the whole content of a frame with `l` payload words (R155). -/
def checkCrc (l : Nat) (content : List Bool) : Received :=
  if contentField content (contentLength l - 16) 16 = (crc16 (content.take (contentLength l - 16))).toNat then
    checkContent content
  else .discarded .crc

/-- The checks of the bits that follow a start bit, in their order (R155). -/
def checkLine (line : List Bool) : Received :=
  match framed headerLength line with
  | none => .discarded .framing
  | some header =>
    let l := contentField header 18 4
    if 12 < l then .discarded .length
    else
      match framed (lineLength l) line with
      | none => .discarded .framing
      | some content => checkCrc l content

/-- A reception that began at the first bit given, the start bit. The line is recessive after the bits given, and a frame cut
short is read on into the recessive line (R148, R155). -/
def receiveBits (wire : List Bool) : Received :=
  match wire with
  | false :: line => checkLine (line ++ List.replicate (lineLength 12) true)
  | _ => .discarded .framing

/-! ## The outcome of an attempt (R151 to R153) -/

/-- How an attempt ends (R151). -/
inductive AttemptOutcome where
  | sentWhole | lostContention | abandoned
  deriving DecidableEq, Repr

/-- Bits 1 to 8 of a frame as sent are its contention field (R149, R152). -/
def inContention (i : Nat) : Bool := decide (1 ≤ i) && decide (i ≤ 8)

/-- Bits sent against bits read back, from bit `i` on: the first difference decides (R152, R153). A read-back that ends
early is taken as agreeing. -/
def compareBits : Nat → List Bool → List Bool → AttemptOutcome
  | i, b :: sent, r :: read =>
    if b = r then compareBits (i + 1) sent read
    else if inContention i && b then .lostContention
    else .abandoned
  | _, _, _ => .sentWhole

/-- The outcome of an attempt of `f` of which `readBack` was read (R152, R153). -/
def attemptOutcome (f : Frame) (readBack : List Bool) : AttemptOutcome := compareBits 0 (wireBits f) readBack

/-! ## The commands the line gives -/

/-- The command an outcome is (R151). -/
def outcomeCommand (ticks : Nat) : AttemptOutcome → Instr
  | .sentWhole => .sentWhole ticks
  | .lostContention => .lostContention ticks
  | .abandoned => .abandoned ticks

/-- The header and payload of a frame whose kind the command names. -/
def frameRx (f : Frame) : Rx := { source := f.source, destination := f.destination, words := f.words }

/-- The command a good frame is (R158); reports act on no block. -/
def frameCommand (ticks : Nat) (f : Frame) : Instr :=
  match f.kind with
  | .abort => .abort ticks (frameRx f)
  | .arm => .arm ticks (frameRx f)
  | .cycleStart => .cycleStart ticks (frameRx f)
  | .cycleEnd => .cycleEnd ticks (frameRx f)
  | .clear => .clear ticks (frameRx f)
  | .stationReset => .stationReset ticks (frameRx f)
  | .recipeHeader => .recipeHeader ticks (frameRx f)
  | .segment => .segment ticks (frameRx f)
  | .commit => .commit ticks (frameRx f)
  | .position => .position ticks (frameRx f)
  | .faultQuery => .faultQuery ticks (frameRx f)
  | .beacon => .beacon ticks (frameRx f)
  | .join => .join ticks (frameRx f)
  | .sliceNotice => .sliceNotice ticks (frameRx f)
  | .sliceResult | .faultNotice | .faultRecord | .cycleSummary => .frameNotAccepted ticks f.kind (frameRx f)

/-- The command a reception's end is to the station (R155, R158). -/
def receptionCommand (ticks : Nat) : Received → Instr
  | .good f => frameCommand ticks f
  | .discarded c => .discardedFrame ticks c

end Sys2Proof.Machine
end

