-- ==== Sys2Proof/Safety.lean ====
section
/-! DEFINITION. What a safe state is, in the terms the claims use: the properties of a station's state that the rules say hold
at every moment. -/

namespace Sys2Proof.Machine

/-- The pending quench list holds at most one entry per slice, in scan order, at most 48 of them (R110, R114), and the
created count equals judged plus flushed plus the length of the list (R121). -/
def QuenchListSafe (s : State) : Prop :=
  s.quench.entries.Pairwise (fun a b => a.slice < b.slice) ∧
  s.quench.entries.length ≤ Config.listCapacity ∧
  s.quench.nCreated = s.quench.nJudged + s.quench.nFlushed + s.quench.entries.length

/-- Each class queue holds frames of its class, and the SLICE and REPORT classes stay within their capacities (R165). -/
def QueuesSafe (s : State) : Prop :=
  (∀ f ∈ s.sched.abortQ, classOf f.kind = .abort) ∧
  (∀ f ∈ s.sched.beaconQ, classOf f.kind = .beacon) ∧
  (∀ f ∈ s.sched.sliceQ, classOf f.kind = .slice) ∧
  (∀ f ∈ s.sched.reportQ, classOf f.kind = .report) ∧
  s.sched.sliceOccupancy ≤ Config.sliceCapacity ∧
  s.sched.reportOccupancy ≤ Config.reportCapacity

/-- Before a good load the station is OFFLINE (R180, R181). -/
def LoaderSafe (s : State) : Prop := s.loader.status ≠ .good → s.cycle.state = .offline

/-- A frame is driven only while the line is taken, the station is on it and a frame is offered, and the receiver takes
nothing of it (R151, R155, R163); in OFFLINE and SILENT nothing is queued or offered (R175); the error counts stay within 0..32 and 0..255 (R154, R156). -/
def LineSafe (s : State) : Prop :=
  LoaderSafe s ∧
  (s.line.attempt.isSome = true →
    s.onLine = true ∧ s.line.idle = false ∧ s.sched.offered.isSome = true ∧ s.line.rx = .ownFrame) ∧
  (s.onLine = false →
    s.sched.abortQ = none ∧ s.sched.beaconQ = none ∧ s.sched.sliceQ = [] ∧ s.sched.reportQ = [] ∧
    s.sched.offered = none) ∧
  s.line.txErr ≤ Config.lineOffCount ∧ s.line.rxErr ≤ 255

/-- A power command above 0 is within the rated power, and stands only in a SCANNING POWER station with ENABLE active, no
hold, the coil INSIDE, the TRAVEL peer LIVE and the coast not expired (R77). -/
def PowerSafe (s : State) : Prop :=
  LoaderSafe s ∧
  (s.power.command ≠ 0 →
    s.power.command ≤ s.settings.ratedPower ∧ s.role = some .power ∧ s.cycle.state = .scanning ∧ s.enable = true ∧
    s.hold = false ∧ s.tracker.zone.isInside = true ∧ s.trackedLive = true ∧ s.tracker.coastExpired = false)

/-- In cycle the station carries a cycle number from 1 to 255; in OFFLINE, JOINING, IDLE and ARMED the number is 0 and the
roster empty; the start timer runs only in STARTING and the join window only in JOINING (file 03 section 3.1, R42,
R54, R63, R182). -/
def CycleSafe (s : State) : Prop :=
  LoaderSafe s ∧
  ((s.cycle.state = .offline ∨ s.cycle.state = .joining ∨ s.cycle.state = .idle ∨ s.cycle.state = .armed) →
    s.cycle.number = 0 ∧ s.cycle.roster = 0) ∧
  (s.inCycle = true → 1 ≤ s.cycle.number ∧ s.cycle.number ≤ 255) ∧
  (s.cycle.startTimer.isSome = true → s.cycle.state = .starting) ∧
  (s.cycle.joinWindow.isSome = true → s.cycle.state = .joining)

/-- SPRAY is closed in OFFLINE, JOINING, IDLE, ARMED and DONE, FLOOD opens only in ABORTED and SILENT, a pulse phase runs
only in a cycle; in a station of another role they never open (R44, R108, R125, R127). -/
def ValvesSafe (s : State) : Prop :=
  LoaderSafe s ∧
  (s.quench.spray = true →
    s.cycle.state = .starting ∨ s.cycle.state = .scanning ∨ s.cycle.state = .aborted ∨ s.cycle.state = .silent) ∧
  (s.quench.flood = true → s.cycle.state = .aborted ∨ s.cycle.state = .silent) ∧
  (s.quench.pulse ≠ .idle → s.inCycle = true) ∧
  (s.role ≠ some .quench → s.quench.spray = false ∧ s.quench.flood = false ∧ s.quench.pulse = .idle)

/-- The speed command never exceeds the rated speed and is 0 in OFFLINE, JOINING and ARMED; a move stands only in an IDLE
TRAVEL station, within the rated speed; STEP rests inactive, and an older pulse alone delays a first toggle; in a station of
another role the engine keeps its power-on values (R90, R94, R97, R99, R101). -/
def TravelSafe (s : State) : Prop :=
  LoaderSafe s ∧
  s.travel.command ≤ s.settings.ratedSpeed ∧
  ((s.cycle.state = .offline ∨ s.cycle.state = .joining ∨ s.cycle.state = .armed) → s.travel.command = 0) ∧
  (∀ m ∈ s.travel.move, s.cycle.state = .idle ∧ s.role = some .travel ∧ m.speed ≤ s.settings.ratedSpeed) ∧
  (s.travel.half = none → s.travel.step = false) ∧
  (s.travel.rise.isSome = true → s.travel.step = true ∧ s.travel.half.isSome = true) ∧
  (s.role ≠ some .travel → s.travel = Travel.powerOn)

/-- The Peer Table holds one entry per number, none of its own, 0 or 15; a LOST entry has no running timer, a TRAVEL entry
no role data (R132, R134, R138). -/
def PeersSafe (s : State) : Prop :=
  s.peers.Pairwise (fun a b => a.number < b.number) ∧
  (∀ p ∈ s.peers, p.number ≠ 0 ∧ p.number ≠ 15 ∧ s.ownNumber ≠ some p.number) ∧
  (∀ p ∈ s.peers, p.live = false → p.stale = none) ∧
  (∀ p ∈ s.peers, p.role = .travel → p.data = none)

/-! ## Premises and results that several statements share -/

/-- A frame of the kind comes whole to the station: it has the kind's form and size, its source is not the station's own
number, it is accepted, and its reception is under way or begins on an idle line (R155, R157, R158, R159). -/
def Arrives (k : Kind) (f : Rx) (s : State) : Prop :=
  rxGood k f = true ∧ s.ownNumber ≠ some f.source ∧ s.accepts k f = true ∧ s.line.hears = true

/-- The state in which an accepted frame finds the station: time has passed, the reception has ended. -/
def State.heard (ticks : Nat) (s : State) : State := endReception (advance ticks s)

/-- The REPORT queue takes a frame, and no frame of the station begins as it does. -/
def ReportWaits (s : State) : Prop :=
  s.onLine = true ∧ s.sched.reportOccupancy < Config.reportCapacity ∧ s.mayBegin = false

/-- The ABORT frame of the station's cycle waits in its queue or is offered (R64, R167). -/
def AbortHanded (s t : State) : Prop :=
  t.sched.abortQ = some (abortFrame s) ∨ ∃ o, t.sched.offered = some o ∧ o.frame = abortFrame s

/-- The SLICE NOTICE frames of slices closed one after another, each naming the slice before it (R83, R84). -/
def chainFrames (s : State) : Option Nat → List (Nat × Nat) → List Frame
  | _, [] => []
  | link, p :: rest =>
    s.ownFrame .sliceNotice broadcast
      [toWord (put 8 2 s.settings.stage + put 0 8 s.cycle.number), toWord p.1, toWord (link.getD 0xFFFF),
       toWord (min 65535 (p.2 / 1000))] :: chainFrames s (some p.1) rest

/-- The shares of the records taken one after another: the first record divides the accumulator, the others find it at 0
(R82). -/
def recordShares : Nat → List Crossing → List (Nat × Nat)
  | _, [] => []
  | acc, c :: rest => sharesOf acc c.left ++ recordShares 0 rest

/-- Segment `k` of the copy, `g`, is the first that holds the position (R38). -/
def Holds (a : ActiveCopy) (pos k : Nat) (g : Segment) : Prop :=
  a.segments[k]? = some g ∧ g.start ≤ pos ∧ pos < g.stop ∧
  ∀ b ∈ a.segments.take k, ¬ (b.start ≤ pos ∧ pos < b.stop)

/-- `b` is the entry-side neighbour of segment `k`, `g`, and abuts it (R39). -/
def Abuts (a : ActiveCopy) (k : Nat) (g b : Segment) : Prop :=
  (a.header.direction = .up → 0 < k ∧ a.segments[k - 1]? = some b ∧ b.stop = g.start) ∧
  (a.header.direction = .down → a.segments[k + 1]? = some b ∧ b.start = g.stop)

/-- `value` is `this`, blended in from `prev` within the blend from the entry edge (R39, R40). -/
def Blended (a : ActiveCopy) (g : Segment) (pos prev this value : Nat) : Prop :=
  let d := if a.header.direction = .up then pos - g.start else g.stop - 1 - pos
  (g.blend ≤ d → value = this) ∧ (d < g.blend → (value : Int) = prev + (((this : Int) - prev) * d).tdiv g.blend)

/-- A roster station other than the station itself counts as arrived at the start barrier of cycle `number` (R52, R140). -/
def AtBarrier (s : State) (number : Nat) (n : StationNo) : Prop :=
  ∃ p, s.peer n = some p ∧ p.live = true ∧ p.awaitsBeacon = false ∧ p.cycle = number ∧
    (p.state = .starting ∨ p.state = .scanning)

/-- Every other station of the roster has arrived (R52). -/
def BarrierMet (s : State) (number : Nat) (roster : Marks16) : Prop :=
  ∀ n : StationNo, n ≠ 0 → n ≠ 15 → n ≠ s.loader.number → roster.getLsbD n.toNat = true → AtBarrier s number n

/-! ## What each command may write -/

/-- The blocks of the state, the queue apart. -/
inductive Block where
  | clock | pins | loader | settings | cycle | tracker | store | power | travel | quench | peers | sched | line | fault
  | interlock | freeDraws
  deriving DecidableEq, Repr

/-- A block is the same in two states. -/
def sameBlock (s t : State) : Block → Prop
  | .clock => t.clock = s.clock
  | .pins => t.pins = s.pins
  | .loader => t.loader = s.loader
  | .settings => t.settings = s.settings
  | .cycle => t.cycle = s.cycle
  | .tracker => t.tracker = s.tracker
  | .store => t.store = s.store
  | .power => t.power = s.power
  | .travel => t.travel = s.travel
  | .quench => t.quench = s.quench
  | .peers => t.peers = s.peers
  | .sched => t.sched = s.sched
  | .line => t.line = s.line
  | .fault => t.fault = s.fault
  | .interlock => t.interlock = s.interlock
  | .freeDraws => t.freeDraws = s.freeDraws

/-- What a fault report can reach: Cycle Control, the role engines, the queues and the line, the Fault Unit, and the carried
marks of the drop latches as a beacon is refreshed (R62, R63, R66, R172, R188). -/
def reportBlocks : List Block := [.cycle, .power, .travel, .quench, .sched, .line, .fault, .interlock]

/-- The blocks a command may write, by what the rules give it to do; every other block only sees time pass. A received frame
can be found malformed or a duplicate and so be reported, and it is its sender's receipt in the Peer Table. -/
def mayWrite : Instr → List Block
  | .powerOnReset _ _ _ => [.clock, .loader, .settings, .tracker, .store, .peers] ++ reportBlocks
  | .configurationLoad _ _ => [.loader, .settings, .tracker] ++ reportBlocks
  | .positionUpdate _ => [.tracker, .power]
  | .encoderEdge _ _ _ => [.pins, .tracker]
  | .homeCapture _ => [.tracker, .travel]
  | .coastTimerExpiry _ => .tracker :: reportBlocks
  | .powerControlStep _ _ => .pins :: reportBlocks
  | .feedbackWord _ _ _ => [.power]
  | .travelControlStep _ => reportBlocks
  | .stepToggle _ => [.travel]
  | .tachPulse _ => [.travel]
  | .tachWindowEnd _ => reportBlocks
  | .quenchControlStep _ => reportBlocks
  | .soakExpiry _ => [.quench]
  | .pulsePhaseExpiry _ => [.quench]
  | .flowPulse _ => [.quench]
  | .flowWindowEnd _ => reportBlocks
  | .floodTimerExpiry _ => [.quench]
  | .actFaultActive _ => .pins :: reportBlocks
  | .actReadyInactive _ => .pins :: reportBlocks
  | .actuatorInputRecovery _ _ => [.pins]
  | .interlockSample _ _ => reportBlocks
  | .abort _ _ => .peers :: reportBlocks
  | .arm _ _ => [.peers, .tracker, .store] ++ reportBlocks
  | .cycleStart _ _ => [.peers, .tracker] ++ reportBlocks
  | .startTimerExpiry _ => reportBlocks
  | .cycleEnd _ _ => .peers :: reportBlocks
  | .clear _ _ => .peers :: reportBlocks
  | .stationReset _ _ => [.peers, .tracker, .store] ++ reportBlocks
  | .recipeHeader _ _ => [.peers, .store] ++ reportBlocks
  | .segment _ _ => [.peers, .store] ++ reportBlocks
  | .commit _ _ => [.peers, .store] ++ reportBlocks
  | .position _ _ => .peers :: reportBlocks
  | .faultQuery _ _ => .peers :: reportBlocks
  | .beacon _ _ => [.peers, .tracker] ++ reportBlocks
  | .join _ _ => .peers :: reportBlocks
  | .sliceNotice _ _ => [.peers, .freeDraws] ++ reportBlocks
  | .frameNotAccepted _ _ _ => .peers :: reportBlocks
  | .discardedFrame _ _ => reportBlocks
  | .duplicateFrame _ _ => reportBlocks
  | .lineIdle _ => [.sched, .line]
  | .sentWhole _ => [.sched, .line, .interlock]
  | .lostContention _ => [.sched, .line, .interlock]
  | .abandoned _ => reportBlocks
  | .beaconTimerExpiry _ => [.sched, .line, .interlock]
  | .joinTimerExpiry _ => [.sched, .line]
  | .joinWindowEnd _ => reportBlocks
  | .stalenessTimerExpiry _ _ => .peers :: reportBlocks
  | .receptionStart _ => [.line]

end Sys2Proof.Machine
end

