-- ==== Sys2Proof/Certificates/Slice0/Obligations.lean ====
section
/-! DEFINITION. The statements for the provers. A command's first operand, `ticks`, is the time since the command before it,
and `advance ticks s` is the station when only that time has passed. `settled old new` is `new` with the beacons not yet on
the line rebuilt where the command changed the station state, the cycle number, the last command result or the staging
state (R172). A clause on time, on the queue, or on any log entry named in a docstring is the model's choice. -/

section Statements

open Sys2Proof Sys2Proof.Machine

/-! ## The machine -/

/-- The step runs the front command with the rest of the queue; on an empty queue the block idles (log entry 1). -/
def Obligations.StepRunsFrontCommand : Prop :=
  (∀ (c : Instr) (rest : List Instr) (s : State), s.pending = c :: rest → step s = exec c (s.setPending rest)) ∧
  ∀ s : State, s.pending = [] → step s = .next s

/-- What time does, and nothing else does it: `n` ticks of 50 ns move the local time on by whole µs, the rest kept; every
running timer falls by `n` and stops at 0, a stopped one stays stopped; the scan timer counts tenths of a second in SCANNING
alone and saturates; the open time grows while it runs; every other field stands. Time that passes in two parts passes as one
(log entry 2). -/
def Obligations.TimeAdds : Prop :=
  (∀ (n : Nat) (s : State),
    let t := advance n s
    let fall := fun x : Timer => match x with | some left => some (if n ≤ left then left - n else 0) | none => none
    let scans := s.cycle.state = .scanning
    t.clock.sub < 20 ∧ (s.clock.sub + n = (s.clock.sub + n) / 20 * 20 + t.clock.sub) ∧
    t.clock.time = s.clock.time + BitVec.ofNat 32 ((s.clock.sub + n) / 20) ∧
    t.cycle = { s.cycle with
      startTimer := fall s.cycle.startTimer, joinWindow := fall s.cycle.joinWindow
      scanTenths := if scans then min 65535 (s.cycle.scanTenths + (s.cycle.scanTicks + n) / 2000000) else s.cycle.scanTenths
      scanTicks := if scans then (s.cycle.scanTicks + n) % 2000000 else s.cycle.scanTicks } ∧
    t.tracker = { s.tracker with coastTimer := fall s.tracker.coastTimer } ∧
    t.travel = { s.travel with
      half := fall s.travel.half, rise := fall s.travel.rise, tachWindow := fall s.travel.tachWindow } ∧
    t.quench = { s.quench with
      soak := fall s.quench.soak, pulseTimer := fall s.quench.pulseTimer, floodTimer := fall s.quench.floodTimer
      flowWindow := fall s.quench.flowWindow
      openTime := match s.quench.openTime with | some o => some (o + n) | none => none } ∧
    t.sched = { s.sched with beaconTimer := fall s.sched.beaconTimer, joinTimer := fall s.sched.joinTimer } ∧
    t.peers.length = s.peers.length ∧
    (∀ (i : Nat) (p : Peer), s.peers[i]? = some p → t.peers[i]? = some { p with stale := fall p.stale }) ∧
    t.pins = s.pins ∧ t.loader = s.loader ∧ t.settings = s.settings ∧ t.store = s.store ∧ t.power = s.power ∧
    t.line = s.line ∧ t.fault = s.fault ∧ t.interlock = s.interlock ∧ t.freeDraws = s.freeDraws ∧ t.pending = s.pending) ∧
  ∀ (a b : Nat) (s : State), advance (a + b) s = advance b (advance a s)

/-- No condition stops the block: every command completes in every state, and none touches the queue. -/
def Obligations.EveryCommandCompletes : Prop :=
  ∀ (c : Instr) (s : State), ∃ t, exec c s = .next t ∧ t.pending = s.pending

/-- The station held in reset meets every invariant. -/
def Obligations.ResetMeetsInvariants : Prop :=
  QuenchListSafe State.reset ∧ QueuesSafe State.reset ∧ LineSafe State.reset ∧ LoaderSafe State.reset ∧
  PowerSafe State.reset ∧ CycleSafe State.reset ∧ ValvesSafe State.reset ∧ TravelSafe State.reset ∧
  PeersSafe State.reset

/-- The pending quench list stays ordered, within 48 entries and in balance with its counts (R110, R114, R121). -/
def Obligations.StepKeepsQuenchList : Prop :=
  ∀ s t : State, QuenchListSafe s → step s = .next t → QuenchListSafe t

/-- The class queues keep their classes and capacities (R165). -/
def Obligations.StepKeepsQueues : Prop :=
  ∀ s t : State, QueuesSafe s → step s = .next t → QueuesSafe t

/-- A station off the line drives, queues and offers nothing; the error counts keep their ranges (R151, R154, R156, R163,
R175). -/
def Obligations.StepKeepsLine : Prop :=
  ∀ s t : State, LineSafe s → step s = .next t → LineSafe t

/-- Power is commanded only where and when R77 lets it be, and within the rated power. -/
def Obligations.StepKeepsPower : Prop :=
  ∀ s t : State, PowerSafe s → step s = .next t → PowerSafe t

/-- Cycle number, roster, start timer and join window stay what the station state allows (R42, R54, R63, R182). -/
def Obligations.StepKeepsCycle : Prop :=
  ∀ s t : State, CycleSafe s → step s = .next t → CycleSafe t

/-- The valves open only in the states and the role that allow it (R44, R108, R125, R127): SPRAY not in DONE, where
demand goes on but the table of file 03, section 3.2 limits the valve (log entry 17). -/
def Obligations.StepKeepsValves : Prop :=
  ∀ s t : State, ValvesSafe s → step s = .next t → ValvesSafe t

/-- The speed command stays within the rated speed, moves stand only in IDLE, STEP rests inactive (R94, R97, R99, R101). -/
def Obligations.StepKeepsTravel : Prop :=
  ∀ s t : State, TravelSafe s → step s = .next t → TravelSafe t

/-- The Peer Table keeps one entry a number, none of the station's own (R132, R134, R138). -/
def Obligations.StepKeepsPeers : Prop :=
  ∀ s t : State, PeersSafe s → step s = .next t → PeersSafe t

/-- Each command writes the blocks its rules name and no other: straps, image and settings only at power-on reset and a
configuration load, profile copies only by their own frames and the resets, entries of peers only by frames and staleness,
and so on row by row (`mayWrite`); in every other block time alone passes. -/
def Obligations.EachCommandWritesItsBlocks : Prop :=
  ∀ (c : Instr) (s t : State) (b : Block), exec c s = .next t → b ∉ mayWrite c → sameBlock (advance c.ticks s) t b

/-- A latch stays set, and a filled first-fault record stays as it is, until CLEAR, STATION RESET or power-on reset; a
masked kind is not latched by any command that leaves the mask alone (file 11). -/
def Obligations.LatchesStand : Prop :=
  ∀ (c : Instr) (s t : State), exec c s = .next t →
    (∀ k stn rc, c ≠ .powerOnReset k stn rc) → (∀ k f, c ≠ .clear k f) → (∀ k f, c ≠ .stationReset k f) →
    (∀ k, s.isLatched k = true → t.isLatched k = true) ∧
    (∀ r, s.fault.record = some r → t.fault.record = some r) ∧
    min s.fault.abortSeen Config.max16 ≤ t.fault.abortSeen ∧
    ((∀ k m, c ≠ .configurationLoad k m) → ∀ k, s.isMasked k = true → s.isLatched k = false → t.isLatched k = false)

/-- Each profile copy is written by its own commands alone (file 02): the active copy by ARM, the staging copy by the
recipe frames and ARM, both by the resets. -/
def Obligations.ProfileCopiesStand : Prop :=
  ∀ (c : Instr) (s t : State), exec c s = .next t →
    (∀ k stn rc, c ≠ .powerOnReset k stn rc) → (∀ k f, c ≠ .arm k f) → (∀ k f, c ≠ .stationReset k f) →
    t.store.active = s.store.active ∧
    ((∀ k f, c ≠ .recipeHeader k f) → (∀ k f, c ≠ .segment k f) → (∀ k f, c ≠ .commit k f) → t.store = s.store)

/-! ## The Fault Unit -/

/-- A report: without effect when masked or already latched; otherwise the latch, the record where it was empty, the FAULT
NOTICE, and a fatal kind told to Cycle Control, in this order; in OFFLINE and SILENT the notice is discarded and the latch
and record made all the same. With the REPORT queue full the notice is dropped and counted, and TX_OVERFLOW is reported for
the drop, after the four things of the first report (log entry 45): latched once, its own notice dropped and counted in turn
where the station is still on the line, and told to Cycle Control where fatal (file 11, section on reports; file 09, section
9.1). The FAULT NOTICE carries its fields where file 08, section 8.3 has them. -/
def Obligations.FaultReport : Prop :=
  ∀ (r : Report) (s : State),
    let latched := s.setFault { s.fault with
      latches := s.fault.latches ||| (1#16 <<< faultCode r.kind)
      record := some (s.fault.record.getD
        { kind := r.kind, time := s.clock.time, cycle := s.cycle.number, state := s.cycle.state,
          estimate := s.tracker.estimate, related := r.related, captured := r.captured,
          snapshot := (r.related.bind s.peer).map (snapshotOf s.clock.time) }) }
    (∀ (related : Option StationNo) (seen : Bool),
      let f := faultNoticeFrame s r.kind related seen
      f.kind = .faultNotice ∧ f.source = s.loader.number ∧ f.destination = 0 ∧
      ∃ w0 w1, f.words = [w0, w1] ∧ bitsOf w0 15 12 = stateCode s.cycle.state ∧
        bitsOf w0 11 8 = (match related with | some n => n.toNat | none => 15) ∧
        bitsOf w0 5 5 = seen.toNat ∧ bitsOf w0 4 4 = (s.isFatal r.kind).toNat ∧ bitsOf w0 3 0 = faultCode r.kind ∧
        w1.toNat = s.cycle.number % 256) ∧
    ((s.isMasked r.kind = true ∨ s.isLatched r.kind = true) → report r s = s) ∧
    (s.isMasked r.kind = false → s.isLatched r.kind = false → s.onLine = false → report r s = latched) ∧
    (s.isMasked r.kind = false → s.isLatched r.kind = false → ReportWaits s →
      let noticed := latched.setSched { s.sched with
        reportQ := s.sched.reportQ ++ [faultNoticeFrame s r.kind r.related false] }
      report r s = if s.isFatal r.kind then actOnFatal r.kind noticed else noticed) ∧
    (s.isMasked r.kind = false → s.isLatched r.kind = false → s.onLine = true → 16 ≤ s.sched.reportOccupancy →
      let told := fun t : State => if s.isFatal r.kind then actOnFatal r.kind t else t
      let dropped := fun t : State => t.setSched { t.sched with dropCount := min 65535 (t.sched.dropCount + 1) }
      let first := told (dropped latched)
      ((r.kind = .txOverflow ∨ s.latchable .txOverflow = false) → report r s = first) ∧
      (r.kind ≠ .txOverflow → s.latchable .txOverflow = true →
        let both := first.setFault { first.fault with latches := first.fault.latches ||| 0x4000#16 }
        let counted := if first.onLine then dropped both else both
        report r s = if s.isFatal .txOverflow then actOnFatal .txOverflow counted else counted))

/-- What a fatal kind that latches does to the station (file 03, sections on ABORTED and SILENT): its own kind is the abort
cause, also where its notice met a full REPORT queue and TX_OVERFLOW is fatal too (log entry 45). -/
def Obligations.FatalKindOutcome : Prop :=
  ∀ (r : Report) (s : State), s.isFatal r.kind = true → s.latchable r.kind = true →
    let t := report r s
    t.cycle.number = s.cycle.number ∧ t.cycle.roster = s.cycle.roster ∧
    (r.kind.silences = false →
      ((s.cycle.state = .offline ∨ s.cycle.state = .silent ∨ s.cycle.state = .joining ∨ s.cycle.state = .aborted) →
        t.cycle.state = s.cycle.state ∧ t.fault.cause = s.fault.cause) ∧
      ((s.cycle.state = .idle ∨ s.cycle.state = .armed) →
        t.cycle.state = .aborted ∧ t.fault.cause = some (.fault r.kind) ∧ t.quench.flood = s.quench.flood) ∧
      (s.inCycle = true →
        t.cycle.state = .aborted ∧ t.fault.cause = some (.fault r.kind) ∧ AbortHanded s t)) ∧
    (r.kind.silences = true → s.onLine = true →
      t.cycle.state = .silent ∧ t.line.attempt = none ∧ t.sched.offered = none ∧ t.sched.abortQ = none ∧
      t.sched.beaconQ = none ∧ t.sched.sliceQ = [] ∧ t.sched.reportQ = [] ∧
      (s.sched.reportOccupancy < Config.reportCapacity → t.sched.dropCount = s.sched.dropCount) ∧
      (Config.reportCapacity ≤ s.sched.reportOccupancy → t.sched.dropCount = min 65535 (s.sched.dropCount + 1)) ∧
      (s.inCycle = true → t.fault.cause = some (.fault r.kind)))

/-! ## Start-up -/

/-- POWER_ON_RESET: the straps are sampled and the load begins; straps of number 0 or 15 or role 0 end it at once with
CONFIG_BAD (file 10, section 10.1). Input levels, the queue and the count of free values stay (log entry 31), and the memory
image is empty until it has been read (log entry 56). -/
def Obligations.PowerOnResetSamplesStraps : Prop :=
  ∀ (ticks : Nat) (stn : StationNo) (roleCode : BitVec 2) (s : State),
    let fresh := State.reset |>.setPins s.pins |>.setFreeDraws s.freeDraws |>.setPending s.pending
    (stn ≠ 0 → stn ≠ 15 → roleCode ≠ 0 →
      exec (.powerOnReset ticks stn roleCode) s =
        .next (fresh.setLoader { number := stn, roleCode := roleCode, image := [], status := .loading })) ∧
    ((stn = 0 ∨ stn = 15 ∨ roleCode = 0) →
      exec (.powerOnReset ticks stn roleCode) s =
        .next (fresh |>.setLoader { number := stn, roleCode := roleCode, image := [], status := .bad }
          |>.setFault
            { latches := 1, cause := none, abortSeen := 0
              record := some { kind := .configBad, time := 0, cycle := 0, state := .offline, estimate := 0,
                               related := none, captured := none, snapshot := none } }))

/-- CONFIGURATION_LOAD: a good image configures the station and takes it to JOINING with its first JOIN placed; a short
image, a sum that is not 0 or a field out of range keeps it OFFLINE with CONFIG_BAD latched. The settings are those of the
memory map, a default standing for a 0 where the map gives one, and an image is good where it has 64 words of sum 0 and every
field checked in the role lies in its range (file 10, sections 10.2 and 10.3). -/
def Obligations.ConfigurationLoadOutcome : Prop :=
  ∀ (ticks : Nat) (memory : List Word) (s : State) (r : Role),
    let m := memory.take 64
    let u := advance ticks s
    s.loader.status = .loading → s.role = some r →
    (imageGood r m = true → s.sched = Sched.powerOn → s.line.attempt = none →
      ∃ t, exec (.configurationLoad ticks memory) s = .next t ∧
        t.cycle = { u.cycle with state := .joining, joinWindow := some (2 * (settingsOf m).stalenessLimit * 20000) } ∧
        t.loader = { s.loader with image := m, status := .good } ∧ t.settings = settingsOf m ∧
        t.sched = { Sched.powerOn with
          beaconQ := some (joinFrame t), joinTimer := some ((settingsOf m).beaconPeriod * 100 * 20) } ∧
        t.line = { s.line with rate := rateOfCode (settingsOf m).lineRateCode, idle := false, rx := .waiting } ∧
        t.tracker.estimate = (if r = .travel then (settingsOf m).homePosition else 0) ∧
        t.tracker.held = t.tracker.estimate ∧ t.tracker.raw = t.tracker.estimate ∧
        t.tracker.tool = clampPosition (settingsOf m).toolOffset ∧ t.fault = s.fault ∧ t.store = s.store) ∧
    (imageGood r m = false → s.cycle.state = .offline → s.isMasked .configBad = false →
      ∃ t, exec (.configurationLoad ticks memory) s = .next t ∧ t.loader = { s.loader with image := m, status := .bad } ∧
        t.cycle.state = .offline ∧ t.settings = s.settings ∧ t.isLatched .configBad = true ∧ t.attn = true ∧
        t.onLine = false) ∧
    (memory.length < 64 → imageGood r m = false) ∧
    (∀ i : List Word,
      let word := fun k : Nat => (i.getD k 0).toNat
      let dflt := fun k d : Nat => if word k = 0 then d else word k
      let code := fun k : Nat => word (28 + k / 8) / 2 ^ (14 - 2 * (k % 8)) % 4
      let phases := word 28 ≠ 0 ∨ word 29 ≠ 0
      let g := settingsOf i
      (g.lineRateCode = dflt 0 2 ∧ g.beaconPeriod = dflt 1 20 ∧ g.stalenessLimit = dflt 2 10 ∧ g.coastLimit = dflt 3 6 ∧
        g.startTimeout = dflt 4 500 ∧
        g.toolOffset = (word 5 * 65536 + word 6 : Nat) - (if word 5 < 32768 then (0 : Int) else 4294967296) ∧
        g.stage = word 7 ∧ g.ratedPower = word 8 ∧ g.rampLimit = word 9 ∧ g.ratedSpeed = word 10 ∧
        g.acceleration = word 11 ∧ g.abortDecel = word 12 ∧ g.umPerCount = word 13 ∧
        g.homePosition = word 14 * 65536 + word 15 ∧ g.tachPulses = word 16 ∧ g.flowMinimum = word 17 ∧
        g.settleTime = word 18 ∧ g.sprayLead = word 19 ∧ g.soakTime = word 20 ∧ g.floodTime = word 21 ∧
        g.mask.toNat = word 22 ∧ g.severity.toNat = word 23 ∧ g.attention.toNat = word 24 ∧
        g.polarity.toNat = word 25 % 256 ∧ g.groupA.toNat = word 26 % 256 ∧ g.groupB.toNat = word 27 % 256 ∧
        g.phaseTable.length = 16 ∧
        (∀ k, k < 16 → phases →
          g.phaseTable[k]? = some (if code k = 1 then .beacon else if code k = 2 then .slice else .report)) ∧
        (∀ k, k < 16 → ¬ phases → g.phaseTable[k]? =
          some (if k % 4 = 0 then .beacon else if k % 4 = 3 then .report else .slice))) ∧
      (imageGood r i = true ↔ i.length = 64 ∧ (i.map (·.toNat)).sum % 65536 = 0 ∧
        1 ≤ g.lineRateCode ∧ g.lineRateCode ≤ 3 ∧ 5 ≤ g.beaconPeriod ∧ g.beaconPeriod ≤ 200 ∧
        2 ≤ g.stalenessLimit ∧ g.stalenessLimit ≤ 255 ∧ 1 ≤ g.coastLimit ∧ g.coastLimit ≤ 50 ∧
        10 ≤ g.startTimeout ∧ g.startTimeout ≤ 2000 ∧ -150000 ≤ g.toolOffset ∧ g.toolOffset ≤ 150000 ∧
        (∀ k, (k = .configBad ∨ k = .duplicateStation ∨ k = .roleConflict ∨ k = .lineOff) →
          g.mask.getLsbD (faultCode k) = false ∧ g.severity.getLsbD (faultCode k) = true) ∧
        (∀ k, 25 ≤ k → k ≤ 27 → word k < 256) ∧
        (phases → (∀ k, k < 16 → code k ≠ 0) ∧ ∀ c : PhaseClass, c ∈ g.phaseTable) ∧
        (r = .travel →
          1 ≤ g.ratedSpeed ∧ g.ratedSpeed ≤ 5000 ∧ 1 ≤ g.acceleration ∧ g.acceleration ≤ 1000 ∧
          1 ≤ g.abortDecel ∧ g.abortDecel ≤ 1000 ∧ 1 ≤ g.umPerCount ∧ g.umPerCount ≤ 10 ∧
          g.homePosition ≤ 300000 ∧ 1 ≤ g.tachPulses ∧ g.tachPulses ≤ 1000) ∧
        (r = .power →
          1 ≤ g.stage ∧ g.stage ≤ 3 ∧ 1 ≤ g.ratedPower ∧ g.ratedPower ≤ 10000 ∧ 1 ≤ g.rampLimit ∧ g.rampLimit ≤ 1000) ∧
        (r = .quench →
          g.settleTime ≤ 10000 ∧ g.sprayLead ≤ 10000 ∧ g.soakTime ≤ 10000 ∧ 1 ≤ g.floodTime ∧ g.floodTime ≤ 60000)))

/-! ## The Position Tracker -/

/-- ENCODER_EDGE and HOME_CAPTURE (file 01, section 1.3): an edge counts up where its direction and ENC_B differ and down
where they agree, in a TRAVEL station that is not OFFLINE; a capture in IDLE zeroes the count and references it, and ends a move in flight
whose target is the home position or, having lain ahead, is passed by it (file 05, section 5.6; log entry 12). -/
def Obligations.EncoderAndHome : Prop :=
  ∀ (ticks : Nat) (rising encB : Bool) (s : State),
    let u := advance ticks s
    let levels := u.setPins { s.pins with encA := rising, encB := encB }
    let change : Int := if rising = encB then -1 else 1
    (s.role = some .travel → s.cycle.state ≠ .offline →
      exec (.encoderEdge ticks rising encB) s = .next (levels.setTracker { u.tracker with
        count := s.tracker.count + BitVec.ofInt 32 change, periodEdges := s.tracker.periodEdges + change })) ∧
    ((s.role ≠ some .travel ∨ s.cycle.state = .offline) → exec (.encoderEdge ticks rising encB) s = .next levels) ∧
    (s.role = some .travel → s.cycle.state = .idle →
      let captured := u.setTracker { u.tracker with count := 0, referenced := true }
      (s.travel.move = none → exec (.homeCapture ticks) s = .next captured) ∧
      (∀ m, s.travel.move = some m →
        let home := s.settings.homePosition
        let passed := m.ahead = true ∧ ((s.travel.dir = .up ∧ m.target ≤ home) ∨ (s.travel.dir = .down ∧ home ≤ m.target))
        ((home = m.target ∨ passed) → exec (.homeCapture ticks) s =
          .next (captured.setTravel { u.travel with command := 0, load := none, rise := none, move := none })) ∧
        (¬ (home = m.target ∨ passed) → exec (.homeCapture ticks) s = .next captured))) ∧
    ((s.role ≠ some .travel ∨ s.cycle.state ≠ .idle) → exec (.homeCapture ticks) s = .next u)

/-- POSITION_UPDATE in a TRAVEL station (file 01, sections 1.3 and 1.5): carriage position from the count, out-of-range
flag, measured speed over ten periods, and nothing outside the tracker. -/
def Obligations.TravelPositionUpdate : Prop :=
  ∀ (ticks : Nat) (s : State), s.role = some .travel → s.cycle.state ≠ .offline →
    let z : Int := s.settings.homePosition + (s.tracker.count.toInt * s.settings.umPerCount).tdiv 10
    let window := (s.tracker.periodEdges :: s.tracker.window).take 10
    let gained : Int := if s.direction = .up then window.sum else -window.sum
    ∃ t, exec (.positionUpdate ticks) s = .next t ∧
      t = (advance ticks s).setTracker t.tracker ∧
      t.tracker.raw = (if z < 0 then 0 else if 300000 < z then 300000 else z.toNat) ∧
      (t.tracker.outOfRange = true ↔ z < 0 ∨ 300000 < z) ∧
      t.tracker.window = window ∧ t.tracker.periodEdges = 0 ∧
      t.tracker.measured = min 5000 (gained.toNat * s.settings.umPerCount * 10) ∧
      t.tracker.count = s.tracker.count ∧ t.tracker.referenced = s.tracker.referenced ∧
      t.tracker.tool = s.tracker.tool ∧ t.tracker.zone = s.tracker.zone ∧ t.tracker.crossing = s.tracker.crossing

/-- POSITION_UPDATE in a POWER or QUENCH station (file 01, sections 1.4, 1.6 and 1.7): dead reckoning up to the coast
limit, the tool position, and the crossing record, which a POWER station's engine is handed. A zone that the update changes to one
other than INSIDE zeroes the power command (log entry 10). In OFFLINE nothing moves. -/
def Obligations.ToolPositionUpdate : Prop :=
  ∀ (ticks : Nat) (s : State),
    let u := advance ticks s
    (s.cycle.state = .offline → exec (.positionUpdate ticks) s = .next u) ∧
    ((s.role = some .power ∨ s.role = some .quench) → s.cycle.state ≠ .offline →
      ∃ t, exec (.positionUpdate ticks) s = .next t ∧
        t = (u.setTracker t.tracker).setPower t.power ∧ (s.role = some .quench → t.power = s.power) ∧
        (s.tracker.last = none → t.tracker.raw = 0) ∧
        (∀ b, s.tracker.last = some b → b.position ≤ 300000 →
          let limit := s.settings.coastLimit * 1000
          let time := if s.tracker.coastExpired then limit else min (u.clock.time - b.time).toNat limit
          let delta : Int := (b.speed * time / 1000000 : Nat)
          t.tracker.raw = clampPosition (if s.direction = .up then b.position + delta else b.position - delta)) ∧
        t.tracker.tool = clampPosition (t.tracker.estimate + s.settings.toolOffset) ∧
        t.tracker.seedDue = false ∧ t.tracker.last = s.tracker.last ∧ t.tracker.tracked = s.tracker.tracked ∧
        t.tracker.coastExpired = s.tracker.coastExpired ∧ t.tracker.sliceCount = s.tracker.sliceCount ∧
        ((s.inCycle = false ∨ s.tracker.seedDue = true) → t.tracker.crossing = none) ∧
        (s.inCycle = true → s.tracker.seedDue = false →
          t.tracker.crossing = crossingOf s.tracker.sliceCount s.tracker.zone t.tracker.zone ∧
          (s.role = some .power → t.power.inbox = s.power.inbox ++ t.tracker.crossing.toList)) ∧
        (s.role = some .power → s.inCycle = true → s.tracker.seedDue = true →
          t.power.current = (match t.tracker.zone with | .inside i => some i | _ => none)) ∧
        (s.role = some .power → t.tracker.zone ≠ s.tracker.zone → t.tracker.zone.isInside = false →
          t.power.command = 0 ∧ t.power.setpoint = some 0 ∧ t.power.sent = s.power.sent + 1) ∧
        ((t.tracker.zone = s.tracker.zone ∨ t.tracker.zone.isInside = true) →
          t.power.command = s.power.command ∧ t.power.sent = s.power.sent))

/-- R11: in STARTING, SCANNING and DONE each position update but the seeding one publishes the further of the raw estimate
and the held value, so estimate and tool position do not move against the scan direction; otherwise the raw estimate is
published; the held value follows. -/
def Obligations.MonotoneHold : Prop :=
  ∀ (ticks : Nat) (s : State), s.cycle.state ≠ .offline →
    ∃ t, exec (.positionUpdate ticks) s = .next t ∧ t.tracker.held = t.tracker.estimate ∧
      ((s.cycle.state = .starting ∨ s.cycle.state = .scanning ∨ s.cycle.state = .done) → s.tracker.seedDue = false →
        (s.direction = .up →
          t.tracker.estimate = max t.tracker.raw s.tracker.held ∧ s.tracker.held ≤ t.tracker.estimate ∧
          (s.role ≠ some .travel → s.tracker.tool = clampPosition (s.tracker.held + s.settings.toolOffset) →
            s.tracker.tool ≤ t.tracker.tool)) ∧
        (s.direction = .down →
          t.tracker.estimate = min t.tracker.raw s.tracker.held ∧ t.tracker.estimate ≤ s.tracker.held ∧
          (s.role ≠ some .travel → s.tracker.tool = clampPosition (s.tracker.held + s.settings.toolOffset) →
            t.tracker.tool ≤ s.tracker.tool))) ∧
      ((s.inCycle = false ∨ s.tracker.seedDue = true) → t.tracker.estimate = t.tracker.raw)

/-- R15: zone and slice index of the tool position, in both scan directions; the formula gives 0 for the slice at scan_start
and N − 1 for the slice at scan_end. With no valid active copy the zone is UNSET (R14). -/
def Obligations.ZonesAndSlices : Prop :=
  (∀ (ticks : Nat) (s : State) (a : ActiveCopy), (s.role = some .power ∨ s.role = some .quench) →
    s.cycle.state ≠ .offline → s.store.active = some a →
    let h := a.header
    ∃ t, exec (.positionUpdate ticks) s = .next t ∧
      (h.direction = .up →
        (t.tracker.tool < h.scanStart → t.tracker.zone = .before) ∧
        (h.scanStart ≤ t.tracker.tool → t.tracker.tool < h.scanEnd →
          t.tracker.zone = .inside ((t.tracker.tool - h.scanStart) / h.sliceLength)) ∧
        (h.scanStart ≤ t.tracker.tool → h.scanEnd ≤ t.tracker.tool → t.tracker.zone = .past)) ∧
      (h.direction = .down →
        (h.scanStart ≤ t.tracker.tool → t.tracker.zone = .before) ∧
        (h.scanEnd ≤ t.tracker.tool → t.tracker.tool < h.scanStart →
          t.tracker.zone = .inside ((h.scanStart - 1 - t.tracker.tool) / h.sliceLength)) ∧
        (t.tracker.tool < h.scanStart → t.tracker.tool < h.scanEnd → t.tracker.zone = .past))) ∧
  (∀ (ticks : Nat) (s : State), (s.role = some .power ∨ s.role = some .quench) → s.cycle.state ≠ .offline →
    s.store.active = none → ∃ t, exec (.positionUpdate ticks) s = .next t ∧ t.tracker.zone = .unset) ∧
  ∀ h : Header, 0 < h.sliceLength →
    (h.direction = .up → h.scanStart < h.scanEnd →
      zoneOf h h.scanStart = .inside 0 ∧ zoneOf h (h.scanEnd - 1) = .inside (sliceCountOf h - 1)) ∧
    (h.direction = .down → h.scanEnd < h.scanStart →
      zoneOf h (h.scanStart - 1) = .inside 0 ∧ zoneOf h h.scanEnd = .inside (sliceCountOf h - 1))

/-- COAST_TIMER_EXPIRY (file 01, section 1.4; file 04, section 4.3): the flag is set, a POWER station's command is zeroed,
the speed in use is 0 from then on (log entry 52), and in cycle COAST_EXPIRED is reported; before the timer has run out nothing
happens but time (log entry 5). -/
def Obligations.CoastExpiry : Prop :=
  ∀ (ticks : Nat) (s : State),
    let u := advance ticks s
    (u.tracker.coastTimer = some 0 → s.cycle.state ≠ .offline →
      ∃ t, exec (.coastTimerExpiry ticks) s = .next t ∧
        t.tracker = { u.tracker with coastTimer := none, coastExpired := true } ∧ t.speedInUse = 0 ∧
        (s.role = some .power → t.power.command = 0 ∧ t.power.setpoint = some 0) ∧
        (s.inCycle = true → s.isMasked .coastExpired = false → t.isLatched .coastExpired = true) ∧
        (s.inCycle = false → t.fault = s.fault ∧ t.cycle = u.cycle) ∧ t.settings = s.settings ∧ t.store = s.store ∧
        t.peers = u.peers ∧ t.interlock.drop = s.interlock.drop) ∧
    (u.tracker.coastTimer ≠ some 0 → exec (.coastTimerExpiry ticks) s = .next u)

/-! ## The Power Engine -/

/-- POWER_CONTROL_STEP with no crossing record to take (file 04, sections 4.1, 4.3 and 4.4): available power, target with
its clamp, the ramp on rises alone, the ceiling, the sample credited to the current slice, and the setpoint word, which at the
role's end follows a word of 0 (log entry 53). The carriage speed is the speed in use at the step, beacons since the last position
update included (log entry 52). The specific energy at the tool is that of the segment that holds the position, blended in from
the entry edge, and 0 in a gap, with heat enable off or without an active copy (file 02, section 2.8). -/
def Obligations.PowerControlStep : Prop :=
  (∀ s : State, s.energyAtTool = match s.store.active with | some a => energyIn a s.tracker.tool | none => 0) ∧
  (∀ (a : ActiveCopy) (pos k : Nat) (g : Segment), Holds a pos k g →
    (∀ e, g.fields = .power true e →
      (∀ b prev, Abuts a k g b → b.fields = .power true prev → Blended a g pos prev e (energyIn a pos)) ∧
      ((∀ b prev, Abuts a k g b → b.fields ≠ .power true prev) → Blended a g pos 0 e (energyIn a pos))) ∧
    ((∀ e, g.fields ≠ .power true e) → energyIn a pos = 0)) ∧
  (∀ (a : ActiveCopy) (pos : Nat), (∀ g ∈ a.segments, ¬ (g.start ≤ pos ∧ pos < g.stop)) → energyIn a pos = 0) ∧
  ∀ (ticks : Nat) (limit : Bool) (s : State), s.role = some .power → s.cycle.state ≠ .offline → s.power.inbox = [] →
    let energy := s.energyAtTool
    let speed := if s.trackedLive then s.speedInUse else 0
    let available := if limit then min s.settings.ratedPower s.power.feedback else s.settings.ratedPower
    let heating := s.cycle.state = .scanning ∧ s.tracker.zone.isInside = true ∧ s.pins.actReady = true ∧
      s.pins.actFault = false ∧ s.hold = false
    let wanted := if heating then (energy * speed + 5000) / 10000 else 0
    ∃ t, exec (.powerControlStep ticks limit) s = .next t ∧
      t.power.energy = energy ∧ t.power.speed = speed ∧ t.power.available = available ∧
      t.power.target = min wanted s.settings.ratedPower ∧
      (t.power.clamped = true ↔ s.settings.ratedPower < wanted) ∧
      (t.power.clampedSeen = true ↔ s.power.clampedSeen = true ∨ s.settings.ratedPower < wanted) ∧
      t.power.command = (if s.power.command < t.power.target
        then min (s.power.command + s.settings.rampLimit) t.power.target else t.power.target) ∧
      t.power.setpoint = some t.power.command ∧
      t.power.ceiling = (if s.hold = true then 0
        else if energy = 0 ∨ s.tracker.zone.isInside = false then 65535
        else min 65535 (available * 10000 / energy)) ∧
      t.power.feedback = s.power.feedback ∧ t.power.link = s.power.link ∧ t.power.notices = s.power.notices ∧
      (s.tracker.zone ≠ .past →
        t.power.current = s.power.current ∧
        t.power.acc = (if (s.cycle.state = .starting ∨ s.cycle.state = .scanning) ∧ s.power.current ≠ none
          then min 4294967295 (s.power.acc + s.power.feedback) else s.power.acc) ∧
        t.cycle = (advance ticks s).cycle ∧ t.sched = (advance ticks s).sched ∧ t.power.sent = s.power.sent + 1) ∧
      (s.tracker.zone = .past → s.cycle.state = .scanning → t.cycle.endKind = some .normal ∧
        (s.sched.reportOccupancy < Config.reportCapacity → t.power.sent = s.power.sent + 2)) ∧
      t.tracker = (advance ticks s).tracker ∧ t.pins = { s.pins with limit := limit } ∧ t.settings = s.settings

/-- At no carriage speed within the ceiling is the target above the available power (file 04, section 4.4). -/
def Obligations.CeilingHoldsPowerWithinAvailable : Prop :=
  ∀ energy available speed : Nat, speed ≤ powerCeiling false true energy available → energy ≠ 0 →
    powerFormula energy speed ≤ available ∧ energy * speed ≤ available * 10000

/-- A crossing record lists the slices left in scan order and counts the boundaries crossed (file 01, section 1.7); the
accumulator is divided over them, floor(A / m) each, the first with the remainder, nothing lost (file 04, section 4.5). A SLICE
NOTICE carries stage, cycle, slice, previous slice and energy as its receivers read them (file 08, section 8.3). -/
def Obligations.CrossingRecordsAndShares : Prop :=
  (∀ n i j : Nat,
      (i < j → crossingOf n (.inside i) (.inside j) =
        some { previous := .inside i, current := .inside j, k := j - i, left := (List.range (j - i)).map (i + ·) }) ∧
      crossingOf n (.inside i) .past =
        some { previous := .inside i, current := .past, k := n - i, left := (List.range (n - i)).map (i + ·) } ∧
      crossingOf n .before (.inside j) =
        some { previous := .before, current := .inside j, k := j + 1, left := List.range j } ∧
      crossingOf n .before .past = some { previous := .before, current := .past, k := n + 1, left := List.range n } ∧
      ∀ z, crossingOf n z z = none) ∧
  (∀ (s : State) (slice energy : Nat),
    let f := sliceNoticeFrame s slice energy
    slice < 65536 → energy < 65536 → (∀ l, s.power.link = some l → l < 65535) →
    f.kind = .sliceNotice ∧ f.source = s.loader.number ∧ f.destination = 15 ∧ f.words.length = 4 ∧
    noticeOf f.words = { stage := s.settings.stage % 4, cycle := s.cycle.number % 256, slice := slice
                         previous := s.power.link, energy := energy }) ∧
  ∀ (acc first : Nat) (rest : List Nat),
    let shares := sharesOf acc (first :: rest)
    shares.map (·.1) = first :: rest ∧ (shares.map (·.2)).sum = acc ∧
    shares.head? = some (first, acc / (rest.length + 1) + acc % (rest.length + 1)) ∧
    ∀ p ∈ shares.tail, p.2 = acc / (rest.length + 1)

/-- A control step takes every crossing record that waits, in their order: their slices are closed, one SLICE NOTICE each,
every notice naming the slice before it, the accumulator going to the first record; the sample then goes to the slice of the
last record. Where the SLICE queue is full the notices that find no room are dropped and counted and TX_OVERFLOW is latched,
and the chain goes on as if they had gone. A record into PAST ends the role (file 03, section 3.6) and a CYCLE SUMMARY is
handed; outside STARTING and SCANNING the records are retired without a notice (file 04, sections 4.5 and 4.6; file 09,
section 9.1). No frame of the station begins meanwhile. -/
def Obligations.CrossingClosesSlices : Prop :=
  ∀ (ticks : Nat) (limit : Bool) (s : State), s.role = some .power →
    let u := advance ticks s
    let closed := recordShares s.power.acc s.power.inbox
    let room := 8 - s.sched.sliceOccupancy
    let ends := s.cycle.state = .scanning ∧ s.tracker.zone = .past
    ((s.cycle.state = .starting ∨ s.cycle.state = .scanning) → s.mayBegin = false →
      (closed.length ≤ room ∨ s.isFatal .txOverflow = false) → (ends → s.isFatal .txOverflow = false) →
      ∃ t, exec (.powerControlStep ticks limit) s = .next t ∧
        t.sched.sliceQ = s.sched.sliceQ ++ (chainFrames s s.power.link closed).take room ∧
        t.power.link = (match closed.getLast? with | some p => some p.1 | none => s.power.link) ∧
        t.power.notices = (if closed = [] then s.power.notices else min 65535 (s.power.notices + closed.length)) ∧
        t.power.inbox = [] ∧
        (∀ c, s.power.inbox.getLast? = some c →
          t.power.current = (match c.current with | .inside j => some j | _ => none) ∧
          t.power.acc = (match c.current with | .inside _ => min 4294967295 s.power.feedback | _ => 0)) ∧
        (closed.length ≤ room → ¬ ends →
          t.sched = { u.sched with sliceQ := t.sched.sliceQ } ∧ t.cycle = u.cycle ∧ t.fault = s.fault ∧ t.line = s.line) ∧
        (room < closed.length →
          min 65535 (s.sched.dropCount + (closed.length - room)) ≤ t.sched.dropCount ∧
          (s.isMasked .txOverflow = false → t.isLatched .txOverflow = true)) ∧
        (ends → closed.length ≤ room → s.sched.reportOccupancy < 16 →
          t.cycle = { u.cycle with state := .done, endKind := some .normal } ∧ t.power.command = 0 ∧
          t.sched.reportQ = s.sched.reportQ ++ [cycleSummaryFrame t] ∧ t.fault = s.fault)) ∧
    (s.cycle.state ≠ .starting → s.cycle.state ≠ .scanning → s.cycle.state ≠ .offline →
      ∃ t, exec (.powerControlStep ticks limit) s = .next t ∧ t.power.inbox = [] ∧ t.power.current = s.power.current ∧
        t.power.acc = s.power.acc ∧ t.power.link = s.power.link ∧ t.power.notices = s.power.notices ∧
        t.sched = u.sched ∧ t.cycle = u.cycle ∧ t.fault = s.fault)

/-- FEEDBACK_WORD: a word with a good check gives the sample, clamped to 10 000; any other is discarded, and so is every word
in another role (file 04, section 4.1) or in OFFLINE (log entry 41). -/
def Obligations.FeedbackWord : Prop :=
  ∀ (ticks value : Nat) (good : Bool) (s : State),
    let u := advance ticks s
    (s.role = some .power → s.cycle.state ≠ .offline → good = true →
      exec (.feedbackWord ticks value good) s = .next (u.setPower { s.power with feedback := min 10000 value })) ∧
    ((s.role ≠ some .power ∨ s.cycle.state = .offline ∨ good = false) →
      exec (.feedbackWord ticks value good) s = .next u)

/-! ## Actuator and interlock inputs -/

/-- ACT_FAULT_ACTIVE, ACT_READY_INACTIVE and ACTUATOR_INPUT_RECOVERY (file 04 section 4.1, file 05 section 5.1, file 06
section 6.1): the direct effect on power, drive and valves, and when ACTUATOR_FAULT is reported. ACT_FAULT abandons a move
whatever DRV_EN (log entry 38); an input already at the level does nothing but let time pass (log entry 5). -/
def Obligations.ActuatorInputs : Prop :=
  ∀ (ticks : Nat) (s : State),
    let u := advance ticks s
    (s.pins.actFault = false → s.cycle.state ≠ .offline →
      ∃ t, exec (.actFaultActive ticks) s = .next t ∧ t.pins = { s.pins with actFault := true } ∧ t.drvEn = false ∧
        t.enable = false ∧
        (s.role = some .travel → t.travel.command = 0 ∧ t.travel.load = none ∧ t.travel.move = none) ∧
        (s.enable = true → t.power.command = 0 ∧ t.power.setpoint = some 0) ∧
        (s.role = some .quench → s.latchable .actuatorFault = false → t.quench = u.quench) ∧
        (s.isMasked .actuatorFault = false → t.isLatched .actuatorFault = true) ∧
        (s.latchable .actuatorFault = false → t.fault = s.fault ∧ t.cycle = u.cycle)) ∧
    (s.pins.actReady = true →
      ∃ t, exec (.actReadyInactive ticks) s = .next t ∧ t.pins = { s.pins with actReady := false } ∧ t.drvEn = false ∧
        t.enable = false ∧
        (s.role = some .travel → s.cycle.state ≠ .offline →
          t.travel.command = 0 ∧ t.travel.load = none ∧ t.travel.move = none) ∧
        (s.enable = true → t.power.command = 0 ∧ t.power.setpoint = some 0) ∧
        (s.inCycle = true → s.isMasked .actuatorFault = false → t.isLatched .actuatorFault = true) ∧
        (s.inCycle = false → t.fault = s.fault ∧ t.cycle = u.cycle)) ∧
    (s.pins.actFault = true → exec (.actFaultActive ticks) s = .next u) ∧
    (s.pins.actReady = false → exec (.actReadyInactive ticks) s = .next u) ∧
    exec (.actuatorInputRecovery ticks .faultCleared) s = .next (u.setPins { s.pins with actFault := false }) ∧
    exec (.actuatorInputRecovery ticks .readyActive) s = .next (u.setPins { s.pins with actReady := true })

/-- INTERLOCK_SAMPLE (file 11, section 11.7): levels by polarity, a drop latch for every fall, a fall removing its carried
mark (a trip that ends the cycle refreshes the beacons, which carry it anew), INTERLOCK_TRIP for a group-A fall in STARTING and
SCANNING, the power command zeroed as the hold begins; the first sample counts no fall, no report is made where no group-A input
falls, and OFFLINE samples nothing. -/
def Obligations.InterlockSample : Prop :=
  ∀ (ticks : Nat) (pins : Marks8) (s : State),
    let u := advance ticks s
    (s.cycle.state = .offline → exec (.interlockSample ticks pins) s = .next u) ∧
    (s.cycle.state ≠ .offline →
      ∃ t, exec (.interlockSample ticks pins) s = .next t ∧ t.interlock.sampled = true ∧
        (∀ n, n < 8 →
          let wasActive := s.interlock.level.getLsbD n
          let isActive := pins.getLsbD n != s.settings.polarity.getLsbD n
          let falls := s.interlock.sampled && wasActive && !isActive
          t.interlock.level.getLsbD n = isActive ∧
          t.interlock.drop.getLsbD n = (s.interlock.drop.getLsbD n || falls) ∧
          (falls = true → t.cycle.state = s.cycle.state → t.interlock.carried.getLsbD n = false) ∧
          (falls = true → s.settings.groupA.getLsbD n = true →
            (s.cycle.state = .starting ∨ s.cycle.state = .scanning) → s.isMasked .interlockTrip = false →
            t.isLatched .interlockTrip = true)) ∧
        (s.hold = false → t.hold = true → s.role = some .power → t.power.command = 0 ∧ t.power.setpoint = some 0) ∧
        ((s.cycle.state ≠ .starting ∧ s.cycle.state ≠ .scanning) → t.fault = s.fault ∧ t.cycle = u.cycle) ∧
        ((∀ n, n < 8 → s.settings.groupA.getLsbD n = true → s.interlock.sampled = true → s.interlock.level.getLsbD n = true →
            pins.getLsbD n ≠ s.settings.polarity.getLsbD n) →
          t.fault = s.fault ∧ t.cycle = u.cycle ∧ t.sched = u.sched ∧ t.quench = u.quench ∧ t.travel = u.travel) ∧
        ((s.latchable .interlockTrip = false ∨ (s.isFatal .interlockTrip = false ∧ s.isFatal .txOverflow = false)) →
          t.cycle = u.cycle) ∧
        t.settings = s.settings ∧ t.tracker = u.tracker ∧ t.peers = u.peers)

/-! ## The Travel Engine -/

/-- The speed target (file 05, section 5.2): 0 outside SCANNING, while the spindle is not at speed, a roster peer is LOST,
the hold stands or travel_end is reached; otherwise the least of segment speed, rated speed and the ceilings of the LIVE
roster POWER and QUENCH peers, one without role data giving 0. The segment speed is that of the segment that holds the
carriage, blended in from an entry-side neighbour that abuts it, or that of the nearest end segment; 0 without an active copy
(file 02, section 2.8). -/
def Obligations.SpeedTargetIsTheLeast : Prop :=
  (∀ s : State, s.speedAtCarriage = match s.store.active with | some a => speedIn a s.tracker.estimate | none => 0) ∧
  (∀ (a : ActiveCopy) (pos k : Nat) (g : Segment) (v : Nat), Holds a pos k g → g.fields = .travel v →
    (∀ b prev, Abuts a k g b → b.fields = .travel prev → Blended a g pos prev v (speedIn a pos)) ∧
    ((∀ b, ¬ Abuts a k g b) → speedIn a pos = v)) ∧
  (∀ (a : ActiveCopy) (pos v : Nat) (first last : Segment), a.segments.head? = some first →
    a.segments.getLast? = some last → (∀ g ∈ a.segments, ¬ (g.start ≤ pos ∧ pos < g.stop)) →
    (pos < first.start → first.fields = .travel v → speedIn a pos = v) ∧
    (first.start ≤ pos → last.stop ≤ pos → last.fields = .travel v → speedIn a pos = v)) ∧
  ∀ s : State,
    let stopped := s.cycle.state ≠ .scanning ∨ (0 < s.spindleTarget ∧ s.travel.atSpeed = false) ∨
      (∃ p ∈ s.peers, s.inRoster p.number = true ∧ p.live = false) ∨ s.hold = true ∨ s.pastTravelEnd = true
    let contributes := fun p : Peer => p ∈ s.peers ∧ s.inRoster p.number = true ∧ p.live = true ∧ p.role ≠ .travel
    (stopped → travelTarget s = 0) ∧
    (¬ stopped →
      travelTarget s ≤ s.speedAtCarriage ∧ travelTarget s ≤ s.settings.ratedSpeed ∧
      (∀ p, contributes p → travelTarget s ≤ ceilingOf p ∧ (p.data = none → travelTarget s = 0)) ∧
      (travelTarget s = s.speedAtCarriage ∨ travelTarget s = s.settings.ratedSpeed ∨
        ∃ p, contributes p ∧ travelTarget s = ceilingOf p))

/-- TRAVEL_CONTROL_STEP outside moves (file 05, section 5.3): in cycle the command goes toward the target by at most the
acceleration, in ABORTED and SILENT it falls by the abort deceleration, in JOINING, ARMED and an IDLE without a move it is
0; it is held at 0 while DIR is not the scan direction and while the drive is not ready (log entry 13); DIR turns only with
the command 0 and the carriage at rest. At the role end one CYCLE SUMMARY is handed, which in every role carries its fields where
file 08, section 8.3 has them. -/
def Obligations.TravelControlStep : Prop :=
  (∀ s : State,
    let f := cycleSummaryFrame s
    let w := fun i : Nat => f.words.getD i 0
    f.kind = .cycleSummary ∧ f.source = s.loader.number ∧ f.destination = 0 ∧
    bitsOf (w 0) 15 14 = s.loader.roleCode.toNat ∧
    bitsOf (w 0) 12 12 = (if s.role = some .power then s.power.clampedSeen.toNat else 0) ∧
    bitsOf (w 0) 11 11 = s.summary.fatal.toNat ∧ bitsOf (w 0) 10 10 = s.summary.nonFatal.toNat ∧
    bitsOf (w 0) 9 9 = s.summary.hold.toNat ∧ bitsOf (w 0) 8 8 = (if s.cycle.endKind = some .shortTravel then 1 else 0) ∧
    bitsOf (w 0) 7 0 = s.cycle.number % 256 ∧
    (w 1).toNat = (match s.store.active with | some a => a.header.recipe % 65536 | none => 0) ∧
    (w 2).toNat = s.cycle.scanTenths % 65536 ∧ (w 3).toNat = s.sched.dropCount % 65536 ∧
    (s.role = some .travel → f.words.length = 6 ∧
      bitsOf (w 4) 2 0 = s.tracker.estimate / 65536 % 8 ∧ (w 5).toNat = s.tracker.estimate % 65536) ∧
    (s.role = some .power → f.words.length = 5 ∧ (w 4).toNat = s.power.notices % 65536) ∧
    (s.role = some .quench → f.words.length = 8 ∧ (w 4).toNat = s.quench.nJudged % 65536 ∧
      (w 5).toNat = s.quench.nGood % 65536 ∧ (w 6).toNat = s.quench.nRejected % 65536 ∧
      (w 7).toNat = s.quench.nFlushed % 65536)) ∧
  ∀ (ticks : Nat) (s : State), s.role = some .travel →
    let u := advance ticks s
    let ready := s.pins.actReady = true ∧ s.pins.actFault = false
    let rest := s.tracker.window.sum = 0
    (s.inCycle = true →
      ∃ t, exec (.travelControlStep ticks) s = .next t ∧ t.travel.target = travelTarget u ∧
        t.travel.command = (if s.travel.dir = s.direction ∧ ready then
            (if s.travel.command < travelTarget u
              then min (s.travel.command + s.settings.acceleration) (travelTarget u)
              else max (s.travel.command - s.settings.acceleration) (travelTarget u))
          else 0) ∧
        t.travel.dir = (if t.travel.command = 0 ∧ rest then s.direction else s.travel.dir) ∧
        t.travel.load = generatorLoad t.travel.command ∧ t.tracker = u.tracker ∧ t.peers = u.peers ∧
        ((s.cycle.state ≠ .scanning ∨ s.pastTravelEnd = false ∨ t.travel.command ≠ 0) →
          t = u.setTravel t.travel ∧ t.travel.rpm = s.travel.rpm ∧ t.travel.spindleHold = s.travel.spindleHold) ∧
        (s.cycle.state = .scanning → s.pastTravelEnd = true → t.travel.command = 0 → ReportWaits s →
          t.cycle = { u.cycle with state := .done, endKind := some .normal } ∧
          t.travel.spindleHold = !t.spindleReleased ∧ t.sched.reportQ = s.sched.reportQ ++ [cycleSummaryFrame t])) ∧
    ((s.cycle.state = .aborted ∨ s.cycle.state = .silent) →
      let c := if ready then s.travel.command - s.settings.abortDecel else 0
      exec (.travelControlStep ticks) s = .next (u.setTravel (loadSteps { u.travel with target := 0, command := c }))) ∧
    ((s.cycle.state = .joining ∨ s.cycle.state = .armed ∨ (s.cycle.state = .idle ∧ s.travel.move = none)) →
      exec (.travelControlStep ticks) s = .next (u.setTravel
        { u.travel with target := 0, command := 0, load := none, rise := none }))

/-- R96: for a command above 0 the generator takes the smallest prescaler whose preset fits sixteen bits, the preset being
the half-period rounded half up less one; for 0 it makes no steps; every control step of a TRAVEL station loads it so for the
command it leaves. -/
def Obligations.StepGeneratorLoad : Prop :=
  generatorLoad 0 = none ∧
  (∀ v : Nat, 0 < v → ∃ p preset : Nat, generatorLoad v = some (p, preset) ∧
    p ∈ [1, 2, 4, 8, 16, 32, 64, 128] ∧ preset = (2000000 + v * p) / (2 * v * p) - 1 ∧ preset ≤ 65535 ∧
    (∀ p' ∈ [1, 2, 4, 8, 16, 32, 64, 128], p' < p → 65535 < (2000000 + v * p') / (2 * v * p') - 1) ∧
    halfTicks (p, preset) = p * (preset + 1)) ∧
    ∀ (ticks : Nat) (s : State), s.role = some .travel → s.cycle.state ≠ .offline →
      ∃ t, exec (.travelControlStep ticks) s = .next t ∧ t.travel.load = generatorLoad t.travel.command

/-- STEP_TOGGLE (file 05, section 5.4): as the half-period under way runs out STEP toggles and the latest load takes effect,
or STEP comes to rest inactive; an older half-period that ends after the command rose from 0 leaves STEP inactive until the
first toggle, or for a whole half-period where that has passed (log entry 46); before that nothing happens but time (log entry
5). At a control step a half-period under way keeps its length while a load stands or the command is 0; as the command rises
from 0 the first is that of the new load, but that an older one with STEP active runs out first (log entry 46). -/
def Obligations.StepToggle : Prop :=
  ∀ (ticks : Nat) (s : State),
    let u := advance ticks s
    (∀ p preset, u.travel.half = some 0 → s.travel.load = some (p, preset) → s.travel.rise = none →
      exec (.stepToggle ticks) s =
        .next (u.setTravel { u.travel with step := !s.travel.step, half := some (p * (preset + 1)) })) ∧
    (∀ p preset left, u.travel.half = some 0 → s.travel.load = some (p, preset) → u.travel.rise = some left →
      exec (.stepToggle ticks) s = .next (u.setTravel { u.travel with
        step := false, half := some (if left = 0 then p * (preset + 1) else left), rise := none })) ∧
    (u.travel.half = some 0 → s.travel.load = none →
      exec (.stepToggle ticks) s = .next (u.setTravel { u.travel with step := false, half := none, rise := none })) ∧
    (u.travel.half ≠ some 0 → exec (.stepToggle ticks) s = .next u) ∧
    (s.role = some .travel → s.cycle.state ≠ .offline →
      ∃ t, exec (.travelControlStep ticks) s = .next t ∧
        (t.travel.load = none → t.travel.half = u.travel.half ∧ t.travel.rise = none) ∧
        (t.travel.load ≠ none → s.travel.load ≠ none → s.travel.half ≠ none →
          t.travel.half = u.travel.half ∧ t.travel.rise = u.travel.rise) ∧
        (t.travel.load ≠ none → (s.travel.load = none ∨ s.travel.half = none) →
          (s.travel.half ≠ none ∧ s.travel.step = true →
            t.travel.half = u.travel.half ∧ t.travel.rise = t.travel.load.map halfTicks) ∧
          (s.travel.half = none ∨ s.travel.step = false →
            t.travel.half = t.travel.load.map halfTicks ∧ t.travel.rise = none)))

/-- POSITION (file 05, section 5.6): refused outside IDLE and in other roles, refused out of range, accepted otherwise with
the speed clamped to the rated speed and the command left as it is. -/
def Obligations.PositionFrame : Prop :=
  ∀ (ticks : Nat) (f : Rx) (s : State), Arrives .position f s →
    let u := s.heard ticks
    let target := (f.words.getD 0 0).toNat * 65536 + (f.words.getD 1 0).toNat
    let speed := (f.words.getD 2 0).toNat
    let result := fun c : ResultCode => u.setCycle { u.cycle with last := some (.position, c) }
    ((s.role ≠ some .travel ∨ s.cycle.state ≠ .idle) →
      exec (.position ticks f) s = .next (settled s (result .refusedState))) ∧
    (s.role = some .travel → s.cycle.state = .idle → (300000 < target ∨ speed = 0 ∨ 5000 < speed) →
      exec (.position ticks f) s = .next (settled s (result .refusedRange))) ∧
    (s.role = some .travel → s.cycle.state = .idle → target ≤ 300000 → 1 ≤ speed → speed ≤ 5000 →
      ∃ m : Move, m.target = target ∧ m.speed = min speed s.settings.ratedSpeed ∧
        exec (.position ticks f) s =
          .next (settled s ((result .accepted).setTravel { u.travel with move := some m })))

/-- TRAVEL_CONTROL_STEP with a move in flight (file 05, section 5.6): the move ends at the target, or once
it has passed it with the command above 0 (log entry 12); otherwise the command
goes toward the lesser of move speed and stopping speed, or toward 0 while DIR must turn or the hold stands. The square root
is the truncated one. -/
def Obligations.MoveControlStep : Prop :=
  (∀ n : Nat, isqrt n * isqrt n ≤ n ∧ n < (isqrt n + 1) * (isqrt n + 1)) ∧
  ∀ (ticks : Nat) (s : State) (m : Move), s.role = some .travel → s.cycle.state = .idle → s.travel.move = some m →
    let e := s.tracker.estimate
    let d := if e ≤ m.target then m.target - e else e - m.target
    let goal := if s.hold = true ∨ s.travel.dir ≠ (if e ≤ m.target then Dir.up else Dir.down) then 0
      else min m.speed (isqrt (2000 * s.settings.acceleration * d))
    let ahead := (s.travel.dir = .up ∧ e < m.target) ∨ (s.travel.dir = .down ∧ m.target < e)
    ((e = m.target ∨ (s.travel.command ≠ 0 ∧ m.ahead = true ∧ ¬ ahead)) →
      ∃ t, exec (.travelControlStep ticks) s = .next t ∧
      t = (advance ticks s).setTravel t.travel ∧ t.travel.command = 0 ∧ t.travel.move = none ∧
      t.travel.load = none ∧ t.travel.dir = s.travel.dir) ∧
    (e ≠ m.target → (s.travel.command = 0 ∨ m.ahead = false ∨ ahead) → s.pins.actReady = true → s.pins.actFault = false →
      ∃ t, exec (.travelControlStep ticks) s = .next t ∧ t = (advance ticks s).setTravel t.travel ∧
        t.travel.move.map (fun x => (x.target, x.speed)) = some (m.target, m.speed) ∧
        t.travel.command = (if s.travel.command < goal then min (s.travel.command + s.settings.acceleration) goal
          else max (s.travel.command - s.settings.acceleration) goal) ∧
        t.travel.load = generatorLoad t.travel.command ∧
        t.travel.dir = (if t.travel.command = 0 ∧ s.tracker.window.sum = 0
          then (if e ≤ m.target then Dir.up else Dir.down) else s.travel.dir))

/-- TACH_PULSE and TACH_WINDOW_END (file 05, section 5.7): pulses counted in a TRAVEL station that is not OFFLINE; at a
window's end the rpm, the at-speed flag within a twentieth of the target, the next window, and SPIN_LOST where the flag falls
in STARTING, SCANNING, DONE or ABORTED with SPIN_RUN active; before the window has run out its end does nothing but let time
pass (log entry 5). -/
def Obligations.SpindleTach : Prop :=
  ∀ (ticks : Nat) (s : State), s.role = some .travel → s.cycle.state ≠ .offline →
    let u := advance ticks s
    let rpm := min 65535 (s.travel.tachCount * 600 / s.settings.tachPulses)
    let off := if rpm ≤ s.spindleTarget then s.spindleTarget - rpm else rpm - s.spindleTarget
    let lost := s.travel.atSpeed = true ∧ s.spindleTarget / 20 < off ∧ s.spinRun = true ∧
      (s.cycle.state = .starting ∨ s.cycle.state = .scanning ∨ s.cycle.state = .done ∨ s.cycle.state = .aborted)
    exec (.tachPulse ticks) s = .next (u.setTravel { u.travel with tachCount := s.travel.tachCount + 1 }) ∧
    (u.travel.tachWindow = some 0 → ∃ t, exec (.tachWindowEnd ticks) s = .next t ∧
      t.travel.rpm = rpm ∧ (t.travel.atSpeed = true ↔ off ≤ s.spindleTarget / 20) ∧ t.travel.tachCount = 0 ∧
      t.travel.tachWindow = some 2000000 ∧ t.travel.command = s.travel.command ∧ t.travel.dir = s.travel.dir ∧
      (lost → s.isMasked .spinLost = false → t.isLatched .spinLost = true) ∧
      (¬ lost → t = u.setTravel t.travel)) ∧
    (u.travel.tachWindow ≠ some 0 → exec (.tachWindowEnd ticks) s = .next u)

/-! ## The Quench Engine -/

/-- SLICE_NOTICE taken in STARTING or SCANNING for a slice above J and below N (file 06, section 6.3): its entry is made where
there is none, its energy is listed under its stage unless the stage is already there, the first notice gives t_first, the
final stage's gives t_heat and HEATED, and no other entry changes. A stage field of 0 gives some stage of 1..3 (log entry
20). The chain link is whole and the list has room. In a runout the entry is judged at once with UNQUENCHED besides, and J
moves to it (section 6.4). -/
def Obligations.SliceNoticeApplied : Prop :=
  ∀ (ticks : Nat) (f : Rx) (s : State), Arrives .sliceNotice f s →
    let n := noticeOf f.words
    s.role = some .quench → (s.cycle.state = .starting ∨ s.cycle.state = .scanning) → n.cycle = s.cycle.number →
    (n.previous = none ∨ s.quench.lastNoticeOf f.source = n.previous) →
    (∀ j, s.quench.judged = some j → j < n.slice) → n.slice < s.tracker.sliceCount →
    (s.quench.entries.length < 48 ∨ (findEntryOf n.slice s.quench.entries).isSome = true) →
    (s.quench.runout = false → ∃ t g, exec (.sliceNotice ticks f) s = .next t ∧ 1 ≤ g ∧ g ≤ 3 ∧ (n.stage ≠ 0 → g = n.stage) ∧
      t.quench.lastNotice = s.quench.lastNotice.set f.source.toNat (some n.slice) ∧
      t.quench.nCreated = s.quench.nCreated + (if findEntryOf n.slice s.quench.entries = none then 1 else 0) ∧
      (∀ i, i ≠ n.slice → findEntryOf i t.quench.entries = findEntryOf i s.quench.entries) ∧
      (let old := (findEntryOf n.slice s.quench.entries).getD (freshEntry n.slice)
       ∃ new, findEntryOf n.slice t.quench.entries = some new ∧ new.slice = n.slice ∧ new.lost = old.lost ∧
         new.tFirst = some (old.tFirst.getD (s.heard ticks).clock.time) ∧
         (∀ p ∈ old.energies, p ∈ new.energies) ∧ (∀ p ∈ new.energies, p ∈ old.energies ∨ p = (g, n.energy)) ∧
         (g ∉ old.energies.map (·.1) → (g, n.energy) ∈ new.energies) ∧
         (g ∈ old.energies.map (·.1) → new.energies = old.energies) ∧
         (old.energies.Pairwise (fun a b => a.1 < b.1) → new.energies.Pairwise (fun a b => a.1 < b.1)) ∧
         (s.quench.finalStage = some g → new.heated = true ∧
           (old.heated = false → new.tHeat = some (s.heard ticks).clock.time) ∧
           (old.heated = true → new.tHeat = old.tHeat)) ∧
         (s.quench.finalStage ≠ some g → new.heated = old.heated ∧ new.tHeat = old.tHeat)) ∧
      t.quench.judged = s.quench.judged ∧ t.quench.nJudged = s.quench.nJudged ∧ t.quench.nLate = s.quench.nLate ∧
      t.quench.spray = s.quench.spray ∧ t.fault = s.fault) ∧
    (s.quench.runout = true → s.cycle.state = .scanning →
      s.quench.entries.Pairwise (fun a b => a.slice < b.slice) →
      s.isFatal .sliceReject = false → s.isFatal .txOverflow = false →
      ∃ t, exec (.sliceNotice ticks f) s = .next t ∧ t.quench.judged = some n.slice ∧
        findEntryOf n.slice t.quench.entries = none ∧
        (∀ i, i ≠ n.slice → findEntryOf i t.quench.entries = findEntryOf i s.quench.entries) ∧
        t.quench.lastNotice = s.quench.lastNotice.set f.source.toNat (some n.slice) ∧
        t.quench.nCreated = s.quench.nCreated + (if findEntryOf n.slice s.quench.entries = none then 1 else 0) ∧
        t.quench.nJudged = s.quench.nJudged + 1 ∧ t.quench.nRejected = s.quench.nRejected + 1 ∧
        t.quench.nGood = s.quench.nGood ∧ t.quench.nLate = s.quench.nLate ∧ t.quench.runout = true ∧
        t.quench.soak = some (s.settings.soakTime * 20000) ∧ t.cycle.state = .scanning ∧
        (s.isMasked .sliceReject = false → t.isLatched .sliceReject = true) ∧
        (s.sched.reportOccupancy < Config.reportCapacity →
          ∃ r : SliceResult, r.slice = n.slice ∧ r.verdict.unquenched = true ∧ sliceResultFrame s r ∈ t.sched.reportQ))

/-- SLICE_NOTICE not applied (file 06, section 6.3): another role, another cycle or no cycle leaves the engine as it is; in
DONE, or at or below J, the notice is late, its chain link being compared all the same (log entry 14); a slice at or beyond N,
and one with no entry where the list is full, reports TRAIL_FULL and enters nothing. -/
def Obligations.SliceNoticeNotApplied : Prop :=
  ∀ (ticks : Nat) (f : Rx) (s : State), Arrives .sliceNotice f s →
    let n := noticeOf f.words
    let q := (advance ticks s).quench
    ((s.role ≠ some .quench ∨ s.inCycle = false ∨ n.cycle ≠ s.cycle.number) →
      ∃ t, exec (.sliceNotice ticks f) s = .next t ∧ t.quench = q) ∧
    (s.role = some .quench → n.cycle = s.cycle.number → s.cycle.state = .done →
      (n.previous = none ∨ s.quench.lastNoticeOf f.source = n.previous →
        ∃ t, exec (.sliceNotice ticks f) s = .next t ∧ t.fault = s.fault ∧
          t.quench = { q with
            nLate := q.nLate + 1, lastNotice := q.lastNotice.set f.source.toNat (some n.slice) }) ∧
      (n.previous ≠ none → s.quench.lastNoticeOf f.source ≠ n.previous → s.isFatal .noticeLost = false →
        s.isFatal .txOverflow = false → (s.isFatal .trailFull = false ∨ s.quench.entries.length < 48) →
        s.quench.runout = false →
        ∃ t, exec (.sliceNotice ticks f) s = .next t ∧ t.quench.nLate = q.nLate + 1 ∧ t.cycle.state = .done ∧
          t.quench.lastNotice = q.lastNotice.set f.source.toNat (some n.slice) ∧
          (s.isMasked .noticeLost = false → t.isLatched .noticeLost = true))) ∧
    (s.role = some .quench → n.cycle = s.cycle.number → (s.cycle.state = .starting ∨ s.cycle.state = .scanning) →
      (n.previous = none ∨ s.quench.lastNoticeOf f.source = n.previous) →
      ((∃ j, s.quench.judged = some j ∧ n.slice ≤ j) →
        ∃ t, exec (.sliceNotice ticks f) s = .next t ∧
          t.quench = { q with
            nLate := q.nLate + 1, lastNotice := q.lastNotice.set f.source.toNat (some n.slice) }) ∧
      ((∀ j, s.quench.judged = some j → j < n.slice) →
        (s.tracker.sliceCount ≤ n.slice ∨
          (48 ≤ s.quench.entries.length ∧ findEntryOf n.slice s.quench.entries = none)) →
        s.isMasked .trailFull = false →
        ∃ t, exec (.sliceNotice ticks f) s = .next t ∧ t.isLatched .trailFull = true ∧
          t.quench.nCreated = q.nCreated ∧ t.quench.nLate = q.nLate ∧
          t.quench.lastNotice = q.lastNotice.set f.source.toNat (some n.slice) ∧
          (∀ e ∈ t.quench.entries, e ∈ q.entries) ∧
          (s.isFatal .trailFull = false → s.isFatal .txOverflow = false → t.quench.entries = q.entries)))

/-- A notice whose previous slice is not the sender's record (file 06, section 6.3): NOTICE_LOST is reported and the record is
set to the notice's own slice. The slice named, above J and below N, gets an entry with its LOST flag and no energies, or its
entry gets the flag; at or below J, or at or beyond N, nothing is made; where the list is full TRAIL_FULL is reported and nothing
is made, the notice going on to its own slice (log entry 44). The notice goes on to its own slice in each case, but in DONE it is
late (log entry 14). In a runout the entry made is judged at once, and so is that of the notice, or it is late. -/
def Obligations.MissedNoticeIsMarkedLost : Prop :=
  ∀ (ticks : Nat) (f : Rx) (s : State) (l : Nat), Arrives .sliceNotice f s →
    let n := noticeOf f.words
    let own := fun t : State => t.quench.lastNotice = s.quench.lastNotice.set f.source.toNat (some n.slice)
    let above := fun i : Nat => ∀ j, s.quench.judged = some j → j < i
    let steady := s.isFatal .noticeLost = false ∧ s.isFatal .txOverflow = false ∧ s.isFatal .trailFull = false
    s.role = some .quench → s.inCycle = true → n.cycle = s.cycle.number →
    n.previous = some l → s.quench.lastNoticeOf f.source ≠ some l →
    ∃ t, exec (.sliceNotice ticks f) s = .next t ∧ own t ∧
      (s.isMasked .noticeLost = false → t.isLatched .noticeLost = true) ∧
      (steady → l ≠ n.slice → s.quench.runout = false → above l → l < s.tracker.sliceCount →
        (findEntryOf l s.quench.entries = none → s.quench.entries.length < 48 →
          findEntryOf l t.quench.entries = some
            { slice := l, energies := [], tFirst := none, tHeat := none, heated := false, lost := true }) ∧
        (∀ e, findEntryOf l s.quench.entries = some e →
          findEntryOf l t.quench.entries = some { e with lost := true }) ∧
        (findEntryOf l s.quench.entries = none → 48 ≤ s.quench.entries.length →
          findEntryOf l t.quench.entries = none ∧ t.quench.nCreated = s.quench.nCreated ∧
          (s.isMasked .trailFull = false → t.isLatched .trailFull = true) ∧
          (s.cycle.state ≠ .done → above n.slice → n.slice < s.tracker.sliceCount →
            ∀ e, findEntryOf n.slice s.quench.entries = some e →
              ∃ e', findEntryOf n.slice t.quench.entries = some e' ∧
                e'.tFirst = some (e.tFirst.getD (s.heard ticks).clock.time)))) ∧
      (steady → s.quench.runout = false → (¬ above l ∨ s.tracker.sliceCount ≤ l) →
        ∀ i, i ≠ n.slice → findEntryOf i t.quench.entries = findEntryOf i s.quench.entries) ∧
      (steady → l ≠ n.slice → s.quench.runout = false → above n.slice → n.slice < s.tracker.sliceCount →
        s.quench.entries.length < 47 →
        (s.cycle.state ≠ .done → (findEntryOf n.slice t.quench.entries).isSome = true) ∧
        (s.cycle.state = .done → t.quench.nLate = s.quench.nLate + 1 ∧
          findEntryOf n.slice t.quench.entries = findEntryOf n.slice s.quench.entries)) ∧
      (steady → l ≠ n.slice → s.quench.runout = true → s.cycle.state = .scanning → s.quench.entries = [] →
        s.isFatal .sliceReject = false → above l → l < s.tracker.sliceCount → above n.slice →
        n.slice < s.tracker.sliceCount →
        let more := if l < n.slice then 2 else 1
        t.quench.entries = [] ∧ t.quench.judged = some (max l n.slice) ∧ t.quench.nCreated = s.quench.nCreated + more ∧
        t.quench.nJudged = s.quench.nJudged + more ∧ t.quench.nRejected = s.quench.nRejected + more ∧
        t.quench.nLate = s.quench.nLate + (if l < n.slice then 0 else 1))

/-- QUENCH_CONTROL_STEP judges every slice from J through the ring's reach (file 06, section 6.4): J becomes the reach, the
slice at the ring or the last slice once the ring is PAST; the entries up to it leave the list, each counted as judged, and
the entries beyond it stay. A slice with no entry is a rejected result, UNTRACKED, where the segment at the ring asks for heat,
and is passed over otherwise; each result restarts the soak. SLICE_REJECT and TX_OVERFLOW are not fatal, so nothing ends the
run (log entry 15); the role's end may follow at once where the ring is PAST and nothing was judged. Each result is handed as one
SLICE RESULT, in slice order, where the REPORT queue has room. -/
def Obligations.JudgmentThroughReach : Prop :=
  ∀ (ticks : Nat) (s : State) (r : Nat), s.role = some .quench → s.cycle.state = .scanning → s.quench.runout = false →
    (s.tracker.zone = .inside r ∨ (s.tracker.zone = .past ∧ s.tracker.sliceCount = r + 1)) →
    (∀ j, s.quench.judged = some j → j ≤ r) →
    s.quench.entries.Pairwise (fun a b => a.slice < b.slice) →
    (∀ e ∈ s.quench.entries, ∀ j, s.quench.judged = some j → j < e.slice) →
    s.isFatal .sliceReject = false → s.isFatal .txOverflow = false →
    let first := match s.quench.judged with | some j => j + 1 | none => 0
    let tracked := (s.quench.entries.filter (fun e => decide (e.slice ≤ r))).length
    let untracked := if 0 < s.quenchAtRing.energyLow then r + 1 - first - tracked else 0
    let u := advance ticks s
    let results := (List.range' first (r + 1 - first)).filterMap fun i =>
      match findEntryOf i s.quench.entries with
      | some e => some (resultOf u e false)
      | none => if 0 < s.quenchAtRing.energyLow then some (untrackedResult i) else none
    let ofResults := fun q : List Frame => q.filter fun f => decide (f.kind = .sliceResult)
    ∃ t, exec (.quenchControlStep ticks) s = .next t ∧ t.quench.judged = some r ∧
      t.quench.entries = s.quench.entries.filter (fun e => decide (r < e.slice)) ∧
      t.quench.nJudged = s.quench.nJudged + tracked ∧
      t.quench.nGood + t.quench.nRejected = s.quench.nGood + s.quench.nRejected + tracked + untracked ∧
      s.quench.nRejected + untracked ≤ t.quench.nRejected ∧
      t.quench.nGood = s.quench.nGood + (results.filter (·.verdict.good)).length ∧
      (s.onLine = true → s.mayBegin = false → s.sched.reportOccupancy + results.length + 2 ≤ 16 →
        ofResults t.sched.reportQ = ofResults s.sched.reportQ ++ results.map (sliceResultFrame s)) ∧
      t.quench.nCreated = s.quench.nCreated ∧ t.quench.nFlushed = s.quench.nFlushed ∧
      (0 < tracked + untracked → t.quench.soak = some (s.settings.soakTime * 20000) ∧ t.cycle.state = .scanning) ∧
      (s.tracker.zone = .inside r → t.cycle.state = .scanning)

/-- The delay is taken from t_heat in a HEATED entry, from t_first in a HEATING one, modulo 2^32, in whole ms,
saturating, and is absent without t_first. Judged energy and verdict flags of an entry against the quench settings at the
ring (file 06, section 6.4), and those of a slice with no entry. The settings at the ring are those of the segment that holds
it; where the ring stands in no segment spray is off and only PARTIAL, LOST and UNQUENCHED can be set (file 02, section 2.8). A
SLICE RESULT carries its fields where file 08, section 8.3 has them. -/
def Obligations.EntryDelayAndVerdict : Prop :=
  (∀ (now : LocalTime) (e : Entry),
    (∀ t, e.heated = true → e.tHeat = some t → delayOf now e = some (min 65535 ((now - t).toNat / 1000))) ∧
    (∀ t, e.heated = false → e.tFirst = some t → delayOf now e = some (min 65535 ((now - t).toNat / 1000))) ∧
    (e.heated = false → e.tFirst = none → delayOf now e = none) ∧
    ∀ (s : State) (unquenched : Bool), (resultOf s e unquenched).delay = delayOf s.clock.time e) ∧
  (∀ (s : State) (r : SliceResult),
    let f := sliceResultFrame s r
    let v := r.verdict
    f.kind = .sliceResult ∧ f.source = s.loader.number ∧ f.destination = 0 ∧
    ∃ w0 w1 w2 w3 w4, f.words = [w0, w1, w2, w3, w4] ++ r.energies.flatMap (fun p => [toWord p.1, toWord p.2]) ∧
      bitsOf w0 10 10 = r.delay.isSome.toNat ∧ bitsOf w0 9 8 = r.energies.length % 4 ∧
      bitsOf w0 7 0 = s.cycle.number % 256 ∧ w1.toNat = r.slice % 65536 ∧ w2.toNat = r.judgedEnergy % 65536 ∧
      w3.toNat = (match r.delay with | some d => d % 65536 | none => 0) ∧
      bitsOf w4 7 7 = v.unquenched.toNat ∧ bitsOf w4 6 6 = v.untracked.toNat ∧ bitsOf w4 5 5 = v.lost.toNat ∧
      bitsOf w4 4 4 = v.partialHeat.toNat ∧ bitsOf w4 3 3 = v.high.toNat ∧ bitsOf w4 2 2 = v.low.toNat ∧
      bitsOf w4 1 1 = v.short.toNat ∧ bitsOf w4 0 0 = v.late.toNat) ∧
  ∀ (s : State) (e : Entry) (unquenched : Bool),
    let r := resultOf s e unquenched
    let q := s.quenchAtRing
    r.judgedEnergy = min 65535 ((e.energies.map (·.2)).sum * 10000 / s.sliceLength) ∧
    (e.energies = [] → r.judgedEnergy = 0) ∧
    (r.verdict.short = true ↔ ∃ d, r.delay = some d ∧ d < q.delayMin) ∧
    (r.verdict.late = true ↔ ∃ d, r.delay = some d ∧ q.delayMax < d) ∧
    (r.verdict.low = true ↔ r.judgedEnergy < q.energyLow) ∧
    (r.verdict.high = true ↔ q.energyHigh < r.judgedEnergy) ∧
    (r.verdict.partialHeat = true ↔ e.heated = false) ∧
    (r.verdict.lost = true ↔ e.lost = true) ∧
    (r.verdict.unquenched = true ↔ unquenched = true) ∧
    r.verdict.untracked = false ∧
    (r.verdict.good = true ↔
      r.verdict.short = false ∧ r.verdict.late = false ∧ r.verdict.low = false ∧ r.verdict.high = false ∧
      r.verdict.partialHeat = false ∧ r.verdict.lost = false ∧ r.verdict.unquenched = false) ∧
    (∀ a k g q', s.store.active = some a → Holds a s.tracker.tool k g → g.fields = .quench q' → q = q') ∧
    ((∀ a, s.store.active = some a → ∀ g ∈ a.segments, ¬ (g.start ≤ s.tracker.tool ∧ s.tracker.tool < g.stop)) →
      q.mode = 0 ∧ q.delayMin = 0 ∧ q.delayMax = 65535 ∧ q.energyLow = 0 ∧ q.energyHigh = 65535 ∧
      r.verdict.short = false ∧ r.verdict.late = false ∧ r.verdict.low = false ∧ r.verdict.high = false) ∧
    ∀ i, untrackedResult i = { slice := i, energies := [], judgedEnergy := 0, delay := none, verdict :=
      { late := false, short := false, low := false, high := false, partialHeat := false, lost := false,
        untracked := true, unquenched := false } }

/-- SOAK_EXPIRY, FLOW_PULSE, FLOW_WINDOW_END and FLOOD_TIMER_EXPIRY (file 06, sections 6.5 to 6.7): the soak stops, pulses
are counted, a window reports FLOW_LOW only where the open time covered the settle time and the whole window, and the
flood's end closes both valves; before a timer has run out nothing happens but time (log entry 5). -/
def Obligations.QuenchTimersAndFlow : Prop :=
  ∀ (ticks : Nat) (s : State),
    let u := advance ticks s
    (u.quench.soak = some 0 → exec (.soakExpiry ticks) s = .next (u.setQuench { u.quench with soak := none })) ∧
    (u.quench.soak ≠ some 0 → exec (.soakExpiry ticks) s = .next u) ∧
    (u.quench.floodTimer = some 0 → exec (.floodTimerExpiry ticks) s =
      .next (u.setQuench { u.quench with spray := false, flood := false, floodTimer := none, openTime := none })) ∧
    (u.quench.floodTimer ≠ some 0 → exec (.floodTimerExpiry ticks) s = .next u) ∧
    (s.role = some .quench → s.cycle.state ≠ .offline →
      exec (.flowPulse ticks) s = .next (u.setQuench { u.quench with flowCount := s.quench.flowCount + 1 }) ∧
      (u.quench.flowWindow = some 0 →
        let low := s.quench.flowCount < s.settings.flowMinimum ∧
          ∃ open_, u.quench.openTime = some open_ ∧ s.settings.settleTime * 20000 + 2000000 ≤ open_
        (¬ low → exec (.flowWindowEnd ticks) s =
          .next (u.setQuench { u.quench with flowCount := 0, flowWindow := some 2000000 })) ∧
        (low → ∃ t, exec (.flowWindowEnd ticks) s = .next t ∧ t.quench.flowCount = 0 ∧
          t.quench.flowWindow = some 2000000 ∧ (s.isMasked .flowLow = false → t.isLatched .flowLow = true)))) ∧
    (u.quench.flowWindow ≠ some 0 → exec (.flowWindowEnd ticks) s = .next u)

/-- The valves (file 06, sections 6.1 and 6.5). Spray is demanded where the mode at the ring is not OFF and the soak runs or the
head entry's edge lies within the lead. At a control step of a QUENCH station SPRAY and FLOOD are closed in JOINING, IDLE and
ARMED and left alone in ABORTED and SILENT; in STARTING, SCANNING (with nothing to judge) and DONE a ring in CONTINUOUS mode
sprays as demanded (log entry 36), one in PULSED mode begins its ON phase at demand, a phase under way goes on, and without
demand the valve is closed, an ON phase in CONTINUOUS mode too keeping it open to its end (log entry 57); but in DONE SPRAY is
closed whatever demand and phase ask for, as the table of file 03, section 3.2 limits it (log entry 17). The ceiling is 0 under
the hold or with the valve set not ready. With the list empty, and the ring PAST or a runout under way, the station is DONE once
the soak is over and SPRAY closed (file 03, section 3.6). A pulse phase that runs out gives way to the other phase while demand
lasts in PULSED mode, SPRAY closed in DONE as before, and to IDLE with SPRAY closed otherwise (log entries 16 and 17); one that
has not run out does nothing but let time pass (log entry 5). -/
def Obligations.SprayAndPulse : Prop :=
  (∀ s : State, sprayDemanded s = true ↔ s.quenchAtRing.mode ≠ 0 ∧
    (s.quench.soak ≠ none ∨ ∃ e a, s.quench.entries.head? = some e ∧ s.store.active = some a ∧
      let h := a.header
      (h.direction = .up →
        (h.scanStart + e.slice * h.sliceLength : Int) - s.tracker.tool ≤ s.settings.sprayLead) ∧
      (h.direction = .down →
        (s.tracker.tool : Int) - (h.scanStart - 1 - e.slice * h.sliceLength) ≤ s.settings.sprayLead))) ∧
  ∀ (ticks : Nat) (s : State), s.role = some .quench →
    let u := advance ticks s
    let ring := s.quenchAtRing
    let ceiling := if s.hold = true ∨ s.pins.actReady = false ∨ s.pins.actFault = true then 0 else 65535
    let goesOn := sprayDemanded u = true ∧ ring.mode = 2
    let allowed := s.cycle.state ≠ .done
    let asked := fun b : Bool => b && decide allowed
    ((s.cycle.state = .joining ∨ s.cycle.state = .idle ∨ s.cycle.state = .armed) →
      exec (.quenchControlStep ticks) s =
        .next (u.setQuench { u.quench with spray := false, openTime := none, flood := false, ceiling := ceiling })) ∧
    ((s.cycle.state = .aborted ∨ s.cycle.state = .silent) →
      exec (.quenchControlStep ticks) s = .next (u.setQuench { u.quench with ceiling := ceiling })) ∧
    ((s.cycle.state = .starting ∨ s.cycle.state = .done ∨ (s.cycle.state = .scanning ∧ slicesToJudge s = [] ∧
        s.quench.runout = false ∧ s.tracker.zone ≠ .past)) →
      ∃ t, exec (.quenchControlStep ticks) s = .next t ∧ t = u.setQuench t.quench ∧ t.quench.ceiling = ceiling ∧
        t.quench.entries = s.quench.entries ∧ t.quench.judged = s.quench.judged ∧ t.quench.flood = s.quench.flood ∧
        (¬ allowed → t.quench.openTime = none) ∧
        (ring.mode = 1 → sprayDemanded u = true →
          t.quench.spray = asked true ∧ t.quench.pulse = .idle ∧ t.quench.pulseTimer = none ∧
          (allowed → t.quench.openTime = some (u.quench.openTime.getD 0))) ∧
        (ring.mode = 2 → s.quench.pulse = .idle → sprayDemanded u = true →
          t.quench.spray = asked true ∧ t.quench.pulse = .on ∧ t.quench.pulseTimer = some (ring.onTime * 20000)) ∧
        (s.quench.pulse = .idle → sprayDemanded u = false →
          t.quench.spray = false ∧ t.quench.openTime = none ∧ t.quench.pulse = .idle) ∧
        (s.quench.pulse ≠ .idle → (ring.mode ≠ 1 ∨ sprayDemanded u = false) →
          t.quench.spray = asked s.quench.spray ∧ t.quench.pulse = s.quench.pulse ∧
          t.quench.pulseTimer = u.quench.pulseTimer ∧ (ring.mode ≠ 1 → t.quench.openTime = none))) ∧
    (s.cycle.state = .scanning → s.quench.entries = [] →
      (s.quench.runout = true ∨ (s.tracker.zone = .past ∧ slicesToJudge s = [])) →
      let ended := s.quench.soak = none ∧ (s.quench.pulse = .idle ∨ s.quench.spray = false)
      (ended → s.sched.reportOccupancy < Config.reportCapacity →
        ∃ t, exec (.quenchControlStep ticks) s = .next t ∧
          t.cycle = { u.cycle with
            state := .done, endKind := some (if s.quench.runout then .shortTravel else .normal) } ∧
          t.quench.spray = false ∧ t.quench.runout = false ∧ t.quench.ceiling = ceiling ∧ t.fault = s.fault ∧
          (s.mayBegin = false → t.sched.reportQ = s.sched.reportQ ++ [cycleSummaryFrame t])) ∧
      (¬ ended → ∃ t, exec (.quenchControlStep ticks) s = .next t ∧ t = u.setQuench t.quench ∧
        t.quench.ceiling = ceiling ∧ t.quench.runout = s.quench.runout ∧ t.quench.soak = u.quench.soak)) ∧
    (u.quench.pulseTimer = some 0 →
      (s.quench.pulse = .on → goesOn → exec (.pulsePhaseExpiry ticks) s = .next (u.setQuench { u.quench with
        spray := false, openTime := none, pulse := .off, pulseTimer := some (ring.offTime * 20000) })) ∧
      (s.quench.pulse = .off → goesOn → exec (.pulsePhaseExpiry ticks) s = .next (u.setQuench { u.quench with
        spray := asked true, openTime := none, pulse := .on, pulseTimer := some (ring.onTime * 20000) })) ∧
      (¬ goesOn → exec (.pulsePhaseExpiry ticks) s = .next (u.setQuench { u.quench with
        spray := false, openTime := none, pulse := .idle, pulseTimer := none }))) ∧
    (u.quench.pulseTimer ≠ some 0 → exec (.pulsePhaseExpiry ticks) s = .next u)

/-! ## Cycle Control -/

/-- ABORT (file 03, section 3.7; file 06, section 6.7): one that names the station's cycle takes it to ABORTED with its
source as the cause, power off, ring flooded and list flushed, spindle held; any other only counts, and not in OFFLINE. The hold
begins anew at an abort from DONE, also where it had been released there (log entry 42), and the setpoint word carrying 0 goes
out whatever the command and ENABLE were (log entry 10). -/
def Obligations.AbortFrameTaken : Prop :=
  ∀ (ticks : Nat) (f : Rx) (s : State), Arrives .abort f s →
    let u := s.heard ticks
    let number := (f.words.getD 0 0).toNat
    let names := s.inCycle = true ∧ (number = s.cycle.number ∨ (number = 0 ∧ f.source = 0))
    (names → ∃ t, exec (.abort ticks f) s = .next t ∧
      t.cycle.state = .aborted ∧ t.cycle.number = s.cycle.number ∧ t.cycle.roster = s.cycle.roster ∧
      t.cycle.startTimer = none ∧ t.fault = { s.fault with cause := some (.abortFrom f.source) } ∧
      t.store = s.store ∧ t.tracker = u.tracker ∧ t.settings = s.settings ∧
      t.travel.move = none ∧ t.travel.command = s.travel.command ∧ t.travel.dir = s.travel.dir ∧
      (s.role = some .travel → t.travel.spindleHold = !t.spindleReleased) ∧
      t.power.current = none ∧ t.power.acc = 0 ∧ t.enable = false ∧
      (s.role = some .power → t.power.command = 0 ∧ t.power.setpoint = some 0) ∧
      (s.role = some .quench → t.quench = { u.quench with
        spray := true, flood := true, floodTimer := some (s.settings.floodTime * 20000), soak := none, pulse := .idle
        pulseTimer := none, openTime := none, runout := false, entries := []
        nFlushed := s.quench.nFlushed + s.quench.entries.length })) ∧
    (¬ names → s.cycle.state ≠ .offline → ∃ t, exec (.abort ticks f) s = .next t ∧
      t.fault = { s.fault with abortSeen := min 65535 (s.fault.abortSeen + 1) } ∧ t.quench = u.quench ∧
      (s.cycle.state ≠ .starting → t.cycle = u.cycle) ∧ (f.source = 0 → t = u.setFault t.fault)) ∧
    (s.cycle.state = .offline → exec (.abort ticks f) s = .next u)

/-- ARM (file 03, section 3.4; file 02, section 2.7): the eight checks in their order, the first failure giving the code and
changing nothing else; accepted, the station is ARMED on the staged copy or the active one, a QUENCH station with the highest
stage of its LIVE POWER peers as its final stage (file 06, section 6.2), the slice count being that of its active copy at once
(log entry 49). From DONE with ENABLE active a setpoint word carrying 0 goes out (log entry 10). -/
def Obligations.ArmFrame : Prop :=
  ∀ (ticks : Nat) (f : Rx) (s : State), Arrives .arm f s →
    let u := s.heard ticks
    let recipe := (f.words.getD 0 0).toNat
    let candidate := (readiness s.store).candidate
    let code : ResultCode :=
      if ¬ ((s.cycle.state = .idle ∨ s.cycle.state = .done) ∧ ¬ (s.role = some .travel ∧ s.travel.spindleHold = true)) then
        .refusedState
      else if ¬ (∃ h, candidate = some h ∧ (recipe = 0 ∨ recipe = h.recipe)) then .refusedStaging
      else if s.isLatched .roleConflict = true then .refusedConflict
      else if s.interlock.level &&& s.settings.groupA ≠ s.settings.groupA then .refusedInterlock
      else if s.pins.actReady = false then .refusedNotReady
      else if s.role = some .travel ∧ s.tracker.referenced = false then .refusedNotHomed
      else if s.role = some .travel ∧ s.tracker.outOfRange = true then .refusedRange
      else if s.role = some .quench ∧ ¬ (∃ h, candidate = some h ∧ geometryPasses s h = true) then .refusedGeometry
      else .accepted
    (code ≠ .accepted →
      exec (.arm ticks f) s = .next (settled s (u.setCycle { u.cycle with last := some (.arm, code) }))) ∧
    (code = .accepted → ∃ t, exec (.arm ticks f) s = .next t ∧
      t.cycle = { u.cycle with
        state := .armed, number := 0, roster := 0, endKind := none, last := some (.arm, .accepted) } ∧
      (s.store.staging.state = .valid → t.store.staging = Staging.cleared ∧
        ∃ h a, s.store.staging.header = some h ∧ t.store.active = some a ∧ a.header = h.header ∧
          a.segments = s.store.staging.clamped.map activeSegment) ∧
      (s.store.staging.state = .empty → t.store = s.store) ∧
      (s.role ≠ some .travel → ∀ a, t.store.active = some a → 0 < a.header.sliceLength →
        t.tracker.sliceCount = ((a.header.scanStart : Int) - a.header.scanEnd).natAbs / a.header.sliceLength +
          (if ((a.header.scanStart : Int) - a.header.scanEnd).natAbs % a.header.sliceLength = 0 then 0 else 1)) ∧
      t.travel.command = 0 ∧ t.travel.move = none ∧ t.travel.load = none ∧
      (s.role = some .quench → t.quench.entries = [] ∧ t.quench.judged = none ∧ t.quench.nCreated = 0 ∧
        t.quench.nJudged = 0 ∧ t.quench.nFlushed = 0 ∧ t.quench.spray = false ∧ t.quench.flood = false ∧
        t.quench.pulse = .idle ∧ t.quench.lastNotice = List.replicate 16 none ∧
        ∃ g, t.quench.finalStage = some g ∧
          (∀ p ∈ s.peers, p.live = true → p.role = .power → p.stage.getD 0 ≤ g) ∧
          ∃ p ∈ s.peers, p.live = true ∧ p.role = .power ∧ p.stage.getD 0 = g) ∧
      t.power = (if s.enable = true
        then { s.power with command := 0, setpoint := some 0, sent := s.power.sent + 1 } else s.power) ∧ t.fault = s.fault ∧ t.peers = u.peers)

/-- The trail depth and geometry check of an ARM in a QUENCH station (file 06, section 6.8). -/
def Obligations.GeometryCheck : Prop :=
  ∀ (s : State) (h : Header), 0 < h.sliceLength →
    let coils := fun p : Peer => p ∈ s.peers ∧ p.live = true ∧ p.role = .power
    (∀ p, coils p → p.toolOffset ≠ none) →
    (geometryPasses s h = true ↔
      (∃ p, coils p) ∧
      ∀ p o, coils p → p.toolOffset = some o →
        (h.direction = .up → s.settings.toolOffset < o) ∧ (h.direction = .down → o < s.settings.toolOffset) ∧
        (s.settings.toolOffset - o).natAbs ≤ 46 * h.sliceLength)

/-- CYCLE_START and START_TIMER_EXPIRY (file 03, section 3.5): a roster without the station's number is not meant for
it; the five checks give the code; accepted, the station is STARTING, or SCANNING at once if every other roster station
already shows its cycle. A TRAVEL station's command is 0 and DIR the scan direction where the carriage is at rest (file 05,
section 5.8; log entries 11 and 43); the crossing records not yet taken go (log entry 28), and a peer that a frame other than a
beacon returned holds the barrier open until its next beacon (log entry 47). A roster is valid that marks the station's own
number, neither 0 nor 15, and of the others only numbers with an entry, with one TRAVEL, one to three POWER and one to three
QUENCH among the stations marked, the station by its strapped role. The start timer's end reports START_TIMEOUT, which,
fatal, aborts with an ABORT frame; outside STARTING or before its time it does nothing (log entry 5). -/
def Obligations.CycleStartFrame : Prop :=
  (∀ (roster : Marks16) (s : State),
    let roleAt := fun i : Nat =>
      if i = s.loader.number.toNat then s.role else (s.peer (BitVec.ofNat 4 i)).map (·.role)
    let marked := (List.range' 1 14).filter fun i => roster.getLsbD i
    let count := fun r : Role => (marked.filter fun i => decide (roleAt i = some r)).length
    s.loader.number ≠ 0 → s.loader.number ≠ 15 →
    (rosterValid roster s = true ↔
      roster.getLsbD s.loader.number.toNat = true ∧ roster.getLsbD 0 = false ∧ roster.getLsbD 15 = false ∧
      (∀ i, 1 ≤ i → i ≤ 14 → roster.getLsbD i = true → i ≠ s.loader.number.toNat →
        ∃ p ∈ s.peers, p.number = BitVec.ofNat 4 i) ∧
      count .travel = 1 ∧ 1 ≤ count .power ∧ count .power ≤ 3 ∧ 1 ≤ count .quench ∧ count .quench ≤ 3)) ∧
  (∀ (ticks : Nat) (f : Rx) (s : State), Arrives .cycleStart f s →
    let u := s.heard ticks
    let number := (f.words.getD 0 0).toNat
    let roster := f.words.getD 1 0
    let code : ResultCode :=
      if s.cycle.state ≠ .armed then .refusedState
      else if number = 0 ∨ 255 < number then .refusedRange
      else if rosterValid roster s = false then .refusedRoster
      else if s.interlock.level &&& s.settings.groupA ≠ s.settings.groupA then .refusedInterlock
      else if s.pins.actReady = false then .refusedNotReady
      else .accepted
    let complete := BarrierMet s number roster
    (marksOwn roster s = false → exec (.cycleStart ticks f) s = .next u) ∧
    (marksOwn roster s = true → code ≠ .accepted → exec (.cycleStart ticks f) s =
      .next (settled s (u.setCycle { u.cycle with last := some (.cycleStart, code) }))) ∧
    (marksOwn roster s = true → code = .accepted → ∃ t, exec (.cycleStart ticks f) s = .next t ∧
      t.cycle.number = number ∧ t.cycle.roster = roster ∧ t.cycle.last = some (.cycleStart, .accepted) ∧
      (¬ complete → t.cycle.state = .starting ∧ t.cycle.startTimer = some (s.settings.startTimeout * 20000)) ∧
      (complete → t.cycle.state = .scanning ∧ t.cycle.startTimer = none ∧ t.cycle.scanTenths = 0) ∧
      t.tracker = { u.tracker with seedDue := true } ∧ t.sched.dropCount = 0 ∧
      t.power = { s.power with target := 0, command := 0, clamped := false, clampedSeen := false, current := none
                               acc := 0, link := none, notices := 0, inbox := [] } ∧
      (s.role ≠ some .travel → t.travel = u.travel) ∧
      (s.role = some .travel → t.travel = { u.travel with
        target := 0, command := 0, load := none, rise := none, spindleHold := false
        dir := if s.tracker.window.sum = 0 then s.direction else s.travel.dir }) ∧
      t.quench = u.quench ∧ t.fault = s.fault ∧ t.store = s.store)) ∧
  ∀ (ticks : Nat) (s : State),
    let u := advance ticks s
    (s.cycle.state = .starting → u.cycle.startTimer = some 0 →
      ∃ t, exec (.startTimerExpiry ticks) s = .next t ∧ t.cycle.startTimer = none ∧ t.cycle.number = s.cycle.number ∧
        (s.isMasked .startTimeout = false → t.isLatched .startTimeout = true) ∧
        (s.latchable .startTimeout = false → t = u.setCycle { u.cycle with startTimer := none }) ∧
        (s.latchable .startTimeout = true → s.isFatal .startTimeout = true →
          s.sched.reportOccupancy < Config.reportCapacity →
          t.cycle.state = .aborted ∧ t.fault.cause = some (.fault .startTimeout) ∧ AbortHanded s t)) ∧
    ((s.cycle.state ≠ .starting ∨ u.cycle.startTimer ≠ some 0) → exec (.startTimerExpiry ticks) s = .next u)

/-- CYCLE_END and CLEAR (file 03, sections 3.6 and 3.7; file 11, section 11.5): when each is accepted, what it clears, and the
entry to IDLE with the copies, the peers and the count of aborts kept. A CYCLE_END in DONE with ENABLE active sends a setpoint
word carrying 0 (log entry 10). A CLEAR in DONE is accepted while spindle hold runs too (log entry 51). -/
def Obligations.CycleEndAndClear : Prop :=
  ∀ (ticks : Nat) (f : Rx) (s : State),
    let u := s.heard ticks
    let idle := fun k : Kind =>
      { u.cycle with state := .idle, number := 0, roster := 0, endKind := none, last := some (k, .accepted) }
    let closed := { u.quench with spray := false, pulse := .idle, pulseTimer := none, openTime := none }
    let power := if s.enable = true
      then { s.power with command := 0, setpoint := some 0, sent := s.power.sent + 1 } else s.power
    (Arrives .cycleEnd f s →
      let number := (f.words.getD 0 0).toNat
      let ends := (s.cycle.state = .done ∧ (number = 0 ∨ number = s.cycle.number) ∧
          ¬ (s.role = some .travel ∧ s.travel.spindleHold = true)) ∨
        (s.cycle.state = .armed ∧ number = 0)
      (ends → exec (.cycleEnd ticks f) s =
        .next (settled s (((u.setPower power).setCycle (idle .cycleEnd)).setQuench closed))) ∧
      (¬ ends → exec (.cycleEnd ticks f) s =
        .next (settled s (u.setCycle { u.cycle with last := some (.cycleEnd, .refusedState) })))) ∧
    (Arrives .clear f s →
      let still := s.quench.flood = false ∧
        (s.role = some .travel → s.travel.command = 0 ∧ s.travel.spindleHold = false)
      let cleared := (u.setFault { s.fault with latches := 0, record := none, cause := none }).setLine
        { u.line with rxErr := 0, dupSeen := false }
      (s.cycle.state = .aborted → still → exec (.clear ticks f) s =
        .next (settled s ((cleared.setCycle (idle .clear)).setQuench closed))) ∧
      ((s.cycle.state = .joining ∨ s.cycle.state = .idle ∨ s.cycle.state = .armed ∨ s.inCycle = true) →
        exec (.clear ticks f) s =
          .next (settled s (cleared.setCycle { u.cycle with last := some (.clear, .accepted) }))) ∧
      ((s.cycle.state = .offline ∨ s.cycle.state = .silent ∨ (s.cycle.state = .aborted ∧ ¬ still)) →
        exec (.clear ticks f) s =
          .next (settled s (u.setCycle { u.cycle with last := some (.clear, .refusedState) }))))

/-- STATION_RESET (file 10, section 10.5): refused in OFFLINE; from SILENT the station joins afresh; from every other state
it is IDLE with its beacon timer started with the stagger delay; what each block loses and keeps, zone, slice count and crossing
record at the reset itself (log entry 48), the ring's speed ceiling standing until the next control step (log entry 55). -/
def Obligations.StationResetFrame : Prop :=
  ∀ (ticks : Nat) (f : Rx) (s : State), Arrives .stationReset f s →
    let u := s.heard ticks
    (s.cycle.state = .offline → exec (.stationReset ticks f) s =
      .next (settled s (u.setCycle { u.cycle with last := some (.stationReset, .refusedState) }))) ∧
    (s.cycle.state ≠ .offline → ∃ t, exec (.stationReset ticks f) s = .next t ∧
      t.cycle.number = 0 ∧ t.cycle.roster = 0 ∧ t.cycle.startTimer = none ∧ t.cycle.scanTenths = 0 ∧
      t.cycle.endKind = none ∧ t.cycle.last = some (.stationReset, .accepted) ∧
      (s.cycle.state = .silent → t.cycle.state = .joining ∧
        t.cycle.joinWindow = some (2 * s.settings.stalenessLimit * 20000) ∧ t.sched.beaconTimer = none ∧
        t.sched = { Sched.powerOn with
          beaconQ := some (joinFrame t), joinTimer := some (s.settings.beaconPeriod * 100 * 20) }) ∧
      (s.cycle.state ≠ .silent → t.cycle.state = .idle ∧ t.cycle.joinWindow = none ∧
        t.sched = { Sched.powerOn with
          beaconTimer := some (s.loader.number.toNat * (s.settings.beaconPeriod * 100) / 16 * 20) }) ∧
      t.store = Store.powerOn ∧ t.fault = FaultUnit.powerOn ∧
      t.tracker = { u.tracker with zone := .unset, sliceCount := 0, seedDue := false, crossing := none } ∧
      t.power.command = 0 ∧ t.power.current = none ∧ t.power.acc = 0 ∧ t.power.link = none ∧ t.power.notices = 0 ∧
      t.power.feedback = s.power.feedback ∧ t.power.ceiling = s.power.ceiling ∧
      t.travel.command = 0 ∧ t.travel.load = none ∧ t.travel.rise = none ∧ t.travel.move = none ∧
      t.travel.spindleHold = false ∧ t.travel.dir = s.travel.dir ∧ t.travel.step = s.travel.step ∧
      t.travel.tachWindow = u.travel.tachWindow ∧ t.travel.half = u.travel.half ∧
      t.quench = { Quench.powerOn with
        flowCount := s.quench.flowCount, flowWindow := u.quench.flowWindow, ceiling := s.quench.ceiling } ∧
      t.peers = u.peers ∧ t.line = { u.line with attempt := none, txErr := 0, rxErr := 0, dupSeen := false } ∧
      t.interlock = { s.interlock with drop := 0, carried := 0 } ∧ t.settings = s.settings ∧ t.loader = s.loader)

/-! ## The Profile Store and the Fault Unit's query -/

/-- RECIPE_HEADER, SEGMENT, COMMIT and FAULT_QUERY where the station takes commands (file 02, sections 2.3 and 2.4; file 11,
section 11.6): staging restarted, a segment stored under its index, a copy validated to VALID or BAD with its code, a FAULT
RECORD handed; a SEGMENT for another role gives no result, and OFFLINE and SILENT refuse, also the SEGMENT for the station's own
role. A copy that passes is held clamped, with the set of the clamps applied. The FAULT RECORD carries its fields where file
08, section 8.3 has them; what an absent part leaves is log entry 22. A COMMIT in BAD is validated against its own recipe number
and sum (log entry 54). -/
def Obligations.RecipeFramesAndQuery : Prop :=
  (∀ s : State,
    let f := faultRecordFrame s
    let w := fun i : Nat => f.words.getD i 0
    let x := s.fault.record
    f.kind = .faultRecord ∧ f.source = s.loader.number ∧ f.destination = 0 ∧ f.words.length = 12 ∧
    bitsOf (w 0) 15 15 = x.isSome.toNat ∧ bitsOf (w 0) 14 14 = s.line.dupSeen.toNat ∧
    (w 6) = s.fault.latches ∧ bitsOf (w 7) 15 8 = min s.fault.abortSeen 255 ∧ bitsOf (w 9) 13 8 = s.line.txErr % 64 ∧
    (s.fault.cause = none → bitsOf (w 7) 7 0 = 0) ∧
    (∀ k, s.fault.cause = some (.fault k) → bitsOf (w 7) 7 0 = 64 + faultCode k) ∧
    (∀ n, s.fault.cause = some (.abortFrom n) → bitsOf (w 7) 7 0 = 192 + n.toNat) ∧
    (x = none → bitsOf (w 0) 13 0 = 15 * 256 ∧ (∀ i, 1 ≤ i → i ≤ 5 → w i = 0) ∧ w 8 = 0 ∧ bitsOf (w 9) 7 0 = 0 ∧ w 10 = 0 ∧
      w 11 = 0) ∧
    (∀ r, x = some r →
      bitsOf (w 0) 13 13 = r.snapshot.isSome.toNat ∧ bitsOf (w 0) 12 12 = r.captured.isSome.toNat ∧
      bitsOf (w 0) 11 8 = (match r.related with | some n => n.toNat | none => 15) ∧
      bitsOf (w 0) 7 4 = stateCode r.state ∧ bitsOf (w 0) 3 0 = faultCode r.kind ∧
      (w 1).toNat * 65536 + (w 2).toNat = r.time.toNat ∧ bitsOf (w 3) 7 0 = r.cycle % 256 ∧
      bitsOf (w 4) 10 8 = r.estimate / 65536 % 8 ∧ (w 5).toNat = r.estimate % 65536 ∧
      (r.captured = none → bitsOf (w 3) 15 8 = 0 ∧ bitsOf (w 4) 5 0 = 0) ∧
      (∀ c, r.captured = some c → bitsOf (w 3) 15 12 = c.source.toNat ∧
        bitsOf (w 3) 11 8 = classCode (classOf c.kind) ∧ bitsOf (w 4) 5 0 = kindCode c.kind) ∧
      (r.snapshot = none → w 8 = 0 ∧ bitsOf (w 9) 7 0 = 0 ∧ w 10 = 0 ∧ w 11 = 0) ∧
      ∀ p, r.snapshot = some p → bitsOf (w 8) 15 14 = roleCode p.role ∧ bitsOf (w 8) 13 10 = stateCode p.state ∧
        bitsOf (w 8) 9 9 = p.live.toNat ∧ bitsOf (w 8) 6 6 = p.summary.fatal.toNat ∧
        bitsOf (w 8) 5 5 = p.summary.nonFatal.toNat ∧ bitsOf (w 8) 4 4 = p.summary.hold.toNat ∧
        bitsOf (w 9) 7 0 = p.cycle % 256 ∧ (w 10).toNat = p.recipe % 65536 ∧ (w 11).toNat = p.age % 65536)) ∧
  ∀ (ticks : Nat) (f : Rx) (s : State) (r : Role), s.role = some r →
    let u := s.heard ticks
    let g := s.store.staging
    let result := fun (k : Kind) (c : ResultCode) => u.setCycle { u.cycle with last := some (k, c) }
    let staged := fun (k : Kind) (c : ResultCode) (x : Staging) => (result k c).setStore { s.store with staging := x }
    (Arrives .recipeHeader f s → s.onLine = true → exec (.recipeHeader ticks f) s =
      .next (settled s (staged .recipeHeader .accepted
        { state := .filling, header := some ⟨headerOf f.words, f.words⟩, segments := [], check := none, clamps := none,
          clamped := [] }))) ∧
    (Arrives .segment f s → s.onLine = true → bitsOf (f.words.getD 0 0) 13 12 = roleCode r →
      let i := bitsOf (f.words.getD 0 0) 7 0
      (32 ≤ i → exec (.segment ticks f) s = .next (settled s (staged .segment .refusedRange g))) ∧
      (i < 32 → (g.state = .empty ∨ g.state = .valid) →
        exec (.segment ticks f) s = .next (settled s (staged .segment .refusedStaging g))) ∧
      (i < 32 → (g.state = .filling ∨ g.state = .bad) →
        ∃ x, exec (.segment ticks f) s = .next (settled s (staged .segment .accepted x)) ∧
          x.state = .filling ∧ x.header = g.header ∧ x.check = none ∧
          (⟨segmentOf r f.words, f.words⟩ : StagedSegment) ∈ x.segments ∧
          (g.segments.Pairwise (fun a b => a.segment.index < b.segment.index) →
            ∀ y, y ∈ x.segments ↔
              y = ⟨segmentOf r f.words, f.words⟩ ∨ (y ∈ g.segments ∧ y.segment.index ≠ i)))) ∧
    (Arrives .segment f s → bitsOf (f.words.getD 0 0) 13 12 ≠ roleCode r →
      exec (.segment ticks f) s = .next u) ∧
    (Arrives .commit f s → s.onLine = true → (g.state = .empty ∨ g.state = .valid) →
      exec (.commit ticks f) s = .next (settled s (staged .commit .refusedStaging g))) ∧
    (∀ h, Arrives .commit f s → s.onLine = true → (g.state = .filling ∨ g.state = .bad) → g.header = some h →
      let failed := validateStaged r (f.words.getD 0 0).toNat (f.words.getD 1 0).toNat h g.segments
      ∃ x, x.header = g.header ∧ x.segments = g.segments ∧ x.check = failed ∧
        (failed = none → x.state = .valid ∧
          x.clamped = (g.segments.map (·.segment)).map (clampSegment s.settings.ratedSpeed) ∧
          (∃ c, x.clamps = some c ∧
            (c.blend = true ↔ ∃ y ∈ g.segments, y.segment.stop - y.segment.start < y.segment.blend) ∧
            (c.speed = true ↔ ∃ y ∈ g.segments, ∃ v, y.segment.fields = .travel v ∧ s.settings.ratedSpeed < v) ∧
            (c.pulse = true ↔ ∃ y ∈ g.segments, ∃ q, y.segment.fields = .quench q ∧ (q.onTime = 0 ∨ q.offTime = 0))) ∧
          exec (.commit ticks f) s = .next (settled s (staged .commit .accepted x))) ∧
        (∀ c, failed = some c → x.state = .bad ∧ x.clamped = [] ∧
          exec (.commit ticks f) s = .next (settled s (staged .commit
            (match c.check with
             | .count | .presence | .sum => .refusedStaging
             | .range => .refusedRange
             | .order | .coverage => .refusedGeometry) x)))) ∧
    (Arrives .faultQuery f s → ReportWaits s → exec (.faultQuery ticks f) s =
      .next (settled s ((result .faultQuery .accepted).setSched
        { u.sched with reportQ := s.sched.reportQ ++ [faultRecordFrame u] }))) ∧
    (s.onLine = false →
      (Arrives .recipeHeader f s → exec (.recipeHeader ticks f) s =
        .next (settled s (result .recipeHeader .refusedState))) ∧
      (Arrives .segment f s → bitsOf (f.words.getD 0 0) 13 12 = roleCode r →
        exec (.segment ticks f) s = .next (settled s (result .segment .refusedState))) ∧
      (Arrives .commit f s → exec (.commit ticks f) s = .next (settled s (result .commit .refusedState))) ∧
      (Arrives .faultQuery f s → exec (.faultQuery ticks f) s =
        .next (settled s (result .faultQuery .refusedState))))

/-- R27 and R31: PRESENCE passes when every index below the count is staged and fails with the lowest that is not; ORDER
fails at the first segment whose start is not below its end or lies below the end before it, and a table that passes has no
position in two segments. COUNT, SUM, RANGE and COVERAGE likewise, each with the index it fails with (R26, R28, R29, R30, R32);
the first check that fails ends the validation, COVERAGE being made in a TRAVEL station alone (R25); and the clamped value of
every field of a segment (R33). -/
def Obligations.CommitChecks : Prop :=
  (∀ (h : Header) (segs : List Segment),
    (checkPresence h segs = none ↔ ∀ i, i < h.segmentCount → ∃ g ∈ segs, g.index = i) ∧
    (∀ c, checkPresence h segs = some c ↔ c.check = .presence ∧ ∃ i, c.index = some i ∧ i < h.segmentCount ∧
      (∀ g ∈ segs, g.index ≠ i) ∧ ∀ j, j < i → ∃ g ∈ segs, g.index = j) ∧
    (checkCount h segs = none → checkPresence h segs = none →
      ∀ i, (∃ g ∈ segs, g.index = i) ↔ i < h.segmentCount)) ∧
  (∀ segs : List Segment,
    let fails := fun (k : Nat) (g : Segment) =>
      g.stop ≤ g.start ∨ (0 < k ∧ ∃ b, segs[k - 1]? = some b ∧ g.start < b.stop)
    (checkOrder segs = none ↔ ∀ k g, segs[k]? = some g → ¬ fails k g) ∧
    (∀ c, checkOrder segs = some c ↔ c.check = .order ∧ ∃ k g, segs[k]? = some g ∧ c.index = some g.index ∧
      fails k g ∧ ∀ j b, j < k → segs[j]? = some b → ¬ fails j b) ∧
    (checkOrder segs = none → segs.Pairwise fun a b => a.stop ≤ b.start ∧ a.start < b.start)) ∧
  (∀ (h : Header) (segs : List Segment),
    ((h.segmentCount = 0 ∨ 32 < h.segmentCount) → checkCount h segs = some ⟨.count, none⟩) ∧
    (1 ≤ h.segmentCount → h.segmentCount ≤ 32 →
      (checkCount h segs = none ↔ ∀ g ∈ segs, g.index < h.segmentCount) ∧
      ∀ c, checkCount h segs = some c ↔ c.check = .count ∧ ∃ (k : Nat) (g : Segment), segs[k]? = some g ∧ c.index = some g.index ∧
        h.segmentCount ≤ g.index ∧ ∀ (j : Nat) (b : Segment), j < k → segs[j]? = some b → b.index < h.segmentCount)) ∧
  (∀ (recipe sum : Nat) (h : StagedHeader) (segs : List StagedSegment),
    let words := h.words ++ segs.flatMap (·.words)
    checkSum recipe sum h segs =
      if recipe = h.header.recipe ∧ sum = (words.map (·.toNat)).sum % 65536 then none else some ⟨.sum, none⟩) ∧
  (∀ (h : Header) (segs : List Segment),
    let headerGood := h.recipe ≠ 0 ∧ h.scanStart ≤ 300000 ∧ h.scanEnd ≤ 300000 ∧ h.travelStart ≤ 300000 ∧
      h.travelEnd ≤ 300000 ∧ 100 ≤ h.sliceLength ∧ h.sliceLength ≤ 2000 ∧
      (h.direction = .up → h.scanStart < h.scanEnd ∧ h.travelStart < h.travelEnd) ∧
      (h.direction = .down → h.scanEnd < h.scanStart ∧ h.travelEnd < h.travelStart)
    let good := fun g : Segment => g.start ≤ 300000 ∧ g.stop ≤ 300000 ∧ g.blend ≤ 10000 ∧
      (∀ v, g.fields = .travel v → 1 ≤ v ∧ v ≤ 5000) ∧
      (∀ q, g.fields = .quench q → q.mode ≤ 2 ∧ q.onTime ≤ 1000 ∧ q.offTime ≤ 1000 ∧ q.delayMin ≤ q.delayMax ∧
        q.energyLow ≤ q.energyHigh)
    (¬ headerGood → checkRange h segs = some ⟨.range, none⟩) ∧
    (headerGood →
      (checkRange h segs = none ↔ ∀ g ∈ segs, good g) ∧
      ∀ c, checkRange h segs = some c ↔ c.check = .range ∧ ∃ (k : Nat) (g : Segment), segs[k]? = some g ∧ c.index = some g.index ∧
        ¬ good g ∧ ∀ (j : Nat) (b : Segment), j < k → segs[j]? = some b → good b)) ∧
  (∀ (h : Header) (g : Segment) (rest : List Segment),
    let segs := g :: rest
    let lower := min h.travelStart h.travelEnd
    let upper := max h.travelStart h.travelEnd
    let joined := fun k : Nat => ∀ a b, segs[k]? = some a → segs[k + 1]? = some b → a.stop = b.start
    (lower < g.start → checkCoverage h segs = some ⟨.coverage, some 0⟩) ∧
    (g.start ≤ lower → ∀ k a b, segs[k]? = some a → segs[k + 1]? = some b → a.stop ≠ b.start → (∀ j, j < k → joined j) →
      checkCoverage h segs = some ⟨.coverage, some b.index⟩) ∧
    (g.start ≤ lower → (∀ k, joined k) → ∀ z, segs.getLast? = some z →
      checkCoverage h segs = if z.stop < upper then some ⟨.coverage, some z.index⟩ else none)) ∧
  (∀ (role : Role) (recipe sum : Nat) (h : StagedHeader) (segs : List StagedSegment),
    let gs := segs.map (·.segment)
    validateStaged role recipe sum h segs =
      [checkCount h.header gs, checkPresence h.header gs, checkSum recipe sum h segs, checkRange h.header gs,
        checkOrder gs, if role = .travel then checkCoverage h.header gs else none].findSome? id) ∧
  ∀ (rated : Nat) (g : Segment),
    let c := clampSegment rated g
    c.index = g.index ∧ c.start = g.start ∧ c.stop = g.stop ∧
    c.blend = (if g.stop - g.start < g.blend then g.stop - g.start else g.blend) ∧
    (∀ v, g.fields = .travel v → c.fields = .travel (if rated < v then rated else v)) ∧
    (∀ e n, g.fields = .power e n → c.fields = g.fields) ∧
    (∀ q, g.fields = .quench q → c.fields = .quench { q with
      onTime := if q.onTime = 0 then 1 else q.onTime, offTime := if q.offTime = 0 then 1 else q.offTime })

/-! ## The Peer Table -/

/-- JOIN and BEACON (file 07, sections 7.1, 7.2 and 7.4): the sender's entry becomes LIVE with the frame's fields, a TRAVEL or
QUENCH entry keeping the tool offset of its last JOIN; no other entry changes, a conflicting role or stage reports
ROLE_CONFLICT, and a TRAVEL beacon of the tracked number reaches the tracker of a POWER or QUENCH station. Where there is no
conflict, a roster peer's JOIN or BEACON releases the spindle hold once no roster QUENCH peer holds it (file 05, section 5.7),
and a BEACON completes the start barrier (file 03, section 3.5), brings the abort of a peer, and brings short travel: a POWER
station takes its waiting records, closes its open slice and is DONE; a QUENCH station judges its list as UNQUENCHED, or is DONE
where it has nothing to wait for (file 03, section 3.6; file 04, section 4.6; file 06, section 6.4; recognised once, log entry
18), its SPRAY closed then and its pulse phase going on (file 03, section 3.2; log entry 17). At a peer's abort from DONE the
spindle hold begins anew (log entry 42), and an entry that awaits a beacon after its return holds the barrier open (log entry
47). -/
def Obligations.JoinAndBeaconFrames : Prop :=
  (∀ (s : State) (n : StationNo) (role : Role) (stage : Nat), conflicts s n role stage = true ↔
    (role = .travel ∧ (s.role = some .travel ∨ (∃ m, s.tracker.tracked = some m ∧ m ≠ n) ∨
      ∃ p ∈ s.peers, p.number ≠ n ∧ p.role = .travel)) ∨
    (role = .power ∧ ((s.role = some .power ∧ s.settings.stage = stage) ∨
      ∃ p ∈ s.peers, p.number ≠ n ∧ p.role = .power ∧ p.stage = some stage))) ∧
  ∀ (ticks : Nat) (f : Rx) (s : State), s.cycle.state ≠ .offline → s.ownNumber ≠ some f.source → f.source ≠ 15 →
    let u := s.heard ticks
    let others := fun t : State => ∀ m, m ≠ f.source → t.peer m = u.peer m
    let inRoster := s.inRoster f.source = true
    let held := fun t : State => t.travel.spindleHold = (s.travel.spindleHold && !t.spindleReleased)
    (∀ j, Arrives .join f s → joinOf f.words = some j →
      ∃ t, exec (.join ticks f) s = .next t ∧ others t ∧
        t.peer f.source = some
          { number := f.source, role := j.role, stage := if j.role = .power then some j.stage else none
            toolOffset := some j.toolOffset, joinOffset := some j.toolOffset, state := .joining, cycle := 0, recipe := 0
            live := true, awaitsBeacon := false, lastFrame := u.clock.time, lastBeacon := none
            summary := ⟨false, false, false⟩, data := none, stale := some (s.settings.stalenessLimit * 20000) } ∧
        t.tracker = u.tracker ∧ t.store = s.store ∧
        (conflicts s f.source j.role j.stage = true → s.isMasked .roleConflict = false →
          t.isLatched .roleConflict = true) ∧
        (conflicts s f.source j.role j.stage = false →
          t.cycle = u.cycle ∧ t.fault = s.fault ∧ t.power = s.power ∧ t.quench = u.quench ∧
          (inRoster → held t ∧ (s.role = some .travel → t.travel.target = travelTarget t)) ∧
          (¬ inRoster → t.travel = u.travel))) ∧
    (∀ b, Arrives .beacon f s → beaconOf f.words = some b →
      let clash := conflicts s f.source b.role b.stage = true
      let aborts := b.state = .aborted ∧ b.cycle = s.cycle.number ∧ s.inCycle = true
      let short := inRoster ∧ b.role = .travel ∧ b.state = .done ∧ b.cycle = s.cycle.number ∧ s.cycle.state = .scanning
      ∃ t, exec (.beacon ticks f) s = .next t ∧ others t ∧
        t.peer f.source = some
          { number := f.source, role := b.role, stage := if b.role = .power then some b.stage else none
            toolOffset := if b.role = .power then some b.toolOffset else (s.peer f.source).bind (·.joinOffset)
            joinOffset := (s.peer f.source).bind (·.joinOffset), state := b.state, cycle := b.cycle, recipe := b.recipe
            live := true, awaitsBeacon := false, lastFrame := u.clock.time, lastBeacon := some u.clock.time
            summary := b.summary, data := b.data, stale := some (s.settings.stalenessLimit * 20000) } ∧
        (b.role = .travel → s.role ≠ some .travel → (s.tracker.tracked = none ∨ s.tracker.tracked = some f.source) →
          t.tracker = { u.tracker with
            tracked := some f.source, coastExpired := false, coastTimer := some (s.settings.coastLimit * 20000)
            last := some { position := min 300000 b.position, speed := min 5000 b.speed, time := u.clock.time } }) ∧
        ((b.role ≠ .travel ∨ s.role = some .travel ∨ ∃ n, s.tracker.tracked = some n ∧ n ≠ f.source) →
          t.tracker = u.tracker) ∧
        (clash → s.isMasked .roleConflict = false → t.isLatched .roleConflict = true) ∧
        (¬ clash → ¬ inRoster →
          t.cycle = u.cycle ∧ t.fault = s.fault ∧ t.power = s.power ∧ t.travel = u.travel ∧ t.quench = u.quench) ∧
        (¬ clash → inRoster → s.role = some .travel → t.travel.target = travelTarget t) ∧
        (¬ clash → inRoster → aborts → t.cycle.state = .aborted ∧ t.fault.cause = some (.abortFrom f.source) ∧
          (s.role = some .travel → t.travel.spindleHold = !t.spindleReleased)) ∧
        (¬ clash → inRoster → ¬ aborts → held t) ∧
        (¬ clash → inRoster → ¬ aborts → s.cycle.state = .starting →
          (BarrierMet t s.cycle.number s.cycle.roster →
            t.cycle.state = .scanning ∧ t.cycle.startTimer = none ∧ t.cycle.scanTenths = 0) ∧
          (¬ BarrierMet t s.cycle.number s.cycle.roster → t.cycle = u.cycle)) ∧
        (¬ clash → short → s.role = some .power → s.sched.reportOccupancy < Config.reportCapacity →
          let open_ := match s.power.inbox.getLast? with | some c => c.current.slice | none => s.power.current
          let left := if s.power.inbox = [] then s.power.acc else 0
          let closed := recordShares s.power.acc s.power.inbox ++ open_.toList.map fun i => (i, left)
          s.sched.sliceOccupancy + closed.length ≤ 8 →
          t.cycle = { u.cycle with state := .done, endKind := some .shortTravel } ∧
          t.sched.sliceQ = s.sched.sliceQ ++ chainFrames s s.power.link closed ∧
          t.sched.reportQ = s.sched.reportQ ++ [cycleSummaryFrame t] ∧ t.power.inbox = [] ∧ t.power.current = none ∧
          t.power.command = 0 ∧ t.power.setpoint = some 0 ∧ t.fault = s.fault) ∧
        (¬ clash → short → s.role = some .quench → s.quench.runout = true → t.quench = u.quench ∧ t.cycle = u.cycle) ∧
        (¬ clash → short → s.role = some .quench → s.quench.runout = false →
          (s.quench.entries = [] → s.quench.soak = none → s.sched.reportOccupancy < Config.reportCapacity →
            t.cycle = { u.cycle with state := .done, endKind := some .shortTravel } ∧
            t.quench.spray = false ∧ t.quench.openTime = none ∧ t.quench.pulse = s.quench.pulse ∧
            t.quench.pulseTimer = u.quench.pulseTimer ∧
            t.sched.reportQ = s.sched.reportQ ++ [cycleSummaryFrame t] ∧ t.fault = s.fault) ∧
          (s.quench.entries = [] → s.quench.soak ≠ none →
            t.quench = { u.quench with runout := true } ∧ t.cycle = u.cycle ∧ t.sched = u.sched ∧ t.fault = s.fault) ∧
          (s.quench.entries ≠ [] → s.isFatal .sliceReject = false → s.isFatal .txOverflow = false →
            t.cycle = u.cycle ∧ t.quench.runout = true ∧ t.quench.entries = [] ∧
            t.quench.judged = s.quench.entries.getLast?.map (·.slice) ∧
            t.quench.nJudged = s.quench.nJudged + s.quench.entries.length ∧
            t.quench.nRejected = s.quench.nRejected + s.quench.entries.length ∧ t.quench.nGood = s.quench.nGood ∧
            t.quench.soak = some (s.settings.soakTime * 20000))))

/-- STALENESS_TIMER_EXPIRY (file 07, section 7.3): the entry is LOST with its fields kept, the tracked TRAVEL peer's loss
zeroes the power command, and a roster peer's loss in STARTING or SCANNING reports PEER_LOST; the loss holds the start barrier
open (file 03, section 3.5), and releases the spindle hold once no roster QUENCH peer holds it (file 05, section 5.7). For a
LOST entry, for none or with the timer still running the expiry does nothing but let time pass (log entry 5). -/
def Obligations.StalenessExpiry : Prop :=
  ∀ (ticks : Nat) (n : StationNo) (s : State),
    let u := advance ticks s
    (∀ p, u.peer n = some p → p.live = true → p.stale = some 0 →
      ∃ t, exec (.stalenessTimerExpiry ticks n) s = .next t ∧ t.peer n = some { p with live := false, stale := none } ∧
        (∀ m, m ≠ n → t.peer m = u.peer m) ∧
        (s.tracker.tracked = some n → s.role = some .power → s.cycle.state ≠ .offline →
          t.power.command = 0 ∧ t.power.setpoint = some 0) ∧
        ((s.cycle.state = .starting ∨ s.cycle.state = .scanning) → s.inRoster n = true →
          s.isMasked .peerLost = false → t.isLatched .peerLost = true) ∧
        (s.role = some .travel → s.cycle.state = .scanning → s.inRoster n = true → t.travel.target = 0) ∧
        (s.inRoster n = true → t.cycle.state = s.cycle.state →
          t.travel.spindleHold = (s.travel.spindleHold && !t.spindleReleased)) ∧
        (s.inRoster n = true → s.role = some .travel → s.cycle.state ≠ .aborted → t.cycle.state = .aborted →
          t.travel.spindleHold = !t.spindleReleased) ∧
        (s.inRoster n = true → s.cycle.state = .starting → PeersSafe s → t.cycle.state ≠ .scanning) ∧
        (s.inRoster n = false → t.cycle = u.cycle ∧ t.travel = u.travel ∧ t.fault = s.fault) ∧
        ((s.cycle.state ≠ .starting ∧ s.cycle.state ≠ .scanning) → t.fault = s.fault ∧ t.cycle = u.cycle) ∧
        t.tracker = u.tracker ∧ t.store = s.store) ∧
    ((∀ p, u.peer n = some p → p.live = false ∨ p.stale ≠ some 0) →
      exec (.stalenessTimerExpiry ticks n) s = .next u)

/-! ## The scan line -/

/-- Receptions no block acts on (file 08, sections 8.5 and 8.6): a good frame not accepted only keeps its sender's entry
LIVE, one that it returns in STARTING still holding the start barrier open (file 07, section 7.3; log entry 47); a discarded
one counts, FRAME_ERRORS being reported as the count reaches 16; a duplicate JOIN after joining marks the station, any other
duplicate takes it to SILENT; a start bit on an idle line makes it busy, and on a line that is not idle it does nothing but let
time pass (log entry 5). Nothing is taken where no reception is under way on a line that is not idle: of its own frame, sent
whole or abandoned, and of a frame that began before a good load, until the line is idle (log entry 27). -/
def Obligations.ReceptionsWithoutABlock : Prop :=
  ∀ (ticks : Nat) (s : State),
    let u := s.heard ticks
    let idle : Host.Outcome State Fault Refusal := .next (advance ticks s)
    (s.line.hears = false → ∀ (k : Kind) (c : RxCheck) (f : Rx),
      exec (.frameNotAccepted ticks k f) s = idle ∧ exec (.discardedFrame ticks c) s = idle ∧
      exec (.duplicateFrame ticks k) s = idle ∧
      ∀ i ∈ [Instr.abort ticks f, .arm ticks f, .cycleStart ticks f, .cycleEnd ticks f, .clear ticks f,
        .stationReset ticks f, .recipeHeader ticks f, .segment ticks f, .commit ticks f, .position ticks f,
        .faultQuery ticks f, .beacon ticks f, .join ticks f, .sliceNotice ticks f], exec i s = idle) ∧
    (s.line.hears = true → ∀ (k : Kind) (f : Rx), rxGood k f = true → s.ownNumber ≠ some f.source →
      (s.cycle.state = .offline ∨ f.source = 0 ∨ s.peer f.source = none →
        exec (.frameNotAccepted ticks k f) s = .next u) ∧
      (∀ p, s.cycle.state ≠ .offline → f.source ≠ 0 → f.source ≠ 15 → u.peer f.source = some p →
        ∃ t, exec (.frameNotAccepted ticks k f) s = .next t ∧
          t.peer f.source = some { p with
            live := true, lastFrame := u.clock.time, stale := some (s.settings.stalenessLimit * 20000)
            awaitsBeacon := p.awaitsBeacon || (!p.live && s.cycle.state == .starting) } ∧
          (∀ m, m ≠ f.source → t.peer m = u.peer m) ∧ t.fault = s.fault ∧ t.quench = u.quench ∧
          (p.live = false → s.cycle.state = .starting → s.inRoster f.source = true → PeersSafe s → t.cycle = u.cycle) ∧
          (p.live = true → t = u.setPeers t.peers))) ∧
    (s.line.hears = true → ∀ c : RxCheck,
      (s.cycle.state = .offline → exec (.discardedFrame ticks c) s = .next u) ∧
      (s.cycle.state ≠ .offline → ∃ t, exec (.discardedFrame ticks c) s = .next t ∧
        t.line.rxErr = min 255 (s.line.rxErr + 1) ∧
        (s.line.rxErr = 15 → s.isMasked .frameErrors = false → t.isLatched .frameErrors = true) ∧
        (s.line.rxErr ≠ 15 → t = u.setLine { u.line with rxErr := min 255 (s.line.rxErr + 1) }))) ∧
    (s.line.hears = true → ∀ k : Kind,
      ((s.cycle.state = .offline ∨ s.cycle.state = .silent) → exec (.duplicateFrame ticks k) s = .next u) ∧
      (k = .join → (s.cycle.state = .idle ∨ s.cycle.state = .armed ∨ s.inCycle = true ∨ s.cycle.state = .aborted) →
        ∃ t, exec (.duplicateFrame ticks k) s = .next t ∧ t.line.dupSeen = true ∧ t.fault.latches &&& ~~~0x4000#16 =
          s.fault.latches &&& ~~~0x4000#16 ∧ (s.line.dupSeen = true → t = u) ∧
          (s.line.dupSeen = false → ReportWaits s → t = (u.setLine { u.line with dupSeen := true }).setSched
            { u.sched with reportQ := s.sched.reportQ ++ [faultNoticeFrame u .duplicateStation none true] })) ∧
      (s.onLine = true → (k ≠ .join ∨ s.cycle.state = .joining) → s.isMasked .duplicateStation = false →
        s.isLatched .duplicateStation = false → s.isFatal .duplicateStation = true →
        ∃ t, exec (.duplicateFrame ticks k) s = .next t ∧ t.cycle.state = .silent ∧
          t.isLatched .duplicateStation = true ∧ t.sched.beaconQ = none ∧ t.sched.offered = none)) ∧
    (s.line.idle = true → exec (.receptionStart ticks) s =
      .next ((advance ticks s).setLine { s.line with idle := false, rx := .receiving })) ∧
    (s.line.idle = false → exec (.receptionStart ticks) s = .next (advance ticks s))

/-- LINE_IDLE, SENT_WHOLE, LOST_CONTENTION and ABANDONED (file 08, section 8.4; file 09, sections 9.3 to 9.5): the ABORT queue
is offered first, then the head frame of the first class queue that the phase table names from the pointer on, JOINING passing
over SLICE and REPORT, the pointer going on behind the chosen entry; a kept offer is driven again; sent whole the offer is gone
and the error count falls, a BEACON's drop latches still marked carried being cleared (file 11, section 11.7), whichever beacon's
build set the mark (log entry 58); abandoned, it is gone and the count rises, LINE_OFF at 32. Lost, it stays, a newer BEACON or
JOIN that waits taking its place and a refresh of the attempt being made now (log entry 35), a JOIN that outlived the join window
leaving it; an ABORT that waits takes the offer and the frame goes back to the head of its queue, the pointer to its entry.
With no attempt under way the outcomes do nothing (log entry 5). -/
def Obligations.AttemptsAndOutcomes : Prop :=
  ∀ (ticks : Nat) (s : State),
    let u := advance ticks s
    let drives := fun f : Frame => { s.line with idle := false, rx := .ownFrame, attempt := some f }
    let entry := fun j : Nat => s.settings.phaseTable.getD ((s.sched.phasePtr + j) % 16) .beacon
    let ready := fun c : PhaseClass =>
      match c with
      | .beacon => s.sched.beaconQ ≠ none
      | .slice => s.cycle.state ≠ .joining ∧ s.sched.sliceQ ≠ []
      | .report => s.cycle.state ≠ .joining ∧ s.sched.reportQ ≠ []
    let lost := { s.line with attempt := none, rx := .receiving }
    (s.line.attempt = none → s.onLine = true →
      (∀ o, s.sched.offered = some o → exec (.lineIdle ticks) s = .next (u.setLine (drives o.frame))) ∧
      (∀ f, s.sched.offered = none → s.sched.abortQ = some f → exec (.lineIdle ticks) s = .next
        ((u.setSched { u.sched with abortQ := none, offered := some ⟨f, s.sched.phasePtr⟩ }).setLine (drives f))) ∧
      (s.sched.offered = none → s.sched.abortQ = none → (∀ j, j < 16 → ¬ ready (entry j)) →
        exec (.lineIdle ticks) s = .next (u.setLine { s.line with idle := true, rx := .waiting })) ∧
      (∀ j, s.sched.offered = none → s.sched.abortQ = none → j < 16 → ready (entry j) → (∀ i, i < j → ¬ ready (entry i)) →
        let at_ := (s.sched.phasePtr + j) % 16
        let next := { u.sched with phasePtr := (at_ + 1) % 16 }
        (∀ f, entry j = .beacon → s.sched.beaconQ = some f → exec (.lineIdle ticks) s = .next
          ((u.setSched { next with beaconQ := none, offered := some ⟨f, at_⟩ }).setLine (drives f))) ∧
        (∀ f rest, entry j = .slice → s.sched.sliceQ = f :: rest → exec (.lineIdle ticks) s = .next
          ((u.setSched { next with sliceQ := rest, offered := some ⟨f, at_⟩ }).setLine (drives f))) ∧
        (∀ f rest, entry j = .report → s.sched.reportQ = f :: rest → exec (.lineIdle ticks) s = .next
          ((u.setSched { next with reportQ := rest, offered := some ⟨f, at_⟩ }).setLine (drives f))))) ∧
    (∀ f, s.line.attempt = some f →
      let gone := u.setSched { u.sched with offered := none, refreshDue := false }
      (f.kind ≠ .beacon → exec (.sentWhole ticks) s = .next (gone.setLine
        { s.line with attempt := none, txErr := s.line.txErr - 1 })) ∧
      (f.kind = .beacon →
        let done := BitVec.ofNat 8 (bitsOf (f.words.getD 4 0) 15 8) &&& s.interlock.carried
        exec (.sentWhole ticks) s = .next ((gone.setLine
          { s.line with attempt := none, txErr := s.line.txErr - 1 }).setInterlock { s.interlock with
            drop := s.interlock.drop &&& ~~~done, carried := s.interlock.carried &&& ~~~done })) ∧
      (∀ o, s.sched.offered = some o →
        let kept := { u.sched with refreshDue := false }
        (s.sched.abortQ = none → classOf o.frame.kind ≠ .beacon →
          exec (.lostContention ticks) s = .next ((u.setSched kept).setLine lost)) ∧
        (∀ a, s.sched.abortQ = some a → classOf o.frame.kind = .slice →
          exec (.lostContention ticks) s = .next ((u.setSched { kept with
            abortQ := none, sliceQ := o.frame :: s.sched.sliceQ, phasePtr := o.entry, offered := some ⟨a, o.entry⟩ }).setLine
            lost)) ∧
        (∀ a, s.sched.abortQ = some a → classOf o.frame.kind = .report →
          exec (.lostContention ticks) s = .next ((u.setSched { kept with
            abortQ := none, reportQ := o.frame :: s.sched.reportQ, phasePtr := o.entry
            offered := some ⟨a, o.entry⟩ }).setLine lost)) ∧
        (∀ a, s.sched.abortQ = some a → classOf o.frame.kind = .abort →
          exec (.lostContention ticks) s = .next ((u.setSched { kept with
            abortQ := none, offered := some ⟨a, s.sched.phasePtr⟩ }).setLine lost)) ∧
        (o.frame.kind = .join → s.cycle.state ≠ .joining →
          exec (.lostContention ticks) s = .next ((u.setSched { kept with offered := none }).setLine lost)) ∧
        (classOf o.frame.kind = .beacon → (o.frame.kind = .join → s.cycle.state = .joining) →
          let due := s.sched.beaconQ = none ∧ s.sched.refreshDue = true ∧ o.frame.kind = .beacon
          let frame := match s.sched.beaconQ with
            | some f => f
            | none => if due then beaconFrame u else o.frame
          let marked := u.setInterlock (if due then { s.interlock with carried := s.interlock.drop } else s.interlock)
          (s.sched.abortQ = none → exec (.lostContention ticks) s = .next
            ((marked.setSched { kept with beaconQ := none, offered := some ⟨frame, o.entry⟩ }).setLine lost)) ∧
          (∀ a, s.sched.abortQ = some a → classOf frame.kind = .beacon → exec (.lostContention ticks) s = .next
            ((marked.setSched { kept with
              abortQ := none, beaconQ := some frame, phasePtr := o.entry, offered := some ⟨a, o.entry⟩ }).setLine lost)))) ∧
      (s.line.txErr < 31 → exec (.abandoned ticks) s = .next (gone.setLine
        { s.line with attempt := none, txErr := s.line.txErr + 1 })) ∧
      (s.line.txErr = 31 → s.onLine = true → s.latchable .lineOff = true → s.isFatal .lineOff = true →
        ∃ t, exec (.abandoned ticks) s = .next t ∧ t.cycle.state = .silent ∧ t.line.txErr = 32 ∧
          t.isLatched .lineOff = true ∧ t.sched.offered = none ∧ t.line.attempt = none)) ∧
    (s.line.attempt = none → exec (.sentWhole ticks) s = .next u ∧ exec (.lostContention ticks) s = .next u ∧
      exec (.abandoned ticks) s = .next u)

/-- BEACON_TIMER_EXPIRY, JOIN_TIMER_EXPIRY and JOIN_WINDOW_END (file 09, sections 9.5 and 9.6; file 10, section 10.4): a
beacon is built from the values held, its drop latches marked carried, and takes the place of the one before; a JOIN
likewise; at the window's end the station is IDLE, or ABORTED with a fatal kind latched, the lowest-numbered one being the cause
(file 11, section 11.4), and its beacons begin. A BEACON and a JOIN carry their fields where file 08, section 8.3 has them, as
their receivers read them; a beacon before any command carries result code 0 beside kind code 0 (log entry 22). On an idle line
the scheduler chooses and the attempt begins at once, as LINE_IDLE does with the frame in its place (log entry 8). A JOIN due at
the window's end is not made (log entry 29); a timer that has not run out does nothing but let time pass (log entry 5). -/
def Obligations.BeaconsAndJoins : Prop :=
  (∀ (s : State) (r : Role), s.role = some r →
    let f := beaconFrame s
    let w := fun i : Nat => f.words.getD i 0
    let g := s.store.staging
    let position := fun x : Nat => bitsOf (w 5) 2 0 = x / 65536 % 8 ∧ (w 6).toNat = x % 65536
    let offset := fun z : Int => -2147483648 ≤ z ∧ z < 2147483648
    (f.kind = .beacon ∧ f.source = s.loader.number ∧ f.destination = 15 ∧
      bitsOf (w 0) 15 14 = roleCode r ∧ bitsOf (w 0) 13 10 = stateCode s.cycle.state ∧
      bitsOf (w 0) 7 0 = s.cycle.number % 256 ∧
      (w 1).toNat = (match s.store.active with | some a => a.header.recipe % 65536 | none => 0) ∧
      bitsOf (w 2) 15 14 = stagingCode g.state ∧
      bitsOf (w 2) 13 8 = (match g.check.bind (·.index) with | some i => i % 64 | none => 63) ∧
      bitsOf (w 2) 6 4 = (match g.check with | some c => commitCheckCode c.check | none => 0) ∧
      bitsOf (w 2) 2 2 = (g.clamps.any (·.pulse)).toNat ∧ bitsOf (w 2) 1 1 = (g.clamps.any (·.blend)).toNat ∧
      bitsOf (w 2) 0 0 = (g.clamps.any (·.speed)).toNat ∧
      bitsOf (w 3) 13 8 = (match s.cycle.last with | some x => kindCode x.1 | none => 0) ∧
      bitsOf (w 3) 3 0 = (match s.cycle.last with | some x => resultCode x.2 | none => 0) ∧
      bitsOf (w 3) 6 6 = s.summary.fatal.toNat ∧ bitsOf (w 3) 5 5 = s.summary.nonFatal.toNat ∧
      bitsOf (w 3) 4 4 = s.summary.hold.toNat ∧
      bitsOf (w 4) 15 8 = s.interlock.drop.toNat ∧ bitsOf (w 4) 7 0 = s.line.rxErr % 256 ∧
      (r = .travel → f.words.length = 8 ∧ bitsOf (w 0) 8 8 = s.travel.atSpeed.toNat ∧ position s.tracker.estimate ∧
        (w 7).toNat = s.tracker.measured % 65536) ∧
      (r = .power → f.words.length = 11 ∧ bitsOf (w 0) 8 8 = s.power.clamped.toNat ∧ position s.tracker.tool ∧
        bitsOf (w 5) 5 4 = s.settings.stage % 4 ∧ (w 9).toNat = s.power.command % 65536 ∧
        (w 10).toNat = s.power.ceiling % 65536) ∧
      (r = .quench → f.words.length = 12 ∧ bitsOf (w 0) 8 8 = s.quench.flood.toNat ∧
        bitsOf (w 0) 9 9 = (if s.quench.ceiling = 0 then 1 else 0) ∧ position s.tracker.tool ∧
        bitsOf (w 5) 15 10 = s.quench.nFlushed % 64 ∧ bitsOf (w 5) 9 4 = s.quench.entries.length % 64 ∧
        (w 7).toNat = s.quench.nCreated % 65536 ∧ (w 8).toNat = s.quench.nJudged % 65536 ∧
        (w 9).toNat = s.quench.nGood % 65536 ∧ (w 10).toNat = s.quench.nRejected % 65536 ∧
        (w 11).toNat = s.quench.nLate % 65536)) ∧
    ((s.cycle.state = .idle ∨ s.cycle.state = .armed ∨ s.inCycle = true ∨ s.cycle.state = .aborted) →
      ∃ b, beaconOf f.words = some b ∧ b.role = r ∧ b.state = s.cycle.state ∧ b.cycle = s.cycle.number % 256 ∧
        b.summary = s.summary ∧
        (r = .travel → b.data = none ∧ b.position = s.tracker.estimate % 524288 ∧ b.speed = s.tracker.measured % 65536) ∧
        (r = .power → b.data = some (.power (s.power.ceiling % 65536)) ∧ b.stage = s.settings.stage % 4 ∧
          (offset s.settings.toolOffset → b.toolOffset = s.settings.toolOffset)) ∧
        (r = .quench → b.data = some (.quench (if s.quench.ceiling = 0 then 0 else 65535) s.quench.flood))) ∧
    (joinFrame s).kind = .join ∧ (joinFrame s).source = s.loader.number ∧ (joinFrame s).destination = 15 ∧
    (joinFrame s).words.length = 3 ∧
    (offset s.settings.toolOffset → joinOf (joinFrame s).words = some
      { role := r, stage := if r = .power then s.settings.stage % 4 else 0, toolOffset := s.settings.toolOffset })) ∧
  ∀ (ticks : Nat) (s : State),
    let u := advance ticks s
    let period := some (s.settings.beaconPeriod * 100 * 20)
    let begins := fun (i : Instr) (placed : State) =>
      (s.mayBegin = false → exec i s = .next placed) ∧
      (s.mayBegin = true → s.line.rx = .waiting → exec i s = exec (.lineIdle 0) placed)
    (u.sched.beaconTimer = some 0 → s.onLine = true →
      let marked := u.setInterlock { s.interlock with carried := s.interlock.drop }
      ((s.sched.offers .beacon = false ∨ s.line.attempt ≠ none) → begins (.beaconTimerExpiry ticks)
        (marked.setSched { u.sched with beaconTimer := period, beaconQ := some (beaconFrame u) })) ∧
      (∀ o, s.sched.offered = some o → classOf o.frame.kind = .beacon → s.line.attempt = none →
        begins (.beaconTimerExpiry ticks)
          (marked.setSched { u.sched with beaconTimer := period, offered := some { o with frame := beaconFrame u } }))) ∧
    (u.sched.beaconTimer ≠ some 0 → exec (.beaconTimerExpiry ticks) s = .next u) ∧
    (s.cycle.state = .joining → u.sched.joinTimer = some 0 → u.cycle.joinWindow ≠ some 0 →
      ((s.sched.offers .beacon = false ∨ s.line.attempt ≠ none) → begins (.joinTimerExpiry ticks)
        (u.setSched { u.sched with joinTimer := period, beaconQ := some (joinFrame u) })) ∧
      (∀ o, s.sched.offered = some o → classOf o.frame.kind = .beacon → s.line.attempt = none →
        begins (.joinTimerExpiry ticks)
          (u.setSched { u.sched with joinTimer := period, offered := some { o with frame := joinFrame u } }))) ∧
    ((s.cycle.state ≠ .joining ∨ u.sched.joinTimer ≠ some 0 ∨ u.cycle.joinWindow = some 0) →
      exec (.joinTimerExpiry ticks) s = .next u) ∧
    (s.cycle.state = .joining → u.cycle.joinWindow = some 0 →
      ∃ t, exec (.joinWindowEnd ticks) s = .next t ∧ t.cycle.joinWindow = none ∧
        ((∃ k, s.isLatched k = true ∧ s.isFatal k = true) → t.cycle.state = .aborted ∧ t.quench.flood = s.quench.flood ∧
          ∃ k, t.fault.cause = some (.fault k) ∧ s.isLatched k = true ∧ s.isFatal k = true ∧
            ∀ k', s.isLatched k' = true → s.isFatal k' = true → faultCode k ≤ faultCode k') ∧
        ((∀ k, s.isLatched k = true → s.isFatal k = false) → t.cycle.state = .idle ∧ t.fault = s.fault) ∧
        t.sched.beaconTimer = some (s.loader.number.toNat * (s.settings.beaconPeriod * 100) / 16 * 20) ∧
        t.sched.joinTimer = none ∧ (∀ f ∈ t.sched.beaconQ, f.kind ≠ .join) ∧
        (QueuesSafe s → s.line.attempt = none → ∀ o ∈ t.sched.offered, o.frame.kind ≠ .join)) ∧
    ((s.cycle.state ≠ .joining ∨ u.cycle.joinWindow ≠ some 0) → exec (.joinWindowEnd ticks) s = .next u)

/-- A frame of a kind's form and size, sent bit by bit with its CRC and sync bits, is received as itself by every station,
reads back as sent whole at its sender, and occupies the line for the bit times of the table. The CRC register starts at all ones
and takes each content bit by the polynomial x^16 + x^12 + x^5 + 1, and a frame with one bit changed, the length field's apart, is
discarded (file 08, sections 8.1 and 8.5). -/
def Obligations.FrameCrossesTheLine : Prop :=
  crc16 [] = 0xFFFF#16 ∧
  (∀ (bits : List Bool) (b : Bool) (i : Nat), i < 16 →
    let reg := crc16 bits
    let feedback := reg.getLsbD 15 != b
    (crc16 (bits ++ [b])).getLsbD i =
      ((decide (0 < i) && reg.getLsbD (i - 1)) != (decide (i = 0 ∨ i = 5 ∨ i = 12) && feedback))) ∧
  (∀ (f : Frame) (i : Nat), formOk f.kind f.source f.words = true → sizeOk f.kind f.words = true →
    i < (wireBits f).length → (i < 21 ∨ 24 < i) →
    ∃ c, receiveBits ((wireBits f).modify i (!·)) = .discarded c) ∧
  ∀ f : Frame, formOk f.kind f.source f.words = true → sizeOk f.kind f.words = true →
    receiveBits (wireBits f) = .good f ∧ attemptOutcome f (wireBits f) = .sentWhole ∧
    (wireBits f).length + 12 = bitTimes f.words.length ∧
    (wireBits f).length = 1 + (38 + 16 * f.words.length) + (38 + 16 * f.words.length) / 8

end Statements
end

