-- ==== Sys2Proof/Laws/State.lean ====
section
/-! SUPPORT. One lemma for each field after each block update. -/

namespace Sys2Proof.Machine.State

@[simp] theorem setClock_clock (v : Clock) (s : State) : (s.setClock v).clock = v := rfl
@[simp] theorem setClock_pins (v : Clock) (s : State) : (s.setClock v).pins = s.pins := rfl
@[simp] theorem setClock_loader (v : Clock) (s : State) : (s.setClock v).loader = s.loader := rfl
@[simp] theorem setClock_settings (v : Clock) (s : State) : (s.setClock v).settings = s.settings := rfl
@[simp] theorem setClock_cycle (v : Clock) (s : State) : (s.setClock v).cycle = s.cycle := rfl
@[simp] theorem setClock_tracker (v : Clock) (s : State) : (s.setClock v).tracker = s.tracker := rfl
@[simp] theorem setClock_store (v : Clock) (s : State) : (s.setClock v).store = s.store := rfl
@[simp] theorem setClock_power (v : Clock) (s : State) : (s.setClock v).power = s.power := rfl
@[simp] theorem setClock_travel (v : Clock) (s : State) : (s.setClock v).travel = s.travel := rfl
@[simp] theorem setClock_quench (v : Clock) (s : State) : (s.setClock v).quench = s.quench := rfl
@[simp] theorem setClock_peers (v : Clock) (s : State) : (s.setClock v).peers = s.peers := rfl
@[simp] theorem setClock_sched (v : Clock) (s : State) : (s.setClock v).sched = s.sched := rfl
@[simp] theorem setClock_line (v : Clock) (s : State) : (s.setClock v).line = s.line := rfl
@[simp] theorem setClock_fault (v : Clock) (s : State) : (s.setClock v).fault = s.fault := rfl
@[simp] theorem setClock_interlock (v : Clock) (s : State) : (s.setClock v).interlock = s.interlock := rfl
@[simp] theorem setClock_freeDraws (v : Clock) (s : State) : (s.setClock v).freeDraws = s.freeDraws := rfl
@[simp] theorem setClock_pending (v : Clock) (s : State) : (s.setClock v).pending = s.pending := rfl

@[simp] theorem setPins_clock (v : Pins) (s : State) : (s.setPins v).clock = s.clock := rfl
@[simp] theorem setPins_pins (v : Pins) (s : State) : (s.setPins v).pins = v := rfl
@[simp] theorem setPins_loader (v : Pins) (s : State) : (s.setPins v).loader = s.loader := rfl
@[simp] theorem setPins_settings (v : Pins) (s : State) : (s.setPins v).settings = s.settings := rfl
@[simp] theorem setPins_cycle (v : Pins) (s : State) : (s.setPins v).cycle = s.cycle := rfl
@[simp] theorem setPins_tracker (v : Pins) (s : State) : (s.setPins v).tracker = s.tracker := rfl
@[simp] theorem setPins_store (v : Pins) (s : State) : (s.setPins v).store = s.store := rfl
@[simp] theorem setPins_power (v : Pins) (s : State) : (s.setPins v).power = s.power := rfl
@[simp] theorem setPins_travel (v : Pins) (s : State) : (s.setPins v).travel = s.travel := rfl
@[simp] theorem setPins_quench (v : Pins) (s : State) : (s.setPins v).quench = s.quench := rfl
@[simp] theorem setPins_peers (v : Pins) (s : State) : (s.setPins v).peers = s.peers := rfl
@[simp] theorem setPins_sched (v : Pins) (s : State) : (s.setPins v).sched = s.sched := rfl
@[simp] theorem setPins_line (v : Pins) (s : State) : (s.setPins v).line = s.line := rfl
@[simp] theorem setPins_fault (v : Pins) (s : State) : (s.setPins v).fault = s.fault := rfl
@[simp] theorem setPins_interlock (v : Pins) (s : State) : (s.setPins v).interlock = s.interlock := rfl
@[simp] theorem setPins_freeDraws (v : Pins) (s : State) : (s.setPins v).freeDraws = s.freeDraws := rfl
@[simp] theorem setPins_pending (v : Pins) (s : State) : (s.setPins v).pending = s.pending := rfl

@[simp] theorem setLoader_clock (v : Loader) (s : State) : (s.setLoader v).clock = s.clock := rfl
@[simp] theorem setLoader_pins (v : Loader) (s : State) : (s.setLoader v).pins = s.pins := rfl
@[simp] theorem setLoader_loader (v : Loader) (s : State) : (s.setLoader v).loader = v := rfl
@[simp] theorem setLoader_settings (v : Loader) (s : State) : (s.setLoader v).settings = s.settings := rfl
@[simp] theorem setLoader_cycle (v : Loader) (s : State) : (s.setLoader v).cycle = s.cycle := rfl
@[simp] theorem setLoader_tracker (v : Loader) (s : State) : (s.setLoader v).tracker = s.tracker := rfl
@[simp] theorem setLoader_store (v : Loader) (s : State) : (s.setLoader v).store = s.store := rfl
@[simp] theorem setLoader_power (v : Loader) (s : State) : (s.setLoader v).power = s.power := rfl
@[simp] theorem setLoader_travel (v : Loader) (s : State) : (s.setLoader v).travel = s.travel := rfl
@[simp] theorem setLoader_quench (v : Loader) (s : State) : (s.setLoader v).quench = s.quench := rfl
@[simp] theorem setLoader_peers (v : Loader) (s : State) : (s.setLoader v).peers = s.peers := rfl
@[simp] theorem setLoader_sched (v : Loader) (s : State) : (s.setLoader v).sched = s.sched := rfl
@[simp] theorem setLoader_line (v : Loader) (s : State) : (s.setLoader v).line = s.line := rfl
@[simp] theorem setLoader_fault (v : Loader) (s : State) : (s.setLoader v).fault = s.fault := rfl
@[simp] theorem setLoader_interlock (v : Loader) (s : State) : (s.setLoader v).interlock = s.interlock := rfl
@[simp] theorem setLoader_freeDraws (v : Loader) (s : State) : (s.setLoader v).freeDraws = s.freeDraws := rfl
@[simp] theorem setLoader_pending (v : Loader) (s : State) : (s.setLoader v).pending = s.pending := rfl

@[simp] theorem setSettings_clock (v : Settings) (s : State) : (s.setSettings v).clock = s.clock := rfl
@[simp] theorem setSettings_pins (v : Settings) (s : State) : (s.setSettings v).pins = s.pins := rfl
@[simp] theorem setSettings_loader (v : Settings) (s : State) : (s.setSettings v).loader = s.loader := rfl
@[simp] theorem setSettings_settings (v : Settings) (s : State) : (s.setSettings v).settings = v := rfl
@[simp] theorem setSettings_cycle (v : Settings) (s : State) : (s.setSettings v).cycle = s.cycle := rfl
@[simp] theorem setSettings_tracker (v : Settings) (s : State) : (s.setSettings v).tracker = s.tracker := rfl
@[simp] theorem setSettings_store (v : Settings) (s : State) : (s.setSettings v).store = s.store := rfl
@[simp] theorem setSettings_power (v : Settings) (s : State) : (s.setSettings v).power = s.power := rfl
@[simp] theorem setSettings_travel (v : Settings) (s : State) : (s.setSettings v).travel = s.travel := rfl
@[simp] theorem setSettings_quench (v : Settings) (s : State) : (s.setSettings v).quench = s.quench := rfl
@[simp] theorem setSettings_peers (v : Settings) (s : State) : (s.setSettings v).peers = s.peers := rfl
@[simp] theorem setSettings_sched (v : Settings) (s : State) : (s.setSettings v).sched = s.sched := rfl
@[simp] theorem setSettings_line (v : Settings) (s : State) : (s.setSettings v).line = s.line := rfl
@[simp] theorem setSettings_fault (v : Settings) (s : State) : (s.setSettings v).fault = s.fault := rfl
@[simp] theorem setSettings_interlock (v : Settings) (s : State) : (s.setSettings v).interlock = s.interlock := rfl
@[simp] theorem setSettings_freeDraws (v : Settings) (s : State) : (s.setSettings v).freeDraws = s.freeDraws := rfl
@[simp] theorem setSettings_pending (v : Settings) (s : State) : (s.setSettings v).pending = s.pending := rfl

@[simp] theorem setCycle_clock (v : Cycle) (s : State) : (s.setCycle v).clock = s.clock := rfl
@[simp] theorem setCycle_pins (v : Cycle) (s : State) : (s.setCycle v).pins = s.pins := rfl
@[simp] theorem setCycle_loader (v : Cycle) (s : State) : (s.setCycle v).loader = s.loader := rfl
@[simp] theorem setCycle_settings (v : Cycle) (s : State) : (s.setCycle v).settings = s.settings := rfl
@[simp] theorem setCycle_cycle (v : Cycle) (s : State) : (s.setCycle v).cycle = v := rfl
@[simp] theorem setCycle_tracker (v : Cycle) (s : State) : (s.setCycle v).tracker = s.tracker := rfl
@[simp] theorem setCycle_store (v : Cycle) (s : State) : (s.setCycle v).store = s.store := rfl
@[simp] theorem setCycle_power (v : Cycle) (s : State) : (s.setCycle v).power = s.power := rfl
@[simp] theorem setCycle_travel (v : Cycle) (s : State) : (s.setCycle v).travel = s.travel := rfl
@[simp] theorem setCycle_quench (v : Cycle) (s : State) : (s.setCycle v).quench = s.quench := rfl
@[simp] theorem setCycle_peers (v : Cycle) (s : State) : (s.setCycle v).peers = s.peers := rfl
@[simp] theorem setCycle_sched (v : Cycle) (s : State) : (s.setCycle v).sched = s.sched := rfl
@[simp] theorem setCycle_line (v : Cycle) (s : State) : (s.setCycle v).line = s.line := rfl
@[simp] theorem setCycle_fault (v : Cycle) (s : State) : (s.setCycle v).fault = s.fault := rfl
@[simp] theorem setCycle_interlock (v : Cycle) (s : State) : (s.setCycle v).interlock = s.interlock := rfl
@[simp] theorem setCycle_freeDraws (v : Cycle) (s : State) : (s.setCycle v).freeDraws = s.freeDraws := rfl
@[simp] theorem setCycle_pending (v : Cycle) (s : State) : (s.setCycle v).pending = s.pending := rfl

@[simp] theorem setTracker_clock (v : Tracker) (s : State) : (s.setTracker v).clock = s.clock := rfl
@[simp] theorem setTracker_pins (v : Tracker) (s : State) : (s.setTracker v).pins = s.pins := rfl
@[simp] theorem setTracker_loader (v : Tracker) (s : State) : (s.setTracker v).loader = s.loader := rfl
@[simp] theorem setTracker_settings (v : Tracker) (s : State) : (s.setTracker v).settings = s.settings := rfl
@[simp] theorem setTracker_cycle (v : Tracker) (s : State) : (s.setTracker v).cycle = s.cycle := rfl
@[simp] theorem setTracker_tracker (v : Tracker) (s : State) : (s.setTracker v).tracker = v := rfl
@[simp] theorem setTracker_store (v : Tracker) (s : State) : (s.setTracker v).store = s.store := rfl
@[simp] theorem setTracker_power (v : Tracker) (s : State) : (s.setTracker v).power = s.power := rfl
@[simp] theorem setTracker_travel (v : Tracker) (s : State) : (s.setTracker v).travel = s.travel := rfl
@[simp] theorem setTracker_quench (v : Tracker) (s : State) : (s.setTracker v).quench = s.quench := rfl
@[simp] theorem setTracker_peers (v : Tracker) (s : State) : (s.setTracker v).peers = s.peers := rfl
@[simp] theorem setTracker_sched (v : Tracker) (s : State) : (s.setTracker v).sched = s.sched := rfl
@[simp] theorem setTracker_line (v : Tracker) (s : State) : (s.setTracker v).line = s.line := rfl
@[simp] theorem setTracker_fault (v : Tracker) (s : State) : (s.setTracker v).fault = s.fault := rfl
@[simp] theorem setTracker_interlock (v : Tracker) (s : State) : (s.setTracker v).interlock = s.interlock := rfl
@[simp] theorem setTracker_freeDraws (v : Tracker) (s : State) : (s.setTracker v).freeDraws = s.freeDraws := rfl
@[simp] theorem setTracker_pending (v : Tracker) (s : State) : (s.setTracker v).pending = s.pending := rfl

@[simp] theorem setStore_clock (v : Store) (s : State) : (s.setStore v).clock = s.clock := rfl
@[simp] theorem setStore_pins (v : Store) (s : State) : (s.setStore v).pins = s.pins := rfl
@[simp] theorem setStore_loader (v : Store) (s : State) : (s.setStore v).loader = s.loader := rfl
@[simp] theorem setStore_settings (v : Store) (s : State) : (s.setStore v).settings = s.settings := rfl
@[simp] theorem setStore_cycle (v : Store) (s : State) : (s.setStore v).cycle = s.cycle := rfl
@[simp] theorem setStore_tracker (v : Store) (s : State) : (s.setStore v).tracker = s.tracker := rfl
@[simp] theorem setStore_store (v : Store) (s : State) : (s.setStore v).store = v := rfl
@[simp] theorem setStore_power (v : Store) (s : State) : (s.setStore v).power = s.power := rfl
@[simp] theorem setStore_travel (v : Store) (s : State) : (s.setStore v).travel = s.travel := rfl
@[simp] theorem setStore_quench (v : Store) (s : State) : (s.setStore v).quench = s.quench := rfl
@[simp] theorem setStore_peers (v : Store) (s : State) : (s.setStore v).peers = s.peers := rfl
@[simp] theorem setStore_sched (v : Store) (s : State) : (s.setStore v).sched = s.sched := rfl
@[simp] theorem setStore_line (v : Store) (s : State) : (s.setStore v).line = s.line := rfl
@[simp] theorem setStore_fault (v : Store) (s : State) : (s.setStore v).fault = s.fault := rfl
@[simp] theorem setStore_interlock (v : Store) (s : State) : (s.setStore v).interlock = s.interlock := rfl
@[simp] theorem setStore_freeDraws (v : Store) (s : State) : (s.setStore v).freeDraws = s.freeDraws := rfl
@[simp] theorem setStore_pending (v : Store) (s : State) : (s.setStore v).pending = s.pending := rfl

@[simp] theorem setPower_clock (v : Power) (s : State) : (s.setPower v).clock = s.clock := rfl
@[simp] theorem setPower_pins (v : Power) (s : State) : (s.setPower v).pins = s.pins := rfl
@[simp] theorem setPower_loader (v : Power) (s : State) : (s.setPower v).loader = s.loader := rfl
@[simp] theorem setPower_settings (v : Power) (s : State) : (s.setPower v).settings = s.settings := rfl
@[simp] theorem setPower_cycle (v : Power) (s : State) : (s.setPower v).cycle = s.cycle := rfl
@[simp] theorem setPower_tracker (v : Power) (s : State) : (s.setPower v).tracker = s.tracker := rfl
@[simp] theorem setPower_store (v : Power) (s : State) : (s.setPower v).store = s.store := rfl
@[simp] theorem setPower_power (v : Power) (s : State) : (s.setPower v).power = v := rfl
@[simp] theorem setPower_travel (v : Power) (s : State) : (s.setPower v).travel = s.travel := rfl
@[simp] theorem setPower_quench (v : Power) (s : State) : (s.setPower v).quench = s.quench := rfl
@[simp] theorem setPower_peers (v : Power) (s : State) : (s.setPower v).peers = s.peers := rfl
@[simp] theorem setPower_sched (v : Power) (s : State) : (s.setPower v).sched = s.sched := rfl
@[simp] theorem setPower_line (v : Power) (s : State) : (s.setPower v).line = s.line := rfl
@[simp] theorem setPower_fault (v : Power) (s : State) : (s.setPower v).fault = s.fault := rfl
@[simp] theorem setPower_interlock (v : Power) (s : State) : (s.setPower v).interlock = s.interlock := rfl
@[simp] theorem setPower_freeDraws (v : Power) (s : State) : (s.setPower v).freeDraws = s.freeDraws := rfl
@[simp] theorem setPower_pending (v : Power) (s : State) : (s.setPower v).pending = s.pending := rfl

@[simp] theorem setTravel_clock (v : Travel) (s : State) : (s.setTravel v).clock = s.clock := rfl
@[simp] theorem setTravel_pins (v : Travel) (s : State) : (s.setTravel v).pins = s.pins := rfl
@[simp] theorem setTravel_loader (v : Travel) (s : State) : (s.setTravel v).loader = s.loader := rfl
@[simp] theorem setTravel_settings (v : Travel) (s : State) : (s.setTravel v).settings = s.settings := rfl
@[simp] theorem setTravel_cycle (v : Travel) (s : State) : (s.setTravel v).cycle = s.cycle := rfl
@[simp] theorem setTravel_tracker (v : Travel) (s : State) : (s.setTravel v).tracker = s.tracker := rfl
@[simp] theorem setTravel_store (v : Travel) (s : State) : (s.setTravel v).store = s.store := rfl
@[simp] theorem setTravel_power (v : Travel) (s : State) : (s.setTravel v).power = s.power := rfl
@[simp] theorem setTravel_travel (v : Travel) (s : State) : (s.setTravel v).travel = v := rfl
@[simp] theorem setTravel_quench (v : Travel) (s : State) : (s.setTravel v).quench = s.quench := rfl
@[simp] theorem setTravel_peers (v : Travel) (s : State) : (s.setTravel v).peers = s.peers := rfl
@[simp] theorem setTravel_sched (v : Travel) (s : State) : (s.setTravel v).sched = s.sched := rfl
@[simp] theorem setTravel_line (v : Travel) (s : State) : (s.setTravel v).line = s.line := rfl
@[simp] theorem setTravel_fault (v : Travel) (s : State) : (s.setTravel v).fault = s.fault := rfl
@[simp] theorem setTravel_interlock (v : Travel) (s : State) : (s.setTravel v).interlock = s.interlock := rfl
@[simp] theorem setTravel_freeDraws (v : Travel) (s : State) : (s.setTravel v).freeDraws = s.freeDraws := rfl
@[simp] theorem setTravel_pending (v : Travel) (s : State) : (s.setTravel v).pending = s.pending := rfl

@[simp] theorem setQuench_clock (v : Quench) (s : State) : (s.setQuench v).clock = s.clock := rfl
@[simp] theorem setQuench_pins (v : Quench) (s : State) : (s.setQuench v).pins = s.pins := rfl
@[simp] theorem setQuench_loader (v : Quench) (s : State) : (s.setQuench v).loader = s.loader := rfl
@[simp] theorem setQuench_settings (v : Quench) (s : State) : (s.setQuench v).settings = s.settings := rfl
@[simp] theorem setQuench_cycle (v : Quench) (s : State) : (s.setQuench v).cycle = s.cycle := rfl
@[simp] theorem setQuench_tracker (v : Quench) (s : State) : (s.setQuench v).tracker = s.tracker := rfl
@[simp] theorem setQuench_store (v : Quench) (s : State) : (s.setQuench v).store = s.store := rfl
@[simp] theorem setQuench_power (v : Quench) (s : State) : (s.setQuench v).power = s.power := rfl
@[simp] theorem setQuench_travel (v : Quench) (s : State) : (s.setQuench v).travel = s.travel := rfl
@[simp] theorem setQuench_quench (v : Quench) (s : State) : (s.setQuench v).quench = v := rfl
@[simp] theorem setQuench_peers (v : Quench) (s : State) : (s.setQuench v).peers = s.peers := rfl
@[simp] theorem setQuench_sched (v : Quench) (s : State) : (s.setQuench v).sched = s.sched := rfl
@[simp] theorem setQuench_line (v : Quench) (s : State) : (s.setQuench v).line = s.line := rfl
@[simp] theorem setQuench_fault (v : Quench) (s : State) : (s.setQuench v).fault = s.fault := rfl
@[simp] theorem setQuench_interlock (v : Quench) (s : State) : (s.setQuench v).interlock = s.interlock := rfl
@[simp] theorem setQuench_freeDraws (v : Quench) (s : State) : (s.setQuench v).freeDraws = s.freeDraws := rfl
@[simp] theorem setQuench_pending (v : Quench) (s : State) : (s.setQuench v).pending = s.pending := rfl

@[simp] theorem setPeers_clock (v : List Peer) (s : State) : (s.setPeers v).clock = s.clock := rfl
@[simp] theorem setPeers_pins (v : List Peer) (s : State) : (s.setPeers v).pins = s.pins := rfl
@[simp] theorem setPeers_loader (v : List Peer) (s : State) : (s.setPeers v).loader = s.loader := rfl
@[simp] theorem setPeers_settings (v : List Peer) (s : State) : (s.setPeers v).settings = s.settings := rfl
@[simp] theorem setPeers_cycle (v : List Peer) (s : State) : (s.setPeers v).cycle = s.cycle := rfl
@[simp] theorem setPeers_tracker (v : List Peer) (s : State) : (s.setPeers v).tracker = s.tracker := rfl
@[simp] theorem setPeers_store (v : List Peer) (s : State) : (s.setPeers v).store = s.store := rfl
@[simp] theorem setPeers_power (v : List Peer) (s : State) : (s.setPeers v).power = s.power := rfl
@[simp] theorem setPeers_travel (v : List Peer) (s : State) : (s.setPeers v).travel = s.travel := rfl
@[simp] theorem setPeers_quench (v : List Peer) (s : State) : (s.setPeers v).quench = s.quench := rfl
@[simp] theorem setPeers_peers (v : List Peer) (s : State) : (s.setPeers v).peers = v := rfl
@[simp] theorem setPeers_sched (v : List Peer) (s : State) : (s.setPeers v).sched = s.sched := rfl
@[simp] theorem setPeers_line (v : List Peer) (s : State) : (s.setPeers v).line = s.line := rfl
@[simp] theorem setPeers_fault (v : List Peer) (s : State) : (s.setPeers v).fault = s.fault := rfl
@[simp] theorem setPeers_interlock (v : List Peer) (s : State) : (s.setPeers v).interlock = s.interlock := rfl
@[simp] theorem setPeers_freeDraws (v : List Peer) (s : State) : (s.setPeers v).freeDraws = s.freeDraws := rfl
@[simp] theorem setPeers_pending (v : List Peer) (s : State) : (s.setPeers v).pending = s.pending := rfl

@[simp] theorem setSched_clock (v : Sched) (s : State) : (s.setSched v).clock = s.clock := rfl
@[simp] theorem setSched_pins (v : Sched) (s : State) : (s.setSched v).pins = s.pins := rfl
@[simp] theorem setSched_loader (v : Sched) (s : State) : (s.setSched v).loader = s.loader := rfl
@[simp] theorem setSched_settings (v : Sched) (s : State) : (s.setSched v).settings = s.settings := rfl
@[simp] theorem setSched_cycle (v : Sched) (s : State) : (s.setSched v).cycle = s.cycle := rfl
@[simp] theorem setSched_tracker (v : Sched) (s : State) : (s.setSched v).tracker = s.tracker := rfl
@[simp] theorem setSched_store (v : Sched) (s : State) : (s.setSched v).store = s.store := rfl
@[simp] theorem setSched_power (v : Sched) (s : State) : (s.setSched v).power = s.power := rfl
@[simp] theorem setSched_travel (v : Sched) (s : State) : (s.setSched v).travel = s.travel := rfl
@[simp] theorem setSched_quench (v : Sched) (s : State) : (s.setSched v).quench = s.quench := rfl
@[simp] theorem setSched_peers (v : Sched) (s : State) : (s.setSched v).peers = s.peers := rfl
@[simp] theorem setSched_sched (v : Sched) (s : State) : (s.setSched v).sched = v := rfl
@[simp] theorem setSched_line (v : Sched) (s : State) : (s.setSched v).line = s.line := rfl
@[simp] theorem setSched_fault (v : Sched) (s : State) : (s.setSched v).fault = s.fault := rfl
@[simp] theorem setSched_interlock (v : Sched) (s : State) : (s.setSched v).interlock = s.interlock := rfl
@[simp] theorem setSched_freeDraws (v : Sched) (s : State) : (s.setSched v).freeDraws = s.freeDraws := rfl
@[simp] theorem setSched_pending (v : Sched) (s : State) : (s.setSched v).pending = s.pending := rfl

@[simp] theorem setLine_clock (v : Line) (s : State) : (s.setLine v).clock = s.clock := rfl
@[simp] theorem setLine_pins (v : Line) (s : State) : (s.setLine v).pins = s.pins := rfl
@[simp] theorem setLine_loader (v : Line) (s : State) : (s.setLine v).loader = s.loader := rfl
@[simp] theorem setLine_settings (v : Line) (s : State) : (s.setLine v).settings = s.settings := rfl
@[simp] theorem setLine_cycle (v : Line) (s : State) : (s.setLine v).cycle = s.cycle := rfl
@[simp] theorem setLine_tracker (v : Line) (s : State) : (s.setLine v).tracker = s.tracker := rfl
@[simp] theorem setLine_store (v : Line) (s : State) : (s.setLine v).store = s.store := rfl
@[simp] theorem setLine_power (v : Line) (s : State) : (s.setLine v).power = s.power := rfl
@[simp] theorem setLine_travel (v : Line) (s : State) : (s.setLine v).travel = s.travel := rfl
@[simp] theorem setLine_quench (v : Line) (s : State) : (s.setLine v).quench = s.quench := rfl
@[simp] theorem setLine_peers (v : Line) (s : State) : (s.setLine v).peers = s.peers := rfl
@[simp] theorem setLine_sched (v : Line) (s : State) : (s.setLine v).sched = s.sched := rfl
@[simp] theorem setLine_line (v : Line) (s : State) : (s.setLine v).line = v := rfl
@[simp] theorem setLine_fault (v : Line) (s : State) : (s.setLine v).fault = s.fault := rfl
@[simp] theorem setLine_interlock (v : Line) (s : State) : (s.setLine v).interlock = s.interlock := rfl
@[simp] theorem setLine_freeDraws (v : Line) (s : State) : (s.setLine v).freeDraws = s.freeDraws := rfl
@[simp] theorem setLine_pending (v : Line) (s : State) : (s.setLine v).pending = s.pending := rfl

@[simp] theorem setFault_clock (v : FaultUnit) (s : State) : (s.setFault v).clock = s.clock := rfl
@[simp] theorem setFault_pins (v : FaultUnit) (s : State) : (s.setFault v).pins = s.pins := rfl
@[simp] theorem setFault_loader (v : FaultUnit) (s : State) : (s.setFault v).loader = s.loader := rfl
@[simp] theorem setFault_settings (v : FaultUnit) (s : State) : (s.setFault v).settings = s.settings := rfl
@[simp] theorem setFault_cycle (v : FaultUnit) (s : State) : (s.setFault v).cycle = s.cycle := rfl
@[simp] theorem setFault_tracker (v : FaultUnit) (s : State) : (s.setFault v).tracker = s.tracker := rfl
@[simp] theorem setFault_store (v : FaultUnit) (s : State) : (s.setFault v).store = s.store := rfl
@[simp] theorem setFault_power (v : FaultUnit) (s : State) : (s.setFault v).power = s.power := rfl
@[simp] theorem setFault_travel (v : FaultUnit) (s : State) : (s.setFault v).travel = s.travel := rfl
@[simp] theorem setFault_quench (v : FaultUnit) (s : State) : (s.setFault v).quench = s.quench := rfl
@[simp] theorem setFault_peers (v : FaultUnit) (s : State) : (s.setFault v).peers = s.peers := rfl
@[simp] theorem setFault_sched (v : FaultUnit) (s : State) : (s.setFault v).sched = s.sched := rfl
@[simp] theorem setFault_line (v : FaultUnit) (s : State) : (s.setFault v).line = s.line := rfl
@[simp] theorem setFault_fault (v : FaultUnit) (s : State) : (s.setFault v).fault = v := rfl
@[simp] theorem setFault_interlock (v : FaultUnit) (s : State) : (s.setFault v).interlock = s.interlock := rfl
@[simp] theorem setFault_freeDraws (v : FaultUnit) (s : State) : (s.setFault v).freeDraws = s.freeDraws := rfl
@[simp] theorem setFault_pending (v : FaultUnit) (s : State) : (s.setFault v).pending = s.pending := rfl

@[simp] theorem setInterlock_clock (v : Interlock) (s : State) : (s.setInterlock v).clock = s.clock := rfl
@[simp] theorem setInterlock_pins (v : Interlock) (s : State) : (s.setInterlock v).pins = s.pins := rfl
@[simp] theorem setInterlock_loader (v : Interlock) (s : State) : (s.setInterlock v).loader = s.loader := rfl
@[simp] theorem setInterlock_settings (v : Interlock) (s : State) : (s.setInterlock v).settings = s.settings := rfl
@[simp] theorem setInterlock_cycle (v : Interlock) (s : State) : (s.setInterlock v).cycle = s.cycle := rfl
@[simp] theorem setInterlock_tracker (v : Interlock) (s : State) : (s.setInterlock v).tracker = s.tracker := rfl
@[simp] theorem setInterlock_store (v : Interlock) (s : State) : (s.setInterlock v).store = s.store := rfl
@[simp] theorem setInterlock_power (v : Interlock) (s : State) : (s.setInterlock v).power = s.power := rfl
@[simp] theorem setInterlock_travel (v : Interlock) (s : State) : (s.setInterlock v).travel = s.travel := rfl
@[simp] theorem setInterlock_quench (v : Interlock) (s : State) : (s.setInterlock v).quench = s.quench := rfl
@[simp] theorem setInterlock_peers (v : Interlock) (s : State) : (s.setInterlock v).peers = s.peers := rfl
@[simp] theorem setInterlock_sched (v : Interlock) (s : State) : (s.setInterlock v).sched = s.sched := rfl
@[simp] theorem setInterlock_line (v : Interlock) (s : State) : (s.setInterlock v).line = s.line := rfl
@[simp] theorem setInterlock_fault (v : Interlock) (s : State) : (s.setInterlock v).fault = s.fault := rfl
@[simp] theorem setInterlock_interlock (v : Interlock) (s : State) : (s.setInterlock v).interlock = v := rfl
@[simp] theorem setInterlock_freeDraws (v : Interlock) (s : State) : (s.setInterlock v).freeDraws = s.freeDraws := rfl
@[simp] theorem setInterlock_pending (v : Interlock) (s : State) : (s.setInterlock v).pending = s.pending := rfl

@[simp] theorem setFreeDraws_clock (v : Nat) (s : State) : (s.setFreeDraws v).clock = s.clock := rfl
@[simp] theorem setFreeDraws_pins (v : Nat) (s : State) : (s.setFreeDraws v).pins = s.pins := rfl
@[simp] theorem setFreeDraws_loader (v : Nat) (s : State) : (s.setFreeDraws v).loader = s.loader := rfl
@[simp] theorem setFreeDraws_settings (v : Nat) (s : State) : (s.setFreeDraws v).settings = s.settings := rfl
@[simp] theorem setFreeDraws_cycle (v : Nat) (s : State) : (s.setFreeDraws v).cycle = s.cycle := rfl
@[simp] theorem setFreeDraws_tracker (v : Nat) (s : State) : (s.setFreeDraws v).tracker = s.tracker := rfl
@[simp] theorem setFreeDraws_store (v : Nat) (s : State) : (s.setFreeDraws v).store = s.store := rfl
@[simp] theorem setFreeDraws_power (v : Nat) (s : State) : (s.setFreeDraws v).power = s.power := rfl
@[simp] theorem setFreeDraws_travel (v : Nat) (s : State) : (s.setFreeDraws v).travel = s.travel := rfl
@[simp] theorem setFreeDraws_quench (v : Nat) (s : State) : (s.setFreeDraws v).quench = s.quench := rfl
@[simp] theorem setFreeDraws_peers (v : Nat) (s : State) : (s.setFreeDraws v).peers = s.peers := rfl
@[simp] theorem setFreeDraws_sched (v : Nat) (s : State) : (s.setFreeDraws v).sched = s.sched := rfl
@[simp] theorem setFreeDraws_line (v : Nat) (s : State) : (s.setFreeDraws v).line = s.line := rfl
@[simp] theorem setFreeDraws_fault (v : Nat) (s : State) : (s.setFreeDraws v).fault = s.fault := rfl
@[simp] theorem setFreeDraws_interlock (v : Nat) (s : State) : (s.setFreeDraws v).interlock = s.interlock := rfl
@[simp] theorem setFreeDraws_freeDraws (v : Nat) (s : State) : (s.setFreeDraws v).freeDraws = v := rfl
@[simp] theorem setFreeDraws_pending (v : Nat) (s : State) : (s.setFreeDraws v).pending = s.pending := rfl

@[simp] theorem setPending_clock (v : List Instr) (s : State) : (s.setPending v).clock = s.clock := rfl
@[simp] theorem setPending_pins (v : List Instr) (s : State) : (s.setPending v).pins = s.pins := rfl
@[simp] theorem setPending_loader (v : List Instr) (s : State) : (s.setPending v).loader = s.loader := rfl
@[simp] theorem setPending_settings (v : List Instr) (s : State) : (s.setPending v).settings = s.settings := rfl
@[simp] theorem setPending_cycle (v : List Instr) (s : State) : (s.setPending v).cycle = s.cycle := rfl
@[simp] theorem setPending_tracker (v : List Instr) (s : State) : (s.setPending v).tracker = s.tracker := rfl
@[simp] theorem setPending_store (v : List Instr) (s : State) : (s.setPending v).store = s.store := rfl
@[simp] theorem setPending_power (v : List Instr) (s : State) : (s.setPending v).power = s.power := rfl
@[simp] theorem setPending_travel (v : List Instr) (s : State) : (s.setPending v).travel = s.travel := rfl
@[simp] theorem setPending_quench (v : List Instr) (s : State) : (s.setPending v).quench = s.quench := rfl
@[simp] theorem setPending_peers (v : List Instr) (s : State) : (s.setPending v).peers = s.peers := rfl
@[simp] theorem setPending_sched (v : List Instr) (s : State) : (s.setPending v).sched = s.sched := rfl
@[simp] theorem setPending_line (v : List Instr) (s : State) : (s.setPending v).line = s.line := rfl
@[simp] theorem setPending_fault (v : List Instr) (s : State) : (s.setPending v).fault = s.fault := rfl
@[simp] theorem setPending_interlock (v : List Instr) (s : State) : (s.setPending v).interlock = s.interlock := rfl
@[simp] theorem setPending_freeDraws (v : List Instr) (s : State) : (s.setPending v).freeDraws = s.freeDraws := rfl
@[simp] theorem setPending_pending (v : List Instr) (s : State) : (s.setPending v).pending = v := rfl

end Sys2Proof.Machine.State
end

