-- ==== Sys2Proof/Laws/Frames.lean ====
section
/-! SUPPORT. What each shared operation leaves alone: one lemma for each block it does not change. -/

namespace Sys2Proof.Machine

@[simp] theorem setResult_clock (k : Kind) (c : ResultCode) (s : State) : (setResult k c s).clock = s.clock := by simp [setResult]
@[simp] theorem setResult_pins (k : Kind) (c : ResultCode) (s : State) : (setResult k c s).pins = s.pins := by simp [setResult]
@[simp] theorem setResult_loader (k : Kind) (c : ResultCode) (s : State) : (setResult k c s).loader = s.loader := by simp [setResult]
@[simp] theorem setResult_settings (k : Kind) (c : ResultCode) (s : State) : (setResult k c s).settings = s.settings := by simp [setResult]
@[simp] theorem setResult_tracker (k : Kind) (c : ResultCode) (s : State) : (setResult k c s).tracker = s.tracker := by simp [setResult]
@[simp] theorem setResult_store (k : Kind) (c : ResultCode) (s : State) : (setResult k c s).store = s.store := by simp [setResult]
@[simp] theorem setResult_power (k : Kind) (c : ResultCode) (s : State) : (setResult k c s).power = s.power := by simp [setResult]
@[simp] theorem setResult_travel (k : Kind) (c : ResultCode) (s : State) : (setResult k c s).travel = s.travel := by simp [setResult]
@[simp] theorem setResult_quench (k : Kind) (c : ResultCode) (s : State) : (setResult k c s).quench = s.quench := by simp [setResult]
@[simp] theorem setResult_peers (k : Kind) (c : ResultCode) (s : State) : (setResult k c s).peers = s.peers := by simp [setResult]
@[simp] theorem setResult_sched (k : Kind) (c : ResultCode) (s : State) : (setResult k c s).sched = s.sched := by simp [setResult]
@[simp] theorem setResult_line (k : Kind) (c : ResultCode) (s : State) : (setResult k c s).line = s.line := by simp [setResult]
@[simp] theorem setResult_fault (k : Kind) (c : ResultCode) (s : State) : (setResult k c s).fault = s.fault := by simp [setResult]
@[simp] theorem setResult_interlock (k : Kind) (c : ResultCode) (s : State) : (setResult k c s).interlock = s.interlock := by simp [setResult]
@[simp] theorem setResult_freeDraws (k : Kind) (c : ResultCode) (s : State) : (setResult k c s).freeDraws = s.freeDraws := by simp [setResult]
@[simp] theorem setResult_pending (k : Kind) (c : ResultCode) (s : State) : (setResult k c s).pending = s.pending := by simp [setResult]

@[simp] theorem chooseOffer_clock (s : State) : (chooseOffer s).clock = s.clock := by simp [chooseOffer]
@[simp] theorem chooseOffer_pins (s : State) : (chooseOffer s).pins = s.pins := by simp [chooseOffer]
@[simp] theorem chooseOffer_loader (s : State) : (chooseOffer s).loader = s.loader := by simp [chooseOffer]
@[simp] theorem chooseOffer_settings (s : State) : (chooseOffer s).settings = s.settings := by simp [chooseOffer]
@[simp] theorem chooseOffer_cycle (s : State) : (chooseOffer s).cycle = s.cycle := by simp [chooseOffer]
@[simp] theorem chooseOffer_tracker (s : State) : (chooseOffer s).tracker = s.tracker := by simp [chooseOffer]
@[simp] theorem chooseOffer_store (s : State) : (chooseOffer s).store = s.store := by simp [chooseOffer]
@[simp] theorem chooseOffer_power (s : State) : (chooseOffer s).power = s.power := by simp [chooseOffer]
@[simp] theorem chooseOffer_travel (s : State) : (chooseOffer s).travel = s.travel := by simp [chooseOffer]
@[simp] theorem chooseOffer_quench (s : State) : (chooseOffer s).quench = s.quench := by simp [chooseOffer]
@[simp] theorem chooseOffer_peers (s : State) : (chooseOffer s).peers = s.peers := by simp [chooseOffer]
@[simp] theorem chooseOffer_line (s : State) : (chooseOffer s).line = s.line := by simp [chooseOffer]
@[simp] theorem chooseOffer_fault (s : State) : (chooseOffer s).fault = s.fault := by simp [chooseOffer]
@[simp] theorem chooseOffer_interlock (s : State) : (chooseOffer s).interlock = s.interlock := by simp [chooseOffer]
@[simp] theorem chooseOffer_freeDraws (s : State) : (chooseOffer s).freeDraws = s.freeDraws := by simp [chooseOffer]
@[simp] theorem chooseOffer_pending (s : State) : (chooseOffer s).pending = s.pending := by simp [chooseOffer]

@[simp] theorem beginAttempt_clock (s : State) : (beginAttempt s).clock = s.clock := by simp [beginAttempt]
@[simp] theorem beginAttempt_pins (s : State) : (beginAttempt s).pins = s.pins := by simp [beginAttempt]
@[simp] theorem beginAttempt_loader (s : State) : (beginAttempt s).loader = s.loader := by simp [beginAttempt]
@[simp] theorem beginAttempt_settings (s : State) : (beginAttempt s).settings = s.settings := by simp [beginAttempt]
@[simp] theorem beginAttempt_cycle (s : State) : (beginAttempt s).cycle = s.cycle := by simp [beginAttempt]
@[simp] theorem beginAttempt_tracker (s : State) : (beginAttempt s).tracker = s.tracker := by simp [beginAttempt]
@[simp] theorem beginAttempt_store (s : State) : (beginAttempt s).store = s.store := by simp [beginAttempt]
@[simp] theorem beginAttempt_power (s : State) : (beginAttempt s).power = s.power := by simp [beginAttempt]
@[simp] theorem beginAttempt_travel (s : State) : (beginAttempt s).travel = s.travel := by simp [beginAttempt]
@[simp] theorem beginAttempt_quench (s : State) : (beginAttempt s).quench = s.quench := by simp [beginAttempt]
@[simp] theorem beginAttempt_peers (s : State) : (beginAttempt s).peers = s.peers := by simp [beginAttempt]
@[simp] theorem beginAttempt_sched (s : State) : (beginAttempt s).sched = s.sched := by simp [beginAttempt]
@[simp] theorem beginAttempt_fault (s : State) : (beginAttempt s).fault = s.fault := by simp [beginAttempt]
@[simp] theorem beginAttempt_interlock (s : State) : (beginAttempt s).interlock = s.interlock := by simp [beginAttempt]
@[simp] theorem beginAttempt_freeDraws (s : State) : (beginAttempt s).freeDraws = s.freeDraws := by simp [beginAttempt]
@[simp] theorem beginAttempt_pending (s : State) : (beginAttempt s).pending = s.pending := by simp [beginAttempt]

@[simp] theorem tryBegin_clock (s : State) : (tryBegin s).clock = s.clock := by
  unfold tryBegin; repeat' split
  all_goals simp
@[simp] theorem tryBegin_pins (s : State) : (tryBegin s).pins = s.pins := by
  unfold tryBegin; repeat' split
  all_goals simp
@[simp] theorem tryBegin_loader (s : State) : (tryBegin s).loader = s.loader := by
  unfold tryBegin; repeat' split
  all_goals simp
@[simp] theorem tryBegin_settings (s : State) : (tryBegin s).settings = s.settings := by
  unfold tryBegin; repeat' split
  all_goals simp
@[simp] theorem tryBegin_cycle (s : State) : (tryBegin s).cycle = s.cycle := by
  unfold tryBegin; repeat' split
  all_goals simp
@[simp] theorem tryBegin_tracker (s : State) : (tryBegin s).tracker = s.tracker := by
  unfold tryBegin; repeat' split
  all_goals simp
@[simp] theorem tryBegin_store (s : State) : (tryBegin s).store = s.store := by
  unfold tryBegin; repeat' split
  all_goals simp
@[simp] theorem tryBegin_power (s : State) : (tryBegin s).power = s.power := by
  unfold tryBegin; repeat' split
  all_goals simp
@[simp] theorem tryBegin_travel (s : State) : (tryBegin s).travel = s.travel := by
  unfold tryBegin; repeat' split
  all_goals simp
@[simp] theorem tryBegin_quench (s : State) : (tryBegin s).quench = s.quench := by
  unfold tryBegin; repeat' split
  all_goals simp
@[simp] theorem tryBegin_peers (s : State) : (tryBegin s).peers = s.peers := by
  unfold tryBegin; repeat' split
  all_goals simp
@[simp] theorem tryBegin_fault (s : State) : (tryBegin s).fault = s.fault := by
  unfold tryBegin; repeat' split
  all_goals simp
@[simp] theorem tryBegin_interlock (s : State) : (tryBegin s).interlock = s.interlock := by
  unfold tryBegin; repeat' split
  all_goals simp
@[simp] theorem tryBegin_freeDraws (s : State) : (tryBegin s).freeDraws = s.freeDraws := by
  unfold tryBegin; repeat' split
  all_goals simp
@[simp] theorem tryBegin_pending (s : State) : (tryBegin s).pending = s.pending := by
  unfold tryBegin; repeat' split
  all_goals simp

@[simp] theorem handAbort_clock (f : Frame) (s : State) : (handAbort f s).clock = s.clock := by
  unfold handAbort; repeat' split
  all_goals simp
@[simp] theorem handAbort_pins (f : Frame) (s : State) : (handAbort f s).pins = s.pins := by
  unfold handAbort; repeat' split
  all_goals simp
@[simp] theorem handAbort_loader (f : Frame) (s : State) : (handAbort f s).loader = s.loader := by
  unfold handAbort; repeat' split
  all_goals simp
@[simp] theorem handAbort_settings (f : Frame) (s : State) : (handAbort f s).settings = s.settings := by
  unfold handAbort; repeat' split
  all_goals simp
@[simp] theorem handAbort_cycle (f : Frame) (s : State) : (handAbort f s).cycle = s.cycle := by
  unfold handAbort; repeat' split
  all_goals simp
@[simp] theorem handAbort_tracker (f : Frame) (s : State) : (handAbort f s).tracker = s.tracker := by
  unfold handAbort; repeat' split
  all_goals simp
@[simp] theorem handAbort_store (f : Frame) (s : State) : (handAbort f s).store = s.store := by
  unfold handAbort; repeat' split
  all_goals simp
@[simp] theorem handAbort_power (f : Frame) (s : State) : (handAbort f s).power = s.power := by
  unfold handAbort; repeat' split
  all_goals simp
@[simp] theorem handAbort_travel (f : Frame) (s : State) : (handAbort f s).travel = s.travel := by
  unfold handAbort; repeat' split
  all_goals simp
@[simp] theorem handAbort_quench (f : Frame) (s : State) : (handAbort f s).quench = s.quench := by
  unfold handAbort; repeat' split
  all_goals simp
@[simp] theorem handAbort_peers (f : Frame) (s : State) : (handAbort f s).peers = s.peers := by
  unfold handAbort; repeat' split
  all_goals simp
@[simp] theorem handAbort_fault (f : Frame) (s : State) : (handAbort f s).fault = s.fault := by
  unfold handAbort; repeat' split
  all_goals simp
@[simp] theorem handAbort_interlock (f : Frame) (s : State) : (handAbort f s).interlock = s.interlock := by
  unfold handAbort; repeat' split
  all_goals simp
@[simp] theorem handAbort_freeDraws (f : Frame) (s : State) : (handAbort f s).freeDraws = s.freeDraws := by
  unfold handAbort; repeat' split
  all_goals simp
@[simp] theorem handAbort_pending (f : Frame) (s : State) : (handAbort f s).pending = s.pending := by
  unfold handAbort; repeat' split
  all_goals simp

@[simp] theorem placeBeacon_clock (f : Frame) (s : State) : (placeBeacon f s).clock = s.clock := by
  unfold placeBeacon; repeat' split
  all_goals simp
@[simp] theorem placeBeacon_pins (f : Frame) (s : State) : (placeBeacon f s).pins = s.pins := by
  unfold placeBeacon; repeat' split
  all_goals simp
@[simp] theorem placeBeacon_loader (f : Frame) (s : State) : (placeBeacon f s).loader = s.loader := by
  unfold placeBeacon; repeat' split
  all_goals simp
@[simp] theorem placeBeacon_settings (f : Frame) (s : State) : (placeBeacon f s).settings = s.settings := by
  unfold placeBeacon; repeat' split
  all_goals simp
@[simp] theorem placeBeacon_cycle (f : Frame) (s : State) : (placeBeacon f s).cycle = s.cycle := by
  unfold placeBeacon; repeat' split
  all_goals simp
@[simp] theorem placeBeacon_tracker (f : Frame) (s : State) : (placeBeacon f s).tracker = s.tracker := by
  unfold placeBeacon; repeat' split
  all_goals simp
@[simp] theorem placeBeacon_store (f : Frame) (s : State) : (placeBeacon f s).store = s.store := by
  unfold placeBeacon; repeat' split
  all_goals simp
@[simp] theorem placeBeacon_power (f : Frame) (s : State) : (placeBeacon f s).power = s.power := by
  unfold placeBeacon; repeat' split
  all_goals simp
@[simp] theorem placeBeacon_travel (f : Frame) (s : State) : (placeBeacon f s).travel = s.travel := by
  unfold placeBeacon; repeat' split
  all_goals simp
@[simp] theorem placeBeacon_quench (f : Frame) (s : State) : (placeBeacon f s).quench = s.quench := by
  unfold placeBeacon; repeat' split
  all_goals simp
@[simp] theorem placeBeacon_peers (f : Frame) (s : State) : (placeBeacon f s).peers = s.peers := by
  unfold placeBeacon; repeat' split
  all_goals simp
@[simp] theorem placeBeacon_fault (f : Frame) (s : State) : (placeBeacon f s).fault = s.fault := by
  unfold placeBeacon; repeat' split
  all_goals simp
@[simp] theorem placeBeacon_interlock (f : Frame) (s : State) : (placeBeacon f s).interlock = s.interlock := by
  unfold placeBeacon; repeat' split
  all_goals simp
@[simp] theorem placeBeacon_freeDraws (f : Frame) (s : State) : (placeBeacon f s).freeDraws = s.freeDraws := by
  unfold placeBeacon; repeat' split
  all_goals simp
@[simp] theorem placeBeacon_pending (f : Frame) (s : State) : (placeBeacon f s).pending = s.pending := by
  unfold placeBeacon; repeat' split
  all_goals simp

@[simp] theorem markCarried_clock (s : State) : (markCarried s).clock = s.clock := by simp [markCarried]
@[simp] theorem markCarried_pins (s : State) : (markCarried s).pins = s.pins := by simp [markCarried]
@[simp] theorem markCarried_loader (s : State) : (markCarried s).loader = s.loader := by simp [markCarried]
@[simp] theorem markCarried_settings (s : State) : (markCarried s).settings = s.settings := by simp [markCarried]
@[simp] theorem markCarried_cycle (s : State) : (markCarried s).cycle = s.cycle := by simp [markCarried]
@[simp] theorem markCarried_tracker (s : State) : (markCarried s).tracker = s.tracker := by simp [markCarried]
@[simp] theorem markCarried_store (s : State) : (markCarried s).store = s.store := by simp [markCarried]
@[simp] theorem markCarried_power (s : State) : (markCarried s).power = s.power := by simp [markCarried]
@[simp] theorem markCarried_travel (s : State) : (markCarried s).travel = s.travel := by simp [markCarried]
@[simp] theorem markCarried_quench (s : State) : (markCarried s).quench = s.quench := by simp [markCarried]
@[simp] theorem markCarried_peers (s : State) : (markCarried s).peers = s.peers := by simp [markCarried]
@[simp] theorem markCarried_sched (s : State) : (markCarried s).sched = s.sched := by simp [markCarried]
@[simp] theorem markCarried_line (s : State) : (markCarried s).line = s.line := by simp [markCarried]
@[simp] theorem markCarried_fault (s : State) : (markCarried s).fault = s.fault := by simp [markCarried]
@[simp] theorem markCarried_freeDraws (s : State) : (markCarried s).freeDraws = s.freeDraws := by simp [markCarried]
@[simp] theorem markCarried_pending (s : State) : (markCarried s).pending = s.pending := by simp [markCarried]

@[simp] theorem refreshBeacon_clock (s : State) : (refreshBeacon s).clock = s.clock := by
  unfold refreshBeacon; repeat' split
  all_goals simp
@[simp] theorem refreshBeacon_pins (s : State) : (refreshBeacon s).pins = s.pins := by
  unfold refreshBeacon; repeat' split
  all_goals simp
@[simp] theorem refreshBeacon_loader (s : State) : (refreshBeacon s).loader = s.loader := by
  unfold refreshBeacon; repeat' split
  all_goals simp
@[simp] theorem refreshBeacon_settings (s : State) : (refreshBeacon s).settings = s.settings := by
  unfold refreshBeacon; repeat' split
  all_goals simp
@[simp] theorem refreshBeacon_cycle (s : State) : (refreshBeacon s).cycle = s.cycle := by
  unfold refreshBeacon; repeat' split
  all_goals simp
@[simp] theorem refreshBeacon_tracker (s : State) : (refreshBeacon s).tracker = s.tracker := by
  unfold refreshBeacon; repeat' split
  all_goals simp
@[simp] theorem refreshBeacon_store (s : State) : (refreshBeacon s).store = s.store := by
  unfold refreshBeacon; repeat' split
  all_goals simp
@[simp] theorem refreshBeacon_power (s : State) : (refreshBeacon s).power = s.power := by
  unfold refreshBeacon; repeat' split
  all_goals simp
@[simp] theorem refreshBeacon_travel (s : State) : (refreshBeacon s).travel = s.travel := by
  unfold refreshBeacon; repeat' split
  all_goals simp
@[simp] theorem refreshBeacon_quench (s : State) : (refreshBeacon s).quench = s.quench := by
  unfold refreshBeacon; repeat' split
  all_goals simp
@[simp] theorem refreshBeacon_peers (s : State) : (refreshBeacon s).peers = s.peers := by
  unfold refreshBeacon; repeat' split
  all_goals simp
@[simp] theorem refreshBeacon_line (s : State) : (refreshBeacon s).line = s.line := by
  unfold refreshBeacon; repeat' split
  all_goals simp
@[simp] theorem refreshBeacon_fault (s : State) : (refreshBeacon s).fault = s.fault := by
  unfold refreshBeacon; repeat' split
  all_goals simp
@[simp] theorem refreshBeacon_freeDraws (s : State) : (refreshBeacon s).freeDraws = s.freeDraws := by
  unfold refreshBeacon; repeat' split
  all_goals simp
@[simp] theorem refreshBeacon_pending (s : State) : (refreshBeacon s).pending = s.pending := by
  unfold refreshBeacon; repeat' split
  all_goals simp

@[simp] theorem sendSetpoint_clock (s : State) : (sendSetpoint s).clock = s.clock := by simp [sendSetpoint]
@[simp] theorem sendSetpoint_pins (s : State) : (sendSetpoint s).pins = s.pins := by simp [sendSetpoint]
@[simp] theorem sendSetpoint_loader (s : State) : (sendSetpoint s).loader = s.loader := by simp [sendSetpoint]
@[simp] theorem sendSetpoint_settings (s : State) : (sendSetpoint s).settings = s.settings := by simp [sendSetpoint]
@[simp] theorem sendSetpoint_cycle (s : State) : (sendSetpoint s).cycle = s.cycle := by simp [sendSetpoint]
@[simp] theorem sendSetpoint_tracker (s : State) : (sendSetpoint s).tracker = s.tracker := by simp [sendSetpoint]
@[simp] theorem sendSetpoint_store (s : State) : (sendSetpoint s).store = s.store := by simp [sendSetpoint]
@[simp] theorem sendSetpoint_travel (s : State) : (sendSetpoint s).travel = s.travel := by simp [sendSetpoint]
@[simp] theorem sendSetpoint_quench (s : State) : (sendSetpoint s).quench = s.quench := by simp [sendSetpoint]
@[simp] theorem sendSetpoint_peers (s : State) : (sendSetpoint s).peers = s.peers := by simp [sendSetpoint]
@[simp] theorem sendSetpoint_sched (s : State) : (sendSetpoint s).sched = s.sched := by simp [sendSetpoint]
@[simp] theorem sendSetpoint_line (s : State) : (sendSetpoint s).line = s.line := by simp [sendSetpoint]
@[simp] theorem sendSetpoint_fault (s : State) : (sendSetpoint s).fault = s.fault := by simp [sendSetpoint]
@[simp] theorem sendSetpoint_interlock (s : State) : (sendSetpoint s).interlock = s.interlock := by simp [sendSetpoint]
@[simp] theorem sendSetpoint_freeDraws (s : State) : (sendSetpoint s).freeDraws = s.freeDraws := by simp [sendSetpoint]
@[simp] theorem sendSetpoint_pending (s : State) : (sendSetpoint s).pending = s.pending := by simp [sendSetpoint]

@[simp] theorem zeroPower_clock (s : State) : (zeroPower s).clock = s.clock := by
  unfold zeroPower; repeat' split
  all_goals simp
@[simp] theorem zeroPower_pins (s : State) : (zeroPower s).pins = s.pins := by
  unfold zeroPower; repeat' split
  all_goals simp
@[simp] theorem zeroPower_loader (s : State) : (zeroPower s).loader = s.loader := by
  unfold zeroPower; repeat' split
  all_goals simp
@[simp] theorem zeroPower_settings (s : State) : (zeroPower s).settings = s.settings := by
  unfold zeroPower; repeat' split
  all_goals simp
@[simp] theorem zeroPower_cycle (s : State) : (zeroPower s).cycle = s.cycle := by
  unfold zeroPower; repeat' split
  all_goals simp
@[simp] theorem zeroPower_tracker (s : State) : (zeroPower s).tracker = s.tracker := by
  unfold zeroPower; repeat' split
  all_goals simp
@[simp] theorem zeroPower_store (s : State) : (zeroPower s).store = s.store := by
  unfold zeroPower; repeat' split
  all_goals simp
@[simp] theorem zeroPower_travel (s : State) : (zeroPower s).travel = s.travel := by
  unfold zeroPower; repeat' split
  all_goals simp
@[simp] theorem zeroPower_quench (s : State) : (zeroPower s).quench = s.quench := by
  unfold zeroPower; repeat' split
  all_goals simp
@[simp] theorem zeroPower_peers (s : State) : (zeroPower s).peers = s.peers := by
  unfold zeroPower; repeat' split
  all_goals simp
@[simp] theorem zeroPower_sched (s : State) : (zeroPower s).sched = s.sched := by
  unfold zeroPower; repeat' split
  all_goals simp
@[simp] theorem zeroPower_line (s : State) : (zeroPower s).line = s.line := by
  unfold zeroPower; repeat' split
  all_goals simp
@[simp] theorem zeroPower_fault (s : State) : (zeroPower s).fault = s.fault := by
  unfold zeroPower; repeat' split
  all_goals simp
@[simp] theorem zeroPower_interlock (s : State) : (zeroPower s).interlock = s.interlock := by
  unfold zeroPower; repeat' split
  all_goals simp
@[simp] theorem zeroPower_freeDraws (s : State) : (zeroPower s).freeDraws = s.freeDraws := by
  unfold zeroPower; repeat' split
  all_goals simp
@[simp] theorem zeroPower_pending (s : State) : (zeroPower s).pending = s.pending := by
  unfold zeroPower; repeat' split
  all_goals simp

@[simp] theorem testSpindleHold_clock (s : State) : (testSpindleHold s).clock = s.clock := by simp [testSpindleHold]
@[simp] theorem testSpindleHold_pins (s : State) : (testSpindleHold s).pins = s.pins := by simp [testSpindleHold]
@[simp] theorem testSpindleHold_loader (s : State) : (testSpindleHold s).loader = s.loader := by simp [testSpindleHold]
@[simp] theorem testSpindleHold_settings (s : State) : (testSpindleHold s).settings = s.settings := by simp [testSpindleHold]
@[simp] theorem testSpindleHold_cycle (s : State) : (testSpindleHold s).cycle = s.cycle := by simp [testSpindleHold]
@[simp] theorem testSpindleHold_tracker (s : State) : (testSpindleHold s).tracker = s.tracker := by simp [testSpindleHold]
@[simp] theorem testSpindleHold_store (s : State) : (testSpindleHold s).store = s.store := by simp [testSpindleHold]
@[simp] theorem testSpindleHold_power (s : State) : (testSpindleHold s).power = s.power := by simp [testSpindleHold]
@[simp] theorem testSpindleHold_quench (s : State) : (testSpindleHold s).quench = s.quench := by simp [testSpindleHold]
@[simp] theorem testSpindleHold_peers (s : State) : (testSpindleHold s).peers = s.peers := by simp [testSpindleHold]
@[simp] theorem testSpindleHold_sched (s : State) : (testSpindleHold s).sched = s.sched := by simp [testSpindleHold]
@[simp] theorem testSpindleHold_line (s : State) : (testSpindleHold s).line = s.line := by simp [testSpindleHold]
@[simp] theorem testSpindleHold_fault (s : State) : (testSpindleHold s).fault = s.fault := by simp [testSpindleHold]
@[simp] theorem testSpindleHold_interlock (s : State) : (testSpindleHold s).interlock = s.interlock := by simp [testSpindleHold]
@[simp] theorem testSpindleHold_freeDraws (s : State) : (testSpindleHold s).freeDraws = s.freeDraws := by simp [testSpindleHold]
@[simp] theorem testSpindleHold_pending (s : State) : (testSpindleHold s).pending = s.pending := by simp [testSpindleHold]

@[simp] theorem beginSpindleHold_clock (s : State) : (beginSpindleHold s).clock = s.clock := by
  unfold beginSpindleHold; repeat' split
  all_goals simp
@[simp] theorem beginSpindleHold_pins (s : State) : (beginSpindleHold s).pins = s.pins := by
  unfold beginSpindleHold; repeat' split
  all_goals simp
@[simp] theorem beginSpindleHold_loader (s : State) : (beginSpindleHold s).loader = s.loader := by
  unfold beginSpindleHold; repeat' split
  all_goals simp
@[simp] theorem beginSpindleHold_settings (s : State) : (beginSpindleHold s).settings = s.settings := by
  unfold beginSpindleHold; repeat' split
  all_goals simp
@[simp] theorem beginSpindleHold_cycle (s : State) : (beginSpindleHold s).cycle = s.cycle := by
  unfold beginSpindleHold; repeat' split
  all_goals simp
@[simp] theorem beginSpindleHold_tracker (s : State) : (beginSpindleHold s).tracker = s.tracker := by
  unfold beginSpindleHold; repeat' split
  all_goals simp
@[simp] theorem beginSpindleHold_store (s : State) : (beginSpindleHold s).store = s.store := by
  unfold beginSpindleHold; repeat' split
  all_goals simp
@[simp] theorem beginSpindleHold_power (s : State) : (beginSpindleHold s).power = s.power := by
  unfold beginSpindleHold; repeat' split
  all_goals simp
@[simp] theorem beginSpindleHold_quench (s : State) : (beginSpindleHold s).quench = s.quench := by
  unfold beginSpindleHold; repeat' split
  all_goals simp
@[simp] theorem beginSpindleHold_peers (s : State) : (beginSpindleHold s).peers = s.peers := by
  unfold beginSpindleHold; repeat' split
  all_goals simp
@[simp] theorem beginSpindleHold_sched (s : State) : (beginSpindleHold s).sched = s.sched := by
  unfold beginSpindleHold; repeat' split
  all_goals simp
@[simp] theorem beginSpindleHold_line (s : State) : (beginSpindleHold s).line = s.line := by
  unfold beginSpindleHold; repeat' split
  all_goals simp
@[simp] theorem beginSpindleHold_fault (s : State) : (beginSpindleHold s).fault = s.fault := by
  unfold beginSpindleHold; repeat' split
  all_goals simp
@[simp] theorem beginSpindleHold_interlock (s : State) : (beginSpindleHold s).interlock = s.interlock := by
  unfold beginSpindleHold; repeat' split
  all_goals simp
@[simp] theorem beginSpindleHold_freeDraws (s : State) : (beginSpindleHold s).freeDraws = s.freeDraws := by
  unfold beginSpindleHold; repeat' split
  all_goals simp
@[simp] theorem beginSpindleHold_pending (s : State) : (beginSpindleHold s).pending = s.pending := by
  unfold beginSpindleHold; repeat' split
  all_goals simp

@[simp] theorem floodRing_clock (s : State) : (floodRing s).clock = s.clock := by
  unfold floodRing; repeat' split
  all_goals simp
@[simp] theorem floodRing_pins (s : State) : (floodRing s).pins = s.pins := by
  unfold floodRing; repeat' split
  all_goals simp
@[simp] theorem floodRing_loader (s : State) : (floodRing s).loader = s.loader := by
  unfold floodRing; repeat' split
  all_goals simp
@[simp] theorem floodRing_settings (s : State) : (floodRing s).settings = s.settings := by
  unfold floodRing; repeat' split
  all_goals simp
@[simp] theorem floodRing_cycle (s : State) : (floodRing s).cycle = s.cycle := by
  unfold floodRing; repeat' split
  all_goals simp
@[simp] theorem floodRing_tracker (s : State) : (floodRing s).tracker = s.tracker := by
  unfold floodRing; repeat' split
  all_goals simp
@[simp] theorem floodRing_store (s : State) : (floodRing s).store = s.store := by
  unfold floodRing; repeat' split
  all_goals simp
@[simp] theorem floodRing_power (s : State) : (floodRing s).power = s.power := by
  unfold floodRing; repeat' split
  all_goals simp
@[simp] theorem floodRing_travel (s : State) : (floodRing s).travel = s.travel := by
  unfold floodRing; repeat' split
  all_goals simp
@[simp] theorem floodRing_peers (s : State) : (floodRing s).peers = s.peers := by
  unfold floodRing; repeat' split
  all_goals simp
@[simp] theorem floodRing_sched (s : State) : (floodRing s).sched = s.sched := by
  unfold floodRing; repeat' split
  all_goals simp
@[simp] theorem floodRing_line (s : State) : (floodRing s).line = s.line := by
  unfold floodRing; repeat' split
  all_goals simp
@[simp] theorem floodRing_fault (s : State) : (floodRing s).fault = s.fault := by
  unfold floodRing; repeat' split
  all_goals simp
@[simp] theorem floodRing_interlock (s : State) : (floodRing s).interlock = s.interlock := by
  unfold floodRing; repeat' split
  all_goals simp
@[simp] theorem floodRing_freeDraws (s : State) : (floodRing s).freeDraws = s.freeDraws := by
  unfold floodRing; repeat' split
  all_goals simp
@[simp] theorem floodRing_pending (s : State) : (floodRing s).pending = s.pending := by
  unfold floodRing; repeat' split
  all_goals simp

@[simp] theorem abortFromCycle_clock (s : State) : (abortFromCycle s).clock = s.clock := by simp [abortFromCycle]
@[simp] theorem abortFromCycle_pins (s : State) : (abortFromCycle s).pins = s.pins := by simp [abortFromCycle]
@[simp] theorem abortFromCycle_loader (s : State) : (abortFromCycle s).loader = s.loader := by simp [abortFromCycle]
@[simp] theorem abortFromCycle_settings (s : State) : (abortFromCycle s).settings = s.settings := by simp [abortFromCycle]
@[simp] theorem abortFromCycle_cycle (s : State) : (abortFromCycle s).cycle = s.cycle := by simp [abortFromCycle]
@[simp] theorem abortFromCycle_tracker (s : State) : (abortFromCycle s).tracker = s.tracker := by simp [abortFromCycle]
@[simp] theorem abortFromCycle_store (s : State) : (abortFromCycle s).store = s.store := by simp [abortFromCycle]
@[simp] theorem abortFromCycle_peers (s : State) : (abortFromCycle s).peers = s.peers := by simp [abortFromCycle]
@[simp] theorem abortFromCycle_sched (s : State) : (abortFromCycle s).sched = s.sched := by simp [abortFromCycle]
@[simp] theorem abortFromCycle_line (s : State) : (abortFromCycle s).line = s.line := by simp [abortFromCycle]
@[simp] theorem abortFromCycle_fault (s : State) : (abortFromCycle s).fault = s.fault := by simp [abortFromCycle]
@[simp] theorem abortFromCycle_interlock (s : State) : (abortFromCycle s).interlock = s.interlock := by simp [abortFromCycle]
@[simp] theorem abortFromCycle_freeDraws (s : State) : (abortFromCycle s).freeDraws = s.freeDraws := by simp [abortFromCycle]
@[simp] theorem abortFromCycle_pending (s : State) : (abortFromCycle s).pending = s.pending := by simp [abortFromCycle]

@[simp] theorem abortFromRest_clock (s : State) : (abortFromRest s).clock = s.clock := by simp [abortFromRest]
@[simp] theorem abortFromRest_pins (s : State) : (abortFromRest s).pins = s.pins := by simp [abortFromRest]
@[simp] theorem abortFromRest_loader (s : State) : (abortFromRest s).loader = s.loader := by simp [abortFromRest]
@[simp] theorem abortFromRest_settings (s : State) : (abortFromRest s).settings = s.settings := by simp [abortFromRest]
@[simp] theorem abortFromRest_cycle (s : State) : (abortFromRest s).cycle = s.cycle := by simp [abortFromRest]
@[simp] theorem abortFromRest_tracker (s : State) : (abortFromRest s).tracker = s.tracker := by simp [abortFromRest]
@[simp] theorem abortFromRest_store (s : State) : (abortFromRest s).store = s.store := by simp [abortFromRest]
@[simp] theorem abortFromRest_travel (s : State) : (abortFromRest s).travel = s.travel := by simp [abortFromRest]
@[simp] theorem abortFromRest_peers (s : State) : (abortFromRest s).peers = s.peers := by simp [abortFromRest]
@[simp] theorem abortFromRest_sched (s : State) : (abortFromRest s).sched = s.sched := by simp [abortFromRest]
@[simp] theorem abortFromRest_line (s : State) : (abortFromRest s).line = s.line := by simp [abortFromRest]
@[simp] theorem abortFromRest_fault (s : State) : (abortFromRest s).fault = s.fault := by simp [abortFromRest]
@[simp] theorem abortFromRest_interlock (s : State) : (abortFromRest s).interlock = s.interlock := by simp [abortFromRest]
@[simp] theorem abortFromRest_freeDraws (s : State) : (abortFromRest s).freeDraws = s.freeDraws := by simp [abortFromRest]
@[simp] theorem abortFromRest_pending (s : State) : (abortFromRest s).pending = s.pending := by simp [abortFromRest]

@[simp] theorem markAborted_clock (c : AbortCause) (s : State) : (markAborted c s).clock = s.clock := by simp [markAborted]
@[simp] theorem markAborted_pins (c : AbortCause) (s : State) : (markAborted c s).pins = s.pins := by simp [markAborted]
@[simp] theorem markAborted_loader (c : AbortCause) (s : State) : (markAborted c s).loader = s.loader := by simp [markAborted]
@[simp] theorem markAborted_settings (c : AbortCause) (s : State) : (markAborted c s).settings = s.settings := by simp [markAborted]
@[simp] theorem markAborted_tracker (c : AbortCause) (s : State) : (markAborted c s).tracker = s.tracker := by simp [markAborted]
@[simp] theorem markAborted_store (c : AbortCause) (s : State) : (markAborted c s).store = s.store := by simp [markAborted]
@[simp] theorem markAborted_power (c : AbortCause) (s : State) : (markAborted c s).power = s.power := by simp [markAborted]
@[simp] theorem markAborted_quench (c : AbortCause) (s : State) : (markAborted c s).quench = s.quench := by simp [markAborted]
@[simp] theorem markAborted_peers (c : AbortCause) (s : State) : (markAborted c s).peers = s.peers := by simp [markAborted]
@[simp] theorem markAborted_sched (c : AbortCause) (s : State) : (markAborted c s).sched = s.sched := by simp [markAborted]
@[simp] theorem markAborted_line (c : AbortCause) (s : State) : (markAborted c s).line = s.line := by simp [markAborted]
@[simp] theorem markAborted_interlock (c : AbortCause) (s : State) : (markAborted c s).interlock = s.interlock := by simp [markAborted]
@[simp] theorem markAborted_freeDraws (c : AbortCause) (s : State) : (markAborted c s).freeDraws = s.freeDraws := by simp [markAborted]
@[simp] theorem markAborted_pending (c : AbortCause) (s : State) : (markAborted c s).pending = s.pending := by simp [markAborted]

@[simp] theorem enterAborted_clock (c : AbortCause) (s : State) : (enterAborted c s).clock = s.clock := by
  unfold enterAborted; repeat' split
  all_goals simp
@[simp] theorem enterAborted_pins (c : AbortCause) (s : State) : (enterAborted c s).pins = s.pins := by
  unfold enterAborted; repeat' split
  all_goals simp
@[simp] theorem enterAborted_loader (c : AbortCause) (s : State) : (enterAborted c s).loader = s.loader := by
  unfold enterAborted; repeat' split
  all_goals simp
@[simp] theorem enterAborted_settings (c : AbortCause) (s : State) : (enterAborted c s).settings = s.settings := by
  unfold enterAborted; repeat' split
  all_goals simp
@[simp] theorem enterAborted_tracker (c : AbortCause) (s : State) : (enterAborted c s).tracker = s.tracker := by
  unfold enterAborted; repeat' split
  all_goals simp
@[simp] theorem enterAborted_store (c : AbortCause) (s : State) : (enterAborted c s).store = s.store := by
  unfold enterAborted; repeat' split
  all_goals simp
@[simp] theorem enterAborted_peers (c : AbortCause) (s : State) : (enterAborted c s).peers = s.peers := by
  unfold enterAborted; repeat' split
  all_goals simp
@[simp] theorem enterAborted_sched (c : AbortCause) (s : State) : (enterAborted c s).sched = s.sched := by
  unfold enterAborted; repeat' split
  all_goals simp
@[simp] theorem enterAborted_line (c : AbortCause) (s : State) : (enterAborted c s).line = s.line := by
  unfold enterAborted; repeat' split
  all_goals simp
@[simp] theorem enterAborted_interlock (c : AbortCause) (s : State) : (enterAborted c s).interlock = s.interlock := by
  unfold enterAborted; repeat' split
  all_goals simp
@[simp] theorem enterAborted_freeDraws (c : AbortCause) (s : State) : (enterAborted c s).freeDraws = s.freeDraws := by
  unfold enterAborted; repeat' split
  all_goals simp
@[simp] theorem enterAborted_pending (c : AbortCause) (s : State) : (enterAborted c s).pending = s.pending := by
  unfold enterAborted; repeat' split
  all_goals simp

@[simp] theorem enterAbortedOwn_clock (k : FaultKind) (s : State) : (enterAbortedOwn k s).clock = s.clock := by simp [enterAbortedOwn]
@[simp] theorem enterAbortedOwn_pins (k : FaultKind) (s : State) : (enterAbortedOwn k s).pins = s.pins := by simp [enterAbortedOwn]
@[simp] theorem enterAbortedOwn_loader (k : FaultKind) (s : State) : (enterAbortedOwn k s).loader = s.loader := by simp [enterAbortedOwn]
@[simp] theorem enterAbortedOwn_settings (k : FaultKind) (s : State) : (enterAbortedOwn k s).settings = s.settings := by simp [enterAbortedOwn]
@[simp] theorem enterAbortedOwn_tracker (k : FaultKind) (s : State) : (enterAbortedOwn k s).tracker = s.tracker := by simp [enterAbortedOwn]
@[simp] theorem enterAbortedOwn_store (k : FaultKind) (s : State) : (enterAbortedOwn k s).store = s.store := by simp [enterAbortedOwn]
@[simp] theorem enterAbortedOwn_peers (k : FaultKind) (s : State) : (enterAbortedOwn k s).peers = s.peers := by simp [enterAbortedOwn]
@[simp] theorem enterAbortedOwn_interlock (k : FaultKind) (s : State) : (enterAbortedOwn k s).interlock = s.interlock := by simp [enterAbortedOwn]
@[simp] theorem enterAbortedOwn_freeDraws (k : FaultKind) (s : State) : (enterAbortedOwn k s).freeDraws = s.freeDraws := by simp [enterAbortedOwn]
@[simp] theorem enterAbortedOwn_pending (k : FaultKind) (s : State) : (enterAbortedOwn k s).pending = s.pending := by simp [enterAbortedOwn]

@[simp] theorem markSilent_clock (s : State) : (markSilent s).clock = s.clock := by simp [markSilent]
@[simp] theorem markSilent_pins (s : State) : (markSilent s).pins = s.pins := by simp [markSilent]
@[simp] theorem markSilent_loader (s : State) : (markSilent s).loader = s.loader := by simp [markSilent]
@[simp] theorem markSilent_settings (s : State) : (markSilent s).settings = s.settings := by simp [markSilent]
@[simp] theorem markSilent_tracker (s : State) : (markSilent s).tracker = s.tracker := by simp [markSilent]
@[simp] theorem markSilent_store (s : State) : (markSilent s).store = s.store := by simp [markSilent]
@[simp] theorem markSilent_power (s : State) : (markSilent s).power = s.power := by simp [markSilent]
@[simp] theorem markSilent_travel (s : State) : (markSilent s).travel = s.travel := by simp [markSilent]
@[simp] theorem markSilent_quench (s : State) : (markSilent s).quench = s.quench := by simp [markSilent]
@[simp] theorem markSilent_peers (s : State) : (markSilent s).peers = s.peers := by simp [markSilent]
@[simp] theorem markSilent_fault (s : State) : (markSilent s).fault = s.fault := by simp [markSilent]
@[simp] theorem markSilent_interlock (s : State) : (markSilent s).interlock = s.interlock := by simp [markSilent]
@[simp] theorem markSilent_freeDraws (s : State) : (markSilent s).freeDraws = s.freeDraws := by simp [markSilent]
@[simp] theorem markSilent_pending (s : State) : (markSilent s).pending = s.pending := by simp [markSilent]

@[simp] theorem enterSilent_clock (k : FaultKind) (s : State) : (enterSilent k s).clock = s.clock := by
  unfold enterSilent; repeat' split
  all_goals simp
@[simp] theorem enterSilent_pins (k : FaultKind) (s : State) : (enterSilent k s).pins = s.pins := by
  unfold enterSilent; repeat' split
  all_goals simp
@[simp] theorem enterSilent_loader (k : FaultKind) (s : State) : (enterSilent k s).loader = s.loader := by
  unfold enterSilent; repeat' split
  all_goals simp
@[simp] theorem enterSilent_settings (k : FaultKind) (s : State) : (enterSilent k s).settings = s.settings := by
  unfold enterSilent; repeat' split
  all_goals simp
@[simp] theorem enterSilent_tracker (k : FaultKind) (s : State) : (enterSilent k s).tracker = s.tracker := by
  unfold enterSilent; repeat' split
  all_goals simp
@[simp] theorem enterSilent_store (k : FaultKind) (s : State) : (enterSilent k s).store = s.store := by
  unfold enterSilent; repeat' split
  all_goals simp
@[simp] theorem enterSilent_peers (k : FaultKind) (s : State) : (enterSilent k s).peers = s.peers := by
  unfold enterSilent; repeat' split
  all_goals simp
@[simp] theorem enterSilent_interlock (k : FaultKind) (s : State) : (enterSilent k s).interlock = s.interlock := by
  unfold enterSilent; repeat' split
  all_goals simp
@[simp] theorem enterSilent_freeDraws (k : FaultKind) (s : State) : (enterSilent k s).freeDraws = s.freeDraws := by
  unfold enterSilent; repeat' split
  all_goals simp
@[simp] theorem enterSilent_pending (k : FaultKind) (s : State) : (enterSilent k s).pending = s.pending := by
  unfold enterSilent; repeat' split
  all_goals simp

@[simp] theorem actOnFatal_clock (k : FaultKind) (s : State) : (actOnFatal k s).clock = s.clock := by
  unfold actOnFatal; repeat' split
  all_goals simp
@[simp] theorem actOnFatal_pins (k : FaultKind) (s : State) : (actOnFatal k s).pins = s.pins := by
  unfold actOnFatal; repeat' split
  all_goals simp
@[simp] theorem actOnFatal_loader (k : FaultKind) (s : State) : (actOnFatal k s).loader = s.loader := by
  unfold actOnFatal; repeat' split
  all_goals simp
@[simp] theorem actOnFatal_settings (k : FaultKind) (s : State) : (actOnFatal k s).settings = s.settings := by
  unfold actOnFatal; repeat' split
  all_goals simp
@[simp] theorem actOnFatal_tracker (k : FaultKind) (s : State) : (actOnFatal k s).tracker = s.tracker := by
  unfold actOnFatal; repeat' split
  all_goals simp
@[simp] theorem actOnFatal_store (k : FaultKind) (s : State) : (actOnFatal k s).store = s.store := by
  unfold actOnFatal; repeat' split
  all_goals simp
@[simp] theorem actOnFatal_peers (k : FaultKind) (s : State) : (actOnFatal k s).peers = s.peers := by
  unfold actOnFatal; repeat' split
  all_goals simp
@[simp] theorem actOnFatal_interlock (k : FaultKind) (s : State) : (actOnFatal k s).interlock = s.interlock := by
  unfold actOnFatal; repeat' split
  all_goals simp
@[simp] theorem actOnFatal_freeDraws (k : FaultKind) (s : State) : (actOnFatal k s).freeDraws = s.freeDraws := by
  unfold actOnFatal; repeat' split
  all_goals simp
@[simp] theorem actOnFatal_pending (k : FaultKind) (s : State) : (actOnFatal k s).pending = s.pending := by
  unfold actOnFatal; repeat' split
  all_goals simp

@[simp] theorem latch_clock (r : Report) (s : State) : (latch r s).clock = s.clock := by simp [latch]
@[simp] theorem latch_pins (r : Report) (s : State) : (latch r s).pins = s.pins := by simp [latch]
@[simp] theorem latch_loader (r : Report) (s : State) : (latch r s).loader = s.loader := by simp [latch]
@[simp] theorem latch_settings (r : Report) (s : State) : (latch r s).settings = s.settings := by simp [latch]
@[simp] theorem latch_cycle (r : Report) (s : State) : (latch r s).cycle = s.cycle := by simp [latch]
@[simp] theorem latch_tracker (r : Report) (s : State) : (latch r s).tracker = s.tracker := by simp [latch]
@[simp] theorem latch_store (r : Report) (s : State) : (latch r s).store = s.store := by simp [latch]
@[simp] theorem latch_power (r : Report) (s : State) : (latch r s).power = s.power := by simp [latch]
@[simp] theorem latch_travel (r : Report) (s : State) : (latch r s).travel = s.travel := by simp [latch]
@[simp] theorem latch_quench (r : Report) (s : State) : (latch r s).quench = s.quench := by simp [latch]
@[simp] theorem latch_peers (r : Report) (s : State) : (latch r s).peers = s.peers := by simp [latch]
@[simp] theorem latch_sched (r : Report) (s : State) : (latch r s).sched = s.sched := by simp [latch]
@[simp] theorem latch_line (r : Report) (s : State) : (latch r s).line = s.line := by simp [latch]
@[simp] theorem latch_interlock (r : Report) (s : State) : (latch r s).interlock = s.interlock := by simp [latch]
@[simp] theorem latch_freeDraws (r : Report) (s : State) : (latch r s).freeDraws = s.freeDraws := by simp [latch]
@[simp] theorem latch_pending (r : Report) (s : State) : (latch r s).pending = s.pending := by simp [latch]

@[simp] theorem pushReport_clock (f : Frame) (s : State) : (pushReport f s).clock = s.clock := by simp [pushReport]
@[simp] theorem pushReport_pins (f : Frame) (s : State) : (pushReport f s).pins = s.pins := by simp [pushReport]
@[simp] theorem pushReport_loader (f : Frame) (s : State) : (pushReport f s).loader = s.loader := by simp [pushReport]
@[simp] theorem pushReport_settings (f : Frame) (s : State) : (pushReport f s).settings = s.settings := by simp [pushReport]
@[simp] theorem pushReport_cycle (f : Frame) (s : State) : (pushReport f s).cycle = s.cycle := by simp [pushReport]
@[simp] theorem pushReport_tracker (f : Frame) (s : State) : (pushReport f s).tracker = s.tracker := by simp [pushReport]
@[simp] theorem pushReport_store (f : Frame) (s : State) : (pushReport f s).store = s.store := by simp [pushReport]
@[simp] theorem pushReport_power (f : Frame) (s : State) : (pushReport f s).power = s.power := by simp [pushReport]
@[simp] theorem pushReport_travel (f : Frame) (s : State) : (pushReport f s).travel = s.travel := by simp [pushReport]
@[simp] theorem pushReport_quench (f : Frame) (s : State) : (pushReport f s).quench = s.quench := by simp [pushReport]
@[simp] theorem pushReport_peers (f : Frame) (s : State) : (pushReport f s).peers = s.peers := by simp [pushReport]
@[simp] theorem pushReport_fault (f : Frame) (s : State) : (pushReport f s).fault = s.fault := by simp [pushReport]
@[simp] theorem pushReport_interlock (f : Frame) (s : State) : (pushReport f s).interlock = s.interlock := by simp [pushReport]
@[simp] theorem pushReport_freeDraws (f : Frame) (s : State) : (pushReport f s).freeDraws = s.freeDraws := by simp [pushReport]
@[simp] theorem pushReport_pending (f : Frame) (s : State) : (pushReport f s).pending = s.pending := by simp [pushReport]

@[simp] theorem countDrop_clock (s : State) : (countDrop s).clock = s.clock := by simp [countDrop]
@[simp] theorem countDrop_pins (s : State) : (countDrop s).pins = s.pins := by simp [countDrop]
@[simp] theorem countDrop_loader (s : State) : (countDrop s).loader = s.loader := by simp [countDrop]
@[simp] theorem countDrop_settings (s : State) : (countDrop s).settings = s.settings := by simp [countDrop]
@[simp] theorem countDrop_cycle (s : State) : (countDrop s).cycle = s.cycle := by simp [countDrop]
@[simp] theorem countDrop_tracker (s : State) : (countDrop s).tracker = s.tracker := by simp [countDrop]
@[simp] theorem countDrop_store (s : State) : (countDrop s).store = s.store := by simp [countDrop]
@[simp] theorem countDrop_power (s : State) : (countDrop s).power = s.power := by simp [countDrop]
@[simp] theorem countDrop_travel (s : State) : (countDrop s).travel = s.travel := by simp [countDrop]
@[simp] theorem countDrop_quench (s : State) : (countDrop s).quench = s.quench := by simp [countDrop]
@[simp] theorem countDrop_peers (s : State) : (countDrop s).peers = s.peers := by simp [countDrop]
@[simp] theorem countDrop_line (s : State) : (countDrop s).line = s.line := by simp [countDrop]
@[simp] theorem countDrop_fault (s : State) : (countDrop s).fault = s.fault := by simp [countDrop]
@[simp] theorem countDrop_interlock (s : State) : (countDrop s).interlock = s.interlock := by simp [countDrop]
@[simp] theorem countDrop_freeDraws (s : State) : (countDrop s).freeDraws = s.freeDraws := by simp [countDrop]
@[simp] theorem countDrop_pending (s : State) : (countDrop s).pending = s.pending := by simp [countDrop]

@[simp] theorem pushSlice_clock (f : Frame) (s : State) : (pushSlice f s).clock = s.clock := by simp [pushSlice]
@[simp] theorem pushSlice_pins (f : Frame) (s : State) : (pushSlice f s).pins = s.pins := by simp [pushSlice]
@[simp] theorem pushSlice_loader (f : Frame) (s : State) : (pushSlice f s).loader = s.loader := by simp [pushSlice]
@[simp] theorem pushSlice_settings (f : Frame) (s : State) : (pushSlice f s).settings = s.settings := by simp [pushSlice]
@[simp] theorem pushSlice_cycle (f : Frame) (s : State) : (pushSlice f s).cycle = s.cycle := by simp [pushSlice]
@[simp] theorem pushSlice_tracker (f : Frame) (s : State) : (pushSlice f s).tracker = s.tracker := by simp [pushSlice]
@[simp] theorem pushSlice_store (f : Frame) (s : State) : (pushSlice f s).store = s.store := by simp [pushSlice]
@[simp] theorem pushSlice_power (f : Frame) (s : State) : (pushSlice f s).power = s.power := by simp [pushSlice]
@[simp] theorem pushSlice_travel (f : Frame) (s : State) : (pushSlice f s).travel = s.travel := by simp [pushSlice]
@[simp] theorem pushSlice_quench (f : Frame) (s : State) : (pushSlice f s).quench = s.quench := by simp [pushSlice]
@[simp] theorem pushSlice_peers (f : Frame) (s : State) : (pushSlice f s).peers = s.peers := by simp [pushSlice]
@[simp] theorem pushSlice_fault (f : Frame) (s : State) : (pushSlice f s).fault = s.fault := by simp [pushSlice]
@[simp] theorem pushSlice_interlock (f : Frame) (s : State) : (pushSlice f s).interlock = s.interlock := by simp [pushSlice]
@[simp] theorem pushSlice_freeDraws (f : Frame) (s : State) : (pushSlice f s).freeDraws = s.freeDraws := by simp [pushSlice]
@[simp] theorem pushSlice_pending (f : Frame) (s : State) : (pushSlice f s).pending = s.pending := by simp [pushSlice]

@[simp] theorem placeReport_clock (f : Frame) (s : State) : (placeReport f s).clock = s.clock := by
  unfold placeReport; repeat' split
  all_goals simp
@[simp] theorem placeReport_pins (f : Frame) (s : State) : (placeReport f s).pins = s.pins := by
  unfold placeReport; repeat' split
  all_goals simp
@[simp] theorem placeReport_loader (f : Frame) (s : State) : (placeReport f s).loader = s.loader := by
  unfold placeReport; repeat' split
  all_goals simp
@[simp] theorem placeReport_settings (f : Frame) (s : State) : (placeReport f s).settings = s.settings := by
  unfold placeReport; repeat' split
  all_goals simp
@[simp] theorem placeReport_cycle (f : Frame) (s : State) : (placeReport f s).cycle = s.cycle := by
  unfold placeReport; repeat' split
  all_goals simp
@[simp] theorem placeReport_tracker (f : Frame) (s : State) : (placeReport f s).tracker = s.tracker := by
  unfold placeReport; repeat' split
  all_goals simp
@[simp] theorem placeReport_store (f : Frame) (s : State) : (placeReport f s).store = s.store := by
  unfold placeReport; repeat' split
  all_goals simp
@[simp] theorem placeReport_power (f : Frame) (s : State) : (placeReport f s).power = s.power := by
  unfold placeReport; repeat' split
  all_goals simp
@[simp] theorem placeReport_travel (f : Frame) (s : State) : (placeReport f s).travel = s.travel := by
  unfold placeReport; repeat' split
  all_goals simp
@[simp] theorem placeReport_quench (f : Frame) (s : State) : (placeReport f s).quench = s.quench := by
  unfold placeReport; repeat' split
  all_goals simp
@[simp] theorem placeReport_peers (f : Frame) (s : State) : (placeReport f s).peers = s.peers := by
  unfold placeReport; repeat' split
  all_goals simp
@[simp] theorem placeReport_fault (f : Frame) (s : State) : (placeReport f s).fault = s.fault := by
  unfold placeReport; repeat' split
  all_goals simp
@[simp] theorem placeReport_interlock (f : Frame) (s : State) : (placeReport f s).interlock = s.interlock := by
  unfold placeReport; repeat' split
  all_goals simp
@[simp] theorem placeReport_freeDraws (f : Frame) (s : State) : (placeReport f s).freeDraws = s.freeDraws := by
  unfold placeReport; repeat' split
  all_goals simp
@[simp] theorem placeReport_pending (f : Frame) (s : State) : (placeReport f s).pending = s.pending := by
  unfold placeReport; repeat' split
  all_goals simp

@[simp] theorem tellCycle_clock (k : FaultKind) (s : State) : (tellCycle k s).clock = s.clock := by
  unfold tellCycle; repeat' split
  all_goals simp
@[simp] theorem tellCycle_pins (k : FaultKind) (s : State) : (tellCycle k s).pins = s.pins := by
  unfold tellCycle; repeat' split
  all_goals simp
@[simp] theorem tellCycle_loader (k : FaultKind) (s : State) : (tellCycle k s).loader = s.loader := by
  unfold tellCycle; repeat' split
  all_goals simp
@[simp] theorem tellCycle_settings (k : FaultKind) (s : State) : (tellCycle k s).settings = s.settings := by
  unfold tellCycle; repeat' split
  all_goals simp
@[simp] theorem tellCycle_tracker (k : FaultKind) (s : State) : (tellCycle k s).tracker = s.tracker := by
  unfold tellCycle; repeat' split
  all_goals simp
@[simp] theorem tellCycle_store (k : FaultKind) (s : State) : (tellCycle k s).store = s.store := by
  unfold tellCycle; repeat' split
  all_goals simp
@[simp] theorem tellCycle_peers (k : FaultKind) (s : State) : (tellCycle k s).peers = s.peers := by
  unfold tellCycle; repeat' split
  all_goals simp
@[simp] theorem tellCycle_interlock (k : FaultKind) (s : State) : (tellCycle k s).interlock = s.interlock := by
  unfold tellCycle; repeat' split
  all_goals simp
@[simp] theorem tellCycle_freeDraws (k : FaultKind) (s : State) : (tellCycle k s).freeDraws = s.freeDraws := by
  unfold tellCycle; repeat' split
  all_goals simp
@[simp] theorem tellCycle_pending (k : FaultKind) (s : State) : (tellCycle k s).pending = s.pending := by
  unfold tellCycle; repeat' split
  all_goals simp

@[simp] theorem reportOverflow_clock (c : Captured) (s : State) : (reportOverflow c s).clock = s.clock := by
  unfold reportOverflow; repeat' split
  all_goals simp
@[simp] theorem reportOverflow_pins (c : Captured) (s : State) : (reportOverflow c s).pins = s.pins := by
  unfold reportOverflow; repeat' split
  all_goals simp
@[simp] theorem reportOverflow_loader (c : Captured) (s : State) : (reportOverflow c s).loader = s.loader := by
  unfold reportOverflow; repeat' split
  all_goals simp
@[simp] theorem reportOverflow_settings (c : Captured) (s : State) : (reportOverflow c s).settings = s.settings := by
  unfold reportOverflow; repeat' split
  all_goals simp
@[simp] theorem reportOverflow_tracker (c : Captured) (s : State) : (reportOverflow c s).tracker = s.tracker := by
  unfold reportOverflow; repeat' split
  all_goals simp
@[simp] theorem reportOverflow_store (c : Captured) (s : State) : (reportOverflow c s).store = s.store := by
  unfold reportOverflow; repeat' split
  all_goals simp
@[simp] theorem reportOverflow_peers (c : Captured) (s : State) : (reportOverflow c s).peers = s.peers := by
  unfold reportOverflow; repeat' split
  all_goals simp
@[simp] theorem reportOverflow_interlock (c : Captured) (s : State) : (reportOverflow c s).interlock = s.interlock := by
  unfold reportOverflow; repeat' split
  all_goals simp
@[simp] theorem reportOverflow_freeDraws (c : Captured) (s : State) : (reportOverflow c s).freeDraws = s.freeDraws := by
  unfold reportOverflow; repeat' split
  all_goals simp
@[simp] theorem reportOverflow_pending (c : Captured) (s : State) : (reportOverflow c s).pending = s.pending := by
  unfold reportOverflow; repeat' split
  all_goals simp

@[simp] theorem handReport_clock (f : Frame) (s : State) : (handReport f s).clock = s.clock := by
  unfold handReport; repeat' split
  all_goals simp
@[simp] theorem handReport_pins (f : Frame) (s : State) : (handReport f s).pins = s.pins := by
  unfold handReport; repeat' split
  all_goals simp
@[simp] theorem handReport_loader (f : Frame) (s : State) : (handReport f s).loader = s.loader := by
  unfold handReport; repeat' split
  all_goals simp
@[simp] theorem handReport_settings (f : Frame) (s : State) : (handReport f s).settings = s.settings := by
  unfold handReport; repeat' split
  all_goals simp
@[simp] theorem handReport_tracker (f : Frame) (s : State) : (handReport f s).tracker = s.tracker := by
  unfold handReport; repeat' split
  all_goals simp
@[simp] theorem handReport_store (f : Frame) (s : State) : (handReport f s).store = s.store := by
  unfold handReport; repeat' split
  all_goals simp
@[simp] theorem handReport_peers (f : Frame) (s : State) : (handReport f s).peers = s.peers := by
  unfold handReport; repeat' split
  all_goals simp
@[simp] theorem handReport_interlock (f : Frame) (s : State) : (handReport f s).interlock = s.interlock := by
  unfold handReport; repeat' split
  all_goals simp
@[simp] theorem handReport_freeDraws (f : Frame) (s : State) : (handReport f s).freeDraws = s.freeDraws := by
  unfold handReport; repeat' split
  all_goals simp
@[simp] theorem handReport_pending (f : Frame) (s : State) : (handReport f s).pending = s.pending := by
  unfold handReport; repeat' split
  all_goals simp

@[simp] theorem handSlice_clock (f : Frame) (s : State) : (handSlice f s).clock = s.clock := by
  unfold handSlice; repeat' split
  all_goals simp
@[simp] theorem handSlice_pins (f : Frame) (s : State) : (handSlice f s).pins = s.pins := by
  unfold handSlice; repeat' split
  all_goals simp
@[simp] theorem handSlice_loader (f : Frame) (s : State) : (handSlice f s).loader = s.loader := by
  unfold handSlice; repeat' split
  all_goals simp
@[simp] theorem handSlice_settings (f : Frame) (s : State) : (handSlice f s).settings = s.settings := by
  unfold handSlice; repeat' split
  all_goals simp
@[simp] theorem handSlice_tracker (f : Frame) (s : State) : (handSlice f s).tracker = s.tracker := by
  unfold handSlice; repeat' split
  all_goals simp
@[simp] theorem handSlice_store (f : Frame) (s : State) : (handSlice f s).store = s.store := by
  unfold handSlice; repeat' split
  all_goals simp
@[simp] theorem handSlice_peers (f : Frame) (s : State) : (handSlice f s).peers = s.peers := by
  unfold handSlice; repeat' split
  all_goals simp
@[simp] theorem handSlice_interlock (f : Frame) (s : State) : (handSlice f s).interlock = s.interlock := by
  unfold handSlice; repeat' split
  all_goals simp
@[simp] theorem handSlice_freeDraws (f : Frame) (s : State) : (handSlice f s).freeDraws = s.freeDraws := by
  unfold handSlice; repeat' split
  all_goals simp
@[simp] theorem handSlice_pending (f : Frame) (s : State) : (handSlice f s).pending = s.pending := by
  unfold handSlice; repeat' split
  all_goals simp

@[simp] theorem takeReport_clock (r : Report) (s : State) : (takeReport r s).clock = s.clock := by
  simp [takeReport]
@[simp] theorem takeReport_pins (r : Report) (s : State) : (takeReport r s).pins = s.pins := by
  simp [takeReport]
@[simp] theorem takeReport_loader (r : Report) (s : State) : (takeReport r s).loader = s.loader := by
  simp [takeReport]
@[simp] theorem takeReport_settings (r : Report) (s : State) : (takeReport r s).settings = s.settings := by
  simp [takeReport]
@[simp] theorem takeReport_tracker (r : Report) (s : State) : (takeReport r s).tracker = s.tracker := by
  simp [takeReport]
@[simp] theorem takeReport_store (r : Report) (s : State) : (takeReport r s).store = s.store := by
  simp [takeReport]
@[simp] theorem takeReport_peers (r : Report) (s : State) : (takeReport r s).peers = s.peers := by
  simp [takeReport]
@[simp] theorem takeReport_interlock (r : Report) (s : State) : (takeReport r s).interlock = s.interlock := by
  simp [takeReport]
@[simp] theorem takeReport_freeDraws (r : Report) (s : State) : (takeReport r s).freeDraws = s.freeDraws := by
  simp [takeReport]
@[simp] theorem takeReport_pending (r : Report) (s : State) : (takeReport r s).pending = s.pending := by
  simp [takeReport]

@[simp] theorem report_clock (r : Report) (s : State) : (report r s).clock = s.clock := by
  unfold report; repeat' split
  all_goals simp
@[simp] theorem report_pins (r : Report) (s : State) : (report r s).pins = s.pins := by
  unfold report; repeat' split
  all_goals simp
@[simp] theorem report_loader (r : Report) (s : State) : (report r s).loader = s.loader := by
  unfold report; repeat' split
  all_goals simp
@[simp] theorem report_settings (r : Report) (s : State) : (report r s).settings = s.settings := by
  unfold report; repeat' split
  all_goals simp
@[simp] theorem report_tracker (r : Report) (s : State) : (report r s).tracker = s.tracker := by
  unfold report; repeat' split
  all_goals simp
@[simp] theorem report_store (r : Report) (s : State) : (report r s).store = s.store := by
  unfold report; repeat' split
  all_goals simp
@[simp] theorem report_peers (r : Report) (s : State) : (report r s).peers = s.peers := by
  unfold report; repeat' split
  all_goals simp
@[simp] theorem report_interlock (r : Report) (s : State) : (report r s).interlock = s.interlock := by
  unfold report; repeat' split
  all_goals simp
@[simp] theorem report_freeDraws (r : Report) (s : State) : (report r s).freeDraws = s.freeDraws := by
  unfold report; repeat' split
  all_goals simp
@[simp] theorem report_pending (r : Report) (s : State) : (report r s).pending = s.pending := by
  unfold report; repeat' split
  all_goals simp

@[simp] theorem reportPlain_clock (k : FaultKind) (s : State) : (reportPlain k s).clock = s.clock := by simp [reportPlain]
@[simp] theorem reportPlain_pins (k : FaultKind) (s : State) : (reportPlain k s).pins = s.pins := by simp [reportPlain]
@[simp] theorem reportPlain_loader (k : FaultKind) (s : State) : (reportPlain k s).loader = s.loader := by simp [reportPlain]
@[simp] theorem reportPlain_settings (k : FaultKind) (s : State) : (reportPlain k s).settings = s.settings := by simp [reportPlain]
@[simp] theorem reportPlain_tracker (k : FaultKind) (s : State) : (reportPlain k s).tracker = s.tracker := by simp [reportPlain]
@[simp] theorem reportPlain_store (k : FaultKind) (s : State) : (reportPlain k s).store = s.store := by simp [reportPlain]
@[simp] theorem reportPlain_peers (k : FaultKind) (s : State) : (reportPlain k s).peers = s.peers := by simp [reportPlain]
@[simp] theorem reportPlain_interlock (k : FaultKind) (s : State) : (reportPlain k s).interlock = s.interlock := by simp [reportPlain]
@[simp] theorem reportPlain_freeDraws (k : FaultKind) (s : State) : (reportPlain k s).freeDraws = s.freeDraws := by simp [reportPlain]
@[simp] theorem reportPlain_pending (k : FaultKind) (s : State) : (reportPlain k s).pending = s.pending := by simp [reportPlain]

@[simp] theorem dropEnable_clock (s : State) : (dropEnable s).clock = s.clock := by unfold dropEnable; split <;> simp
@[simp] theorem dropEnable_pins (s : State) : (dropEnable s).pins = s.pins := by unfold dropEnable; split <;> simp
@[simp] theorem dropEnable_loader (s : State) : (dropEnable s).loader = s.loader := by unfold dropEnable; split <;> simp
@[simp] theorem dropEnable_settings (s : State) : (dropEnable s).settings = s.settings := by unfold dropEnable; split <;> simp
@[simp] theorem dropEnable_cycle (s : State) : (dropEnable s).cycle = s.cycle := by unfold dropEnable; split <;> simp
@[simp] theorem dropEnable_tracker (s : State) : (dropEnable s).tracker = s.tracker := by unfold dropEnable; split <;> simp
@[simp] theorem dropEnable_store (s : State) : (dropEnable s).store = s.store := by unfold dropEnable; split <;> simp
@[simp] theorem dropEnable_travel (s : State) : (dropEnable s).travel = s.travel := by unfold dropEnable; split <;> simp
@[simp] theorem dropEnable_quench (s : State) : (dropEnable s).quench = s.quench := by unfold dropEnable; split <;> simp
@[simp] theorem dropEnable_peers (s : State) : (dropEnable s).peers = s.peers := by unfold dropEnable; split <;> simp
@[simp] theorem dropEnable_sched (s : State) : (dropEnable s).sched = s.sched := by unfold dropEnable; split <;> simp
@[simp] theorem dropEnable_line (s : State) : (dropEnable s).line = s.line := by unfold dropEnable; split <;> simp
@[simp] theorem dropEnable_fault (s : State) : (dropEnable s).fault = s.fault := by unfold dropEnable; split <;> simp
@[simp] theorem dropEnable_interlock (s : State) : (dropEnable s).interlock = s.interlock := by unfold dropEnable; split <;> simp
@[simp] theorem dropEnable_freeDraws (s : State) : (dropEnable s).freeDraws = s.freeDraws := by unfold dropEnable; split <;> simp
@[simp] theorem dropEnable_pending (s : State) : (dropEnable s).pending = s.pending := by unfold dropEnable; split <;> simp

@[simp] theorem enterIdle_clock (s : State) : (enterIdle s).clock = s.clock := by simp [enterIdle]
@[simp] theorem enterIdle_pins (s : State) : (enterIdle s).pins = s.pins := by simp [enterIdle]
@[simp] theorem enterIdle_loader (s : State) : (enterIdle s).loader = s.loader := by simp [enterIdle]
@[simp] theorem enterIdle_settings (s : State) : (enterIdle s).settings = s.settings := by simp [enterIdle]
@[simp] theorem enterIdle_tracker (s : State) : (enterIdle s).tracker = s.tracker := by simp [enterIdle]
@[simp] theorem enterIdle_store (s : State) : (enterIdle s).store = s.store := by simp [enterIdle]
@[simp] theorem enterIdle_travel (s : State) : (enterIdle s).travel = s.travel := by simp [enterIdle]
@[simp] theorem enterIdle_peers (s : State) : (enterIdle s).peers = s.peers := by simp [enterIdle]
@[simp] theorem enterIdle_sched (s : State) : (enterIdle s).sched = s.sched := by simp [enterIdle]
@[simp] theorem enterIdle_line (s : State) : (enterIdle s).line = s.line := by simp [enterIdle]
@[simp] theorem enterIdle_fault (s : State) : (enterIdle s).fault = s.fault := by simp [enterIdle]
@[simp] theorem enterIdle_interlock (s : State) : (enterIdle s).interlock = s.interlock := by simp [enterIdle]
@[simp] theorem enterIdle_freeDraws (s : State) : (enterIdle s).freeDraws = s.freeDraws := by simp [enterIdle]
@[simp] theorem enterIdle_pending (s : State) : (enterIdle s).pending = s.pending := by simp [enterIdle]

@[simp] theorem enterScanning_clock (s : State) : (enterScanning s).clock = s.clock := by simp [enterScanning]
@[simp] theorem enterScanning_pins (s : State) : (enterScanning s).pins = s.pins := by simp [enterScanning]
@[simp] theorem enterScanning_loader (s : State) : (enterScanning s).loader = s.loader := by simp [enterScanning]
@[simp] theorem enterScanning_settings (s : State) : (enterScanning s).settings = s.settings := by simp [enterScanning]
@[simp] theorem enterScanning_tracker (s : State) : (enterScanning s).tracker = s.tracker := by simp [enterScanning]
@[simp] theorem enterScanning_store (s : State) : (enterScanning s).store = s.store := by simp [enterScanning]
@[simp] theorem enterScanning_power (s : State) : (enterScanning s).power = s.power := by simp [enterScanning]
@[simp] theorem enterScanning_travel (s : State) : (enterScanning s).travel = s.travel := by simp [enterScanning]
@[simp] theorem enterScanning_quench (s : State) : (enterScanning s).quench = s.quench := by simp [enterScanning]
@[simp] theorem enterScanning_peers (s : State) : (enterScanning s).peers = s.peers := by simp [enterScanning]
@[simp] theorem enterScanning_sched (s : State) : (enterScanning s).sched = s.sched := by simp [enterScanning]
@[simp] theorem enterScanning_line (s : State) : (enterScanning s).line = s.line := by simp [enterScanning]
@[simp] theorem enterScanning_fault (s : State) : (enterScanning s).fault = s.fault := by simp [enterScanning]
@[simp] theorem enterScanning_interlock (s : State) : (enterScanning s).interlock = s.interlock := by simp [enterScanning]
@[simp] theorem enterScanning_freeDraws (s : State) : (enterScanning s).freeDraws = s.freeDraws := by simp [enterScanning]
@[simp] theorem enterScanning_pending (s : State) : (enterScanning s).pending = s.pending := by simp [enterScanning]

@[simp] theorem testBarrier_clock (s : State) : (testBarrier s).clock = s.clock := by
  unfold testBarrier; repeat' split
  all_goals simp
@[simp] theorem testBarrier_pins (s : State) : (testBarrier s).pins = s.pins := by
  unfold testBarrier; repeat' split
  all_goals simp
@[simp] theorem testBarrier_loader (s : State) : (testBarrier s).loader = s.loader := by
  unfold testBarrier; repeat' split
  all_goals simp
@[simp] theorem testBarrier_settings (s : State) : (testBarrier s).settings = s.settings := by
  unfold testBarrier; repeat' split
  all_goals simp
@[simp] theorem testBarrier_tracker (s : State) : (testBarrier s).tracker = s.tracker := by
  unfold testBarrier; repeat' split
  all_goals simp
@[simp] theorem testBarrier_store (s : State) : (testBarrier s).store = s.store := by
  unfold testBarrier; repeat' split
  all_goals simp
@[simp] theorem testBarrier_power (s : State) : (testBarrier s).power = s.power := by
  unfold testBarrier; repeat' split
  all_goals simp
@[simp] theorem testBarrier_travel (s : State) : (testBarrier s).travel = s.travel := by
  unfold testBarrier; repeat' split
  all_goals simp
@[simp] theorem testBarrier_quench (s : State) : (testBarrier s).quench = s.quench := by
  unfold testBarrier; repeat' split
  all_goals simp
@[simp] theorem testBarrier_peers (s : State) : (testBarrier s).peers = s.peers := by
  unfold testBarrier; repeat' split
  all_goals simp
@[simp] theorem testBarrier_sched (s : State) : (testBarrier s).sched = s.sched := by
  unfold testBarrier; repeat' split
  all_goals simp
@[simp] theorem testBarrier_line (s : State) : (testBarrier s).line = s.line := by
  unfold testBarrier; repeat' split
  all_goals simp
@[simp] theorem testBarrier_fault (s : State) : (testBarrier s).fault = s.fault := by
  unfold testBarrier; repeat' split
  all_goals simp
@[simp] theorem testBarrier_interlock (s : State) : (testBarrier s).interlock = s.interlock := by
  unfold testBarrier; repeat' split
  all_goals simp
@[simp] theorem testBarrier_freeDraws (s : State) : (testBarrier s).freeDraws = s.freeDraws := by
  unfold testBarrier; repeat' split
  all_goals simp
@[simp] theorem testBarrier_pending (s : State) : (testBarrier s).pending = s.pending := by
  unfold testBarrier; repeat' split
  all_goals simp

@[simp] theorem markDone_clock (e : EndKind) (s : State) : (markDone e s).clock = s.clock := by simp [markDone]
@[simp] theorem markDone_pins (e : EndKind) (s : State) : (markDone e s).pins = s.pins := by simp [markDone]
@[simp] theorem markDone_loader (e : EndKind) (s : State) : (markDone e s).loader = s.loader := by simp [markDone]
@[simp] theorem markDone_settings (e : EndKind) (s : State) : (markDone e s).settings = s.settings := by simp [markDone]
@[simp] theorem markDone_tracker (e : EndKind) (s : State) : (markDone e s).tracker = s.tracker := by simp [markDone]
@[simp] theorem markDone_store (e : EndKind) (s : State) : (markDone e s).store = s.store := by simp [markDone]
@[simp] theorem markDone_peers (e : EndKind) (s : State) : (markDone e s).peers = s.peers := by simp [markDone]
@[simp] theorem markDone_sched (e : EndKind) (s : State) : (markDone e s).sched = s.sched := by simp [markDone]
@[simp] theorem markDone_line (e : EndKind) (s : State) : (markDone e s).line = s.line := by simp [markDone]
@[simp] theorem markDone_fault (e : EndKind) (s : State) : (markDone e s).fault = s.fault := by simp [markDone]
@[simp] theorem markDone_interlock (e : EndKind) (s : State) : (markDone e s).interlock = s.interlock := by simp [markDone]
@[simp] theorem markDone_freeDraws (e : EndKind) (s : State) : (markDone e s).freeDraws = s.freeDraws := by simp [markDone]
@[simp] theorem markDone_pending (e : EndKind) (s : State) : (markDone e s).pending = s.pending := by simp [markDone]

@[simp] theorem enterDone_clock (e : EndKind) (s : State) : (enterDone e s).clock = s.clock := by simp [enterDone]
@[simp] theorem enterDone_pins (e : EndKind) (s : State) : (enterDone e s).pins = s.pins := by simp [enterDone]
@[simp] theorem enterDone_loader (e : EndKind) (s : State) : (enterDone e s).loader = s.loader := by simp [enterDone]
@[simp] theorem enterDone_settings (e : EndKind) (s : State) : (enterDone e s).settings = s.settings := by simp [enterDone]
@[simp] theorem enterDone_tracker (e : EndKind) (s : State) : (enterDone e s).tracker = s.tracker := by simp [enterDone]
@[simp] theorem enterDone_store (e : EndKind) (s : State) : (enterDone e s).store = s.store := by simp [enterDone]
@[simp] theorem enterDone_peers (e : EndKind) (s : State) : (enterDone e s).peers = s.peers := by simp [enterDone]
@[simp] theorem enterDone_interlock (e : EndKind) (s : State) : (enterDone e s).interlock = s.interlock := by simp [enterDone]
@[simp] theorem enterDone_freeDraws (e : EndKind) (s : State) : (enterDone e s).freeDraws = s.freeDraws := by simp [enterDone]
@[simp] theorem enterDone_pending (e : EndKind) (s : State) : (enterDone e s).pending = s.pending := by simp [enterDone]

@[simp] theorem markJoining_clock (s : State) : (markJoining s).clock = s.clock := by simp [markJoining]
@[simp] theorem markJoining_pins (s : State) : (markJoining s).pins = s.pins := by simp [markJoining]
@[simp] theorem markJoining_loader (s : State) : (markJoining s).loader = s.loader := by simp [markJoining]
@[simp] theorem markJoining_settings (s : State) : (markJoining s).settings = s.settings := by simp [markJoining]
@[simp] theorem markJoining_tracker (s : State) : (markJoining s).tracker = s.tracker := by simp [markJoining]
@[simp] theorem markJoining_store (s : State) : (markJoining s).store = s.store := by simp [markJoining]
@[simp] theorem markJoining_power (s : State) : (markJoining s).power = s.power := by simp [markJoining]
@[simp] theorem markJoining_travel (s : State) : (markJoining s).travel = s.travel := by simp [markJoining]
@[simp] theorem markJoining_quench (s : State) : (markJoining s).quench = s.quench := by simp [markJoining]
@[simp] theorem markJoining_peers (s : State) : (markJoining s).peers = s.peers := by simp [markJoining]
@[simp] theorem markJoining_line (s : State) : (markJoining s).line = s.line := by simp [markJoining]
@[simp] theorem markJoining_fault (s : State) : (markJoining s).fault = s.fault := by simp [markJoining]
@[simp] theorem markJoining_interlock (s : State) : (markJoining s).interlock = s.interlock := by simp [markJoining]
@[simp] theorem markJoining_freeDraws (s : State) : (markJoining s).freeDraws = s.freeDraws := by simp [markJoining]
@[simp] theorem markJoining_pending (s : State) : (markJoining s).pending = s.pending := by simp [markJoining]

@[simp] theorem enterJoining_clock (s : State) : (enterJoining s).clock = s.clock := by simp [enterJoining]
@[simp] theorem enterJoining_pins (s : State) : (enterJoining s).pins = s.pins := by simp [enterJoining]
@[simp] theorem enterJoining_loader (s : State) : (enterJoining s).loader = s.loader := by simp [enterJoining]
@[simp] theorem enterJoining_settings (s : State) : (enterJoining s).settings = s.settings := by simp [enterJoining]
@[simp] theorem enterJoining_tracker (s : State) : (enterJoining s).tracker = s.tracker := by simp [enterJoining]
@[simp] theorem enterJoining_store (s : State) : (enterJoining s).store = s.store := by simp [enterJoining]
@[simp] theorem enterJoining_power (s : State) : (enterJoining s).power = s.power := by simp [enterJoining]
@[simp] theorem enterJoining_travel (s : State) : (enterJoining s).travel = s.travel := by simp [enterJoining]
@[simp] theorem enterJoining_quench (s : State) : (enterJoining s).quench = s.quench := by simp [enterJoining]
@[simp] theorem enterJoining_peers (s : State) : (enterJoining s).peers = s.peers := by simp [enterJoining]
@[simp] theorem enterJoining_fault (s : State) : (enterJoining s).fault = s.fault := by simp [enterJoining]
@[simp] theorem enterJoining_interlock (s : State) : (enterJoining s).interlock = s.interlock := by simp [enterJoining]
@[simp] theorem enterJoining_freeDraws (s : State) : (enterJoining s).freeDraws = s.freeDraws := by simp [enterJoining]
@[simp] theorem enterJoining_pending (s : State) : (enterJoining s).pending = s.pending := by simp [enterJoining]

@[simp] theorem startBeaconTimer_clock (s : State) : (startBeaconTimer s).clock = s.clock := by simp [startBeaconTimer]
@[simp] theorem startBeaconTimer_pins (s : State) : (startBeaconTimer s).pins = s.pins := by simp [startBeaconTimer]
@[simp] theorem startBeaconTimer_loader (s : State) : (startBeaconTimer s).loader = s.loader := by simp [startBeaconTimer]
@[simp] theorem startBeaconTimer_settings (s : State) : (startBeaconTimer s).settings = s.settings := by simp [startBeaconTimer]
@[simp] theorem startBeaconTimer_cycle (s : State) : (startBeaconTimer s).cycle = s.cycle := by simp [startBeaconTimer]
@[simp] theorem startBeaconTimer_tracker (s : State) : (startBeaconTimer s).tracker = s.tracker := by simp [startBeaconTimer]
@[simp] theorem startBeaconTimer_store (s : State) : (startBeaconTimer s).store = s.store := by simp [startBeaconTimer]
@[simp] theorem startBeaconTimer_power (s : State) : (startBeaconTimer s).power = s.power := by simp [startBeaconTimer]
@[simp] theorem startBeaconTimer_travel (s : State) : (startBeaconTimer s).travel = s.travel := by simp [startBeaconTimer]
@[simp] theorem startBeaconTimer_quench (s : State) : (startBeaconTimer s).quench = s.quench := by simp [startBeaconTimer]
@[simp] theorem startBeaconTimer_peers (s : State) : (startBeaconTimer s).peers = s.peers := by simp [startBeaconTimer]
@[simp] theorem startBeaconTimer_line (s : State) : (startBeaconTimer s).line = s.line := by simp [startBeaconTimer]
@[simp] theorem startBeaconTimer_fault (s : State) : (startBeaconTimer s).fault = s.fault := by simp [startBeaconTimer]
@[simp] theorem startBeaconTimer_interlock (s : State) : (startBeaconTimer s).interlock = s.interlock := by simp [startBeaconTimer]
@[simp] theorem startBeaconTimer_freeDraws (s : State) : (startBeaconTimer s).freeDraws = s.freeDraws := by simp [startBeaconTimer]
@[simp] theorem startBeaconTimer_pending (s : State) : (startBeaconTimer s).pending = s.pending := by simp [startBeaconTimer]

@[simp] theorem advance_pins (ticks : Nat) (s : State) : (advance ticks s).pins = s.pins := by simp [advance]
@[simp] theorem advance_loader (ticks : Nat) (s : State) : (advance ticks s).loader = s.loader := by simp [advance]
@[simp] theorem advance_settings (ticks : Nat) (s : State) : (advance ticks s).settings = s.settings := by simp [advance]
@[simp] theorem advance_store (ticks : Nat) (s : State) : (advance ticks s).store = s.store := by simp [advance]
@[simp] theorem advance_power (ticks : Nat) (s : State) : (advance ticks s).power = s.power := by simp [advance]
@[simp] theorem advance_line (ticks : Nat) (s : State) : (advance ticks s).line = s.line := by simp [advance]
@[simp] theorem advance_fault (ticks : Nat) (s : State) : (advance ticks s).fault = s.fault := by simp [advance]
@[simp] theorem advance_interlock (ticks : Nat) (s : State) : (advance ticks s).interlock = s.interlock := by simp [advance]
@[simp] theorem advance_freeDraws (ticks : Nat) (s : State) : (advance ticks s).freeDraws = s.freeDraws := by simp [advance]
@[simp] theorem advance_pending (ticks : Nat) (s : State) : (advance ticks s).pending = s.pending := by simp [advance]

end Sys2Proof.Machine
end

