-- ==== Sys2Proof/Laws/Ops.lean ====
section
/-! SUPPORT. What each shared operation can do, said once. -/

namespace Sys2Proof.Machine

/-! ## Arithmetic and timers -/

theorem clampPosition_le (z : Int) : clampPosition z ≤ 300000 := by
  simp only [clampPosition, Config.maxPosition]; omega

theorem clampPosition_of_range {n : Nat} (h : n ≤ 300000) : clampPosition (n : Int) = n := by
  simp only [clampPosition, Config.maxPosition]; omega

theorem satAdd_le (cap a b : Nat) : satAdd cap a b ≤ cap := Nat.min_le_left _ _

theorem moveToward_between (rate goal command : Nat) :
    min command goal ≤ moveToward rate goal command ∧ moveToward rate goal command ≤ max command goal := by
  unfold moveToward; split <;> omega

theorem moveToward_step (rate goal command : Nat) : distance command (moveToward rate goal command) ≤ rate := by
  unfold moveToward distance; split <;> split <;> omega

theorem rampPower_le_target (ramp target command : Nat) : rampPower ramp target command ≤ target := by
  unfold rampPower; split <;> omega

theorem isqrtBits_spec (n b r : Nat) (h : r * r ≤ n) (g : n < (r + 2 ^ b) * (r + 2 ^ b)) :
    isqrtBits n b r * isqrtBits n b r ≤ n ∧ n < (isqrtBits n b r + 1) * (isqrtBits n b r + 1) := by
  induction b generalizing r with
  | zero => exact ⟨h, by simpa [isqrtBits] using g⟩
  | succ b ih =>
    unfold isqrtBits
    split
    · rename_i k
      refine ih _ k ?_
      rwa [Nat.add_assoc, ← Nat.two_mul, ← Nat.pow_succ']
    · exact ih _ h (by omega)

/-- The square root is truncated, neither over nor more than 1 under. -/
theorem isqrt_spec (n : Nat) : isqrt n * isqrt n ≤ n ∧ n < (isqrt n + 1) * (isqrt n + 1) := by
  refine isqrtBits_spec n _ 0 (by simp) ?_
  rw [Nat.zero_add, ← Nat.pow_add]
  refine Nat.lt_of_lt_of_le (Nat.lt_log2_self (n := n)) (Nat.pow_le_pow_right (by omega) ?_)
  omega

theorem pass_add (a b : Nat) (t : Timer) : Timer.pass (a + b) t = Timer.pass b (Timer.pass a t) := by
  cases t <;> simp [Timer.pass]; omega

/-! ## Time: what `advance` leaves as it was -/

@[simp] theorem advance_role (k : Nat) (s : State) : (advance k s).role = s.role := rfl
@[simp] theorem advance_ownNumber (k : Nat) (s : State) : (advance k s).ownNumber = s.ownNumber := rfl
@[simp] theorem advance_state (k : Nat) (s : State) : (advance k s).cycle.state = s.cycle.state := rfl
@[simp] theorem advance_number (k : Nat) (s : State) : (advance k s).cycle.number = s.cycle.number := rfl
@[simp] theorem advance_roster (k : Nat) (s : State) : (advance k s).cycle.roster = s.cycle.roster := rfl
@[simp] theorem advance_last (k : Nat) (s : State) : (advance k s).cycle.last = s.cycle.last := rfl
@[simp] theorem advance_onLine (k : Nat) (s : State) : (advance k s).onLine = s.onLine := rfl
@[simp] theorem advance_inCycle (k : Nat) (s : State) : (advance k s).inCycle = s.inCycle := rfl
@[simp] theorem advance_entries (k : Nat) (s : State) : (advance k s).quench.entries = s.quench.entries := rfl
@[simp] theorem advance_offered (k : Nat) (s : State) : (advance k s).sched.offered = s.sched.offered := rfl
@[simp] theorem advance_travelCommand (k : Nat) (s : State) : (advance k s).travel.command = s.travel.command := rfl

theorem advance_zone (k : Nat) (s : State) : (advance k s).tracker.zone = s.tracker.zone := rfl

theorem advance_peer (k : Nat) (s : State) (n : StationNo) :
    (advance k s).peer n = (s.peer n).map (Peer.pass k) := by
  simp only [State.peer, advance, State.setPeers_peers, State.setSched_peers, List.find?_map]
  rfl

/-! ## The end of a command -/

theorem settle_next (old new : State) : settle old new = .next (settled old new) := rfl

theorem settled_of_same {old new : State} (h : sameFields old new = true) : settled old new = new := by
  simp [settled, h]

/-- With no BEACON to rebuild a refresh is at most noted, for the BEACON under attempt. -/
theorem refreshBeacon_of_not {s : State} (h : s.refreshable = false) :
    refreshBeacon s = s.setSched (s.sched.noteRefresh s.line.attempt.isSome) := by
  simp [refreshBeacon, h]

/-- A settled command's state is the state it reached, or that with a refresh noted, or with its waiting beacons rebuilt
besides. -/
theorem settled_cases (old new : State) :
    settled old new = new ∨ settled old new = new.setSched (new.sched.noteRefresh new.line.attempt.isSome) ∨
    (new.refreshable = true ∧ settled old new =
      markCarried (new.setSched
        ((new.sched.noteRefresh new.line.attempt.isSome).rebuilt (beaconFrame new) new.line.attempt.isSome))) := by
  unfold settled refreshBeacon
  split
  · exact .inl rfl
  · dsimp only
    split
    · exact .inr (.inr ⟨‹_›, rfl⟩)
    · exact .inr (.inl rfl)

/-! ## Offers and attempts -/

theorem tryBegin_of_not {s : State} (h : s.mayBegin = false) : tryBegin s = s := by simp [tryBegin, h]

theorem mayBegin_iff (s : State) :
    s.mayBegin = true ↔ s.onLine = true ∧ s.line.idle = true ∧ s.line.attempt = none := by
  simp [State.mayBegin, and_assoc]

/-- `tryBegin` does nothing, or makes an offer where none was and drives it. -/
theorem tryBegin_cases (s : State) :
    tryBegin s = s ∨ (s.mayBegin = true ∧
      tryBegin s = (s.setSched (if s.sched.offered.isNone then chosen s else s.sched)).setLine
        (s.line.begun (if s.sched.offered.isNone then chosen s else s.sched).offered)) := by
  unfold tryBegin
  split
  · exact .inr ⟨‹_›, rfl⟩
  · exact .inl rfl

theorem handReport_offLine {f : Frame} {s : State} (h : s.onLine = false) : handReport f s = s := by
  simp [handReport, State.dropsReport, placeReport, h]

theorem handSlice_offLine {f : Frame} {s : State} (h : s.onLine = false) : handSlice f s = s := by
  simp [handSlice, h]

theorem handAbort_offLine {f : Frame} {s : State} (h : s.onLine = false) : handAbort f s = s := by
  simp [handAbort, h]

theorem placeBeacon_offLine {f : Frame} {s : State} (h : s.onLine = false) : placeBeacon f s = s := by
  simp [placeBeacon, h]

/-- A hand-over to the REPORT queue: discarded off the line, taken where there is room, else dropped and reported. -/
theorem handReport_cases (f : Frame) (s : State) :
    (s.onLine = false ∧ handReport f s = s) ∨
    (s.sched.reportOccupancy < Config.reportCapacity ∧ handReport f s = pushReport f s) ∨
    (Config.reportCapacity ≤ s.sched.reportOccupancy ∧
      handReport f s = reportOverflow (capturedHeader f) (countDrop s)) := by
  cases h : s.onLine with
  | false => exact .inl ⟨rfl, handReport_offLine h⟩
  | true =>
    by_cases k : s.sched.reportOccupancy < Config.reportCapacity
    · exact .inr (.inl ⟨k, by simp [handReport, State.dropsReport, placeReport, h, k, Nat.not_le.mpr k]⟩)
    · exact .inr (.inr ⟨by omega, by simp [handReport, State.dropsReport, placeReport, h, k, Nat.not_lt.mp k]⟩)

/-- A hand-over to the SLICE queue, in the same three ways. -/
theorem handSlice_cases (f : Frame) (s : State) :
    (s.onLine = false ∧ handSlice f s = s) ∨
    (s.sched.sliceOccupancy < Config.sliceCapacity ∧ handSlice f s = pushSlice f s) ∨
    (Config.sliceCapacity ≤ s.sched.sliceOccupancy ∧
      handSlice f s = reportOverflow (capturedHeader f) (countDrop s)) := by
  unfold handSlice
  split
  · exact .inl ⟨‹_›, rfl⟩
  · split
    · exact .inr (.inl ⟨‹_›, rfl⟩)
    · exact .inr (.inr ⟨by omega, rfl⟩)

/-! ## Reports -/

theorem latchable_iff (s : State) (k : FaultKind) :
    s.latchable k = true ↔ s.isMasked k = false ∧ s.isLatched k = false := by simp [State.latchable]

theorem report_of_not {r : Report} {s : State} (h : s.latchable r.kind = false) : report r s = s := by
  simp [report, h]

/-- A report that is taken: its four things, and then TX_OVERFLOW where its notice was dropped. -/
theorem report_of {r : Report} {s : State} (h : s.latchable r.kind = true) :
    report r s = if s.dropsReport then
        reportOverflow (capturedHeader (faultNoticeFrame s r.kind r.related false)) (takeReport r s)
      else takeReport r s := by
  simp [report, h]

/-- Off the line a report only latches and fills the record, but for what a fatal kind does there. -/
theorem report_offLine {r : Report} {s : State} (h : s.latchable r.kind = true) (g : s.onLine = false) :
    report r s = tellCycle r.kind (latch r s) := by
  have k : (latch r s).onLine = false := by simpa [State.onLine] using g
  simp [report, h, State.dropsReport, g, takeReport, placeReport, k]

/-- With room in the REPORT queue a report is its four things, the notice taken. -/
theorem report_of_room {r : Report} {s : State} (h : s.latchable r.kind = true) (g : s.onLine = true)
    (k : s.sched.reportOccupancy < Config.reportCapacity) :
    report r s = tellCycle r.kind (pushReport (faultNoticeFrame s r.kind r.related false) (latch r s)) := by
  have l : (latch r s).onLine = true := by simpa [State.onLine] using g
  simp [report, h, State.dropsReport, g, Nat.not_le.mpr k, takeReport, placeReport, l, k]

theorem tellCycle_of_not {k : FaultKind} {s : State} (h : s.isFatal k = false) : tellCycle k s = s := by
  simp [tellCycle, h]

theorem actOnFatal_offLine {k : FaultKind} {s : State} (h : s.onLine = false) : actOnFatal k s = s := by
  unfold actOnFatal
  unfold State.onLine at h
  cases hs : s.cycle.state <;> simp_all

/-- The latch of a report is set, the others are as before. -/
theorem latch_isLatched (r : Report) (s : State) (k : FaultKind) :
    (latch r s).isLatched k = (s.isLatched k || decide (r.kind = k)) := by
  have h : ∀ a b : FaultKind, (latchBit a).getLsbD (faultCode b) = decide (a = b) := by
    intro a b; cases a <;> cases b <;> decide
  simp [latch, State.isLatched, h]

/-! ## Entry to ABORTED and to SILENT -/

@[simp] theorem enterAborted_state (c : AbortCause) (s : State) : (enterAborted c s).cycle.state = .aborted := by
  unfold enterAborted; split <;> simp [markAborted]

@[simp] theorem enterAborted_number (c : AbortCause) (s : State) :
    (enterAborted c s).cycle.number = s.cycle.number := by
  unfold enterAborted; split <;> simp [markAborted]

@[simp] theorem enterAborted_roster (c : AbortCause) (s : State) :
    (enterAborted c s).cycle.roster = s.cycle.roster := by
  unfold enterAborted; split <;> simp [markAborted]

@[simp] theorem enterAborted_cause (c : AbortCause) (s : State) : (enterAborted c s).fault.cause = some c := by
  unfold enterAborted; split <;> simp [markAborted]

@[simp] theorem enterSilent_state (k : FaultKind) (s : State) : (enterSilent k s).cycle.state = .silent := by
  unfold enterSilent; split
  · simp [markSilent]
  · split <;> simp [markSilent]

@[simp] theorem enterSilent_sched (k : FaultKind) (s : State) : (enterSilent k s).sched = s.sched.silenced := by
  unfold enterSilent; split
  · simp [markSilent]
  · split <;> simp [markSilent]

@[simp] theorem enterSilent_attempt (k : FaultKind) (s : State) : (enterSilent k s).line.attempt = none := by
  unfold enterSilent; split
  · simp [markSilent]
  · split <;> simp [markSilent]

/-! ## SPRAY within the limit of the state -/

theorem limitSpray_of_ne_done {state : StationState} (h : state ≠ .done) (q : Quench) : limitSpray state q = q := if_neg h

@[simp] theorem limitSpray_done (q : Quench) : limitSpray .done q = q.closeSpray := rfl

/-- Apart from SPRAY and its open time nothing is touched. -/
theorem limitSpray_cases (state : StationState) (q : Quench) :
    (state ≠ .done ∧ limitSpray state q = q) ∨
    (state = .done ∧ limitSpray state q = { q with spray := false, openTime := none }) := by
  unfold limitSpray; split
  · exact .inr ⟨‹_›, rfl⟩
  · exact .inl ⟨‹_›, rfl⟩

/-! ## The Peer Table's list -/

theorem putPeer_find (p : Peer) (l : List Peer) (h : l.Pairwise fun a b => a.number < b.number) (n : StationNo) :
    (putPeer p l).find? (·.number == n) = if p.number = n then some p else l.find? (·.number == n) := by
  induction l with
  | nil => by_cases k : p.number = n <;> simp [putPeer, k]
  | cons q rest ih =>
    rw [List.pairwise_cons] at h
    unfold putPeer
    split
    · by_cases k : p.number = n <;> simp [k]
    · split
      · rename_i e
        by_cases k : p.number = n
        · simp [k]
        · have : ¬ q.number = n := fun c => k (e.trans c)
          simp [k, this]
      · rename_i e
        by_cases k : q.number = n
        · have : ¬ p.number = n := fun c => e (c.trans k.symm)
          simp [k, this]
        · simp [k, ih h.2]

theorem putPeer_mem {p q : Peer} {l : List Peer} (h : q ∈ putPeer p l) : q = p ∨ q ∈ l := by
  induction l with
  | nil => simpa [putPeer] using h
  | cons a rest ih =>
    unfold putPeer at h
    split at h
    · simpa using h
    · split at h
      · rcases List.mem_cons.1 h with k | k
        · exact .inl k
        · exact .inr (List.mem_cons_of_mem _ k)
      · rcases List.mem_cons.1 h with k | k
        · exact .inr (by simp [k])
        · rcases ih k with j | j
          · exact .inl j
          · exact .inr (List.mem_cons_of_mem _ j)

theorem putPeer_sorted {p : Peer} {l : List Peer} (h : l.Pairwise fun a b => a.number < b.number) :
    (putPeer p l).Pairwise fun a b => a.number < b.number := by
  induction l with
  | nil => simp [putPeer]
  | cons q rest ih =>
    have g := List.pairwise_cons.1 h
    unfold putPeer
    split
    · rename_i k
      refine List.pairwise_cons.2 ⟨fun b hb => ?_, h⟩
      rcases List.mem_cons.1 hb with e | e
      · exact e ▸ k
      · exact BitVec.lt_trans k (g.1 b e)
    · split
      · rename_i k
        exact List.pairwise_cons.2 ⟨fun b hb => k ▸ g.1 b hb, g.2⟩
      · rename_i j k
        refine List.pairwise_cons.2 ⟨fun b hb => ?_, ih g.2⟩
        rcases putPeer_mem hb with e | e
        · subst e; bv_omega
        · exact g.1 b e

/-! ## The pending quench list -/

theorem insertEntry_mem {x y : Entry} {l : List Entry} : y ∈ insertEntry x l ↔ y = x ∨ y ∈ l := by
  induction l with
  | nil => simp [insertEntry]
  | cons a rest ih =>
    unfold insertEntry
    split
    · simp
    · simp [ih]; tauto

theorem insertEntry_length (x : Entry) (l : List Entry) : (insertEntry x l).length = l.length + 1 := by
  induction l with
  | nil => rfl
  | cons a rest ih => unfold insertEntry; split <;> simp [ih]

theorem insertEntry_sorted {x : Entry} {l : List Entry} (h : l.Pairwise fun a b => a.slice < b.slice)
    (n : ∀ e ∈ l, e.slice ≠ x.slice) : (insertEntry x l).Pairwise fun a b => a.slice < b.slice := by
  induction l with
  | nil => simp [insertEntry]
  | cons a rest ih =>
    have g := List.pairwise_cons.1 h
    have na := n a (List.mem_cons_self ..)
    unfold insertEntry
    split
    · rename_i k
      refine List.pairwise_cons.2 ⟨fun b hb => ?_, h⟩
      rcases List.mem_cons.1 hb with e | e
      · subst e; omega
      · have := g.1 b e; omega
    · rename_i k
      refine List.pairwise_cons.2 ⟨fun b hb => ?_, ih g.2 fun e he => n e (List.mem_cons_of_mem _ he)⟩
      rcases insertEntry_mem.1 hb with e | e
      · subst e; omega
      · exact g.1 b e

theorem removeEntry_sorted {k : Nat} {l : List Entry} (h : l.Pairwise fun a b => a.slice < b.slice) :
    (removeEntry k l).Pairwise fun a b => a.slice < b.slice := h.sublist (List.eraseP_sublist ..)

/-! ## Reception -/

theorem hear_of_not {act : State → State} {s : State} (h : s.line.hears = false) : hear act s = s := by
  simp [hear, h]

theorem hear_of {act : State → State} {s : State} (h : s.line.hears = true) : hear act s = act (endReception s) := by
  simp [hear, h]

/-- A whole frame that arrives is acted on, after its sender's receipt unless it is a JOIN or BEACON. -/
theorem receive_of_accepted {k : Kind} {f : Rx} {act : State → State} {s : State} (g : rxGood k f = true)
    (o : s.ownNumber ≠ some f.source) (a : s.accepts k f = true) (h : s.line.hears = true) :
    receive k f act s =
      if k = .beacon ∨ k = .join then act (endReception s) else act (receipt f.source (endReception s)) := by
  have o' : (endReception s).ownNumber ≠ some f.source := o
  have a' : (endReception s).accepts k f = true := a
  simp [receive, hear_of h, g, o', a']

/-- A whole frame of another number that is not accepted leaves only its sender's receipt. -/
theorem receive_of_not_accepted {k : Kind} {f : Rx} {act : State → State} {s : State} (g : rxGood k f = true)
    (o : s.ownNumber ≠ some f.source) (a : s.accepts k f = false) (h : s.line.hears = true) :
    receive k f act s = receipt f.source (endReception s) := by
  have o' : (endReception s).ownNumber ≠ some f.source := o
  have a' : (endReception s).accepts k f = false := a
  simp [receive, hear_of h, g, o', a']

end Sys2Proof.Machine
end

