-- ==== Sys2Proof/WellFormed.lean ====
section
/-! DEFINITION. Well-formed commands: operands the line, the pins and the configuration memory can give. -/

namespace Sys2Proof

/-- The number is one a peer can have: 1..14 (R132). -/
def isPeerNumber (n : StationNo) : Bool := n != 0 && n != 15

/-- A command whose operands its event can give. A frame row names a frame that passed the six checks of R155, so it has
the kind's form and size; the memory answers at most 64 words (R177); a staleness timer belongs to a peer's number
(R132). -/
def WellFormed : Instr → Bool
  | .powerOnReset _ _ _ => true
  | .configurationLoad _ memory => decide (memory.length ≤ 64)
  | .positionUpdate _ => true
  | .encoderEdge _ _ _ => true
  | .homeCapture _ => true
  | .coastTimerExpiry _ => true
  | .powerControlStep _ _ => true
  | .feedbackWord _ _ _ => true
  | .travelControlStep _ => true
  | .stepToggle _ => true
  | .tachPulse _ => true
  | .tachWindowEnd _ => true
  | .quenchControlStep _ => true
  | .soakExpiry _ => true
  | .pulsePhaseExpiry _ => true
  | .flowPulse _ => true
  | .flowWindowEnd _ => true
  | .floodTimerExpiry _ => true
  | .actFaultActive _ => true
  | .actReadyInactive _ => true
  | .actuatorInputRecovery _ _ => true
  | .interlockSample _ _ => true
  | .abort _ f => Machine.rxGood .abort f
  | .arm _ f => Machine.rxGood .arm f
  | .cycleStart _ f => Machine.rxGood .cycleStart f
  | .startTimerExpiry _ => true
  | .cycleEnd _ f => Machine.rxGood .cycleEnd f
  | .clear _ f => Machine.rxGood .clear f
  | .stationReset _ f => Machine.rxGood .stationReset f
  | .recipeHeader _ f => Machine.rxGood .recipeHeader f
  | .segment _ f => Machine.rxGood .segment f
  | .commit _ f => Machine.rxGood .commit f
  | .position _ f => Machine.rxGood .position f
  | .faultQuery _ f => Machine.rxGood .faultQuery f
  | .beacon _ f => Machine.rxGood .beacon f
  | .join _ f => Machine.rxGood .join f
  | .sliceNotice _ f => Machine.rxGood .sliceNotice f
  | .frameNotAccepted _ k f => Machine.rxGood k f
  | .discardedFrame _ _ => true
  | .duplicateFrame _ _ => true
  | .lineIdle _ => true
  | .sentWhole _ => true
  | .lostContention _ => true
  | .abandoned _ => true
  | .beaconTimerExpiry _ => true
  | .joinTimerExpiry _ => true
  | .joinWindowEnd _ => true
  | .stalenessTimerExpiry _ peer => isPeerNumber peer
  | .receptionStart _ => true

end Sys2Proof
end

