-- ==== Sys2Proof/Laws/PerInstr.lean ====
section
/-! SUPPORT. A family of laws, one for each command: the time before a command is an operand of its own, which neither its
other operands nor its well-formedness look at. -/

namespace Sys2Proof.Laws.Timed

/-- A command's ticks can be any number, and change neither its well-formedness nor, put back, the command. -/
def Statement (i : Instr) : Prop :=
  ∀ k, (i.after k).ticks = k ∧ WellFormed (i.after k) = WellFormed i ∧ (i.after k).after i.ticks = i

theorem powerOnReset (ticks : Nat) (stn : StationNo) (roleCode : BitVec 2) : Statement (.powerOnReset ticks stn roleCode) := fun _ => ⟨rfl, rfl, rfl⟩
theorem configurationLoad (ticks : Nat) (memory : List Word) : Statement (.configurationLoad ticks memory) := fun _ => ⟨rfl, rfl, rfl⟩
theorem positionUpdate (ticks : Nat) : Statement (.positionUpdate ticks) := fun _ => ⟨rfl, rfl, rfl⟩
theorem encoderEdge (ticks : Nat) (rising : Bool) (encB : Bool) : Statement (.encoderEdge ticks rising encB) := fun _ => ⟨rfl, rfl, rfl⟩
theorem homeCapture (ticks : Nat) : Statement (.homeCapture ticks) := fun _ => ⟨rfl, rfl, rfl⟩
theorem coastTimerExpiry (ticks : Nat) : Statement (.coastTimerExpiry ticks) := fun _ => ⟨rfl, rfl, rfl⟩
theorem powerControlStep (ticks : Nat) (limit : Bool) : Statement (.powerControlStep ticks limit) := fun _ => ⟨rfl, rfl, rfl⟩
theorem feedbackWord (ticks : Nat) (value : Nat) (good : Bool) : Statement (.feedbackWord ticks value good) := fun _ => ⟨rfl, rfl, rfl⟩
theorem travelControlStep (ticks : Nat) : Statement (.travelControlStep ticks) := fun _ => ⟨rfl, rfl, rfl⟩
theorem stepToggle (ticks : Nat) : Statement (.stepToggle ticks) := fun _ => ⟨rfl, rfl, rfl⟩
theorem tachPulse (ticks : Nat) : Statement (.tachPulse ticks) := fun _ => ⟨rfl, rfl, rfl⟩
theorem tachWindowEnd (ticks : Nat) : Statement (.tachWindowEnd ticks) := fun _ => ⟨rfl, rfl, rfl⟩
theorem quenchControlStep (ticks : Nat) : Statement (.quenchControlStep ticks) := fun _ => ⟨rfl, rfl, rfl⟩
theorem soakExpiry (ticks : Nat) : Statement (.soakExpiry ticks) := fun _ => ⟨rfl, rfl, rfl⟩
theorem pulsePhaseExpiry (ticks : Nat) : Statement (.pulsePhaseExpiry ticks) := fun _ => ⟨rfl, rfl, rfl⟩
theorem flowPulse (ticks : Nat) : Statement (.flowPulse ticks) := fun _ => ⟨rfl, rfl, rfl⟩
theorem flowWindowEnd (ticks : Nat) : Statement (.flowWindowEnd ticks) := fun _ => ⟨rfl, rfl, rfl⟩
theorem floodTimerExpiry (ticks : Nat) : Statement (.floodTimerExpiry ticks) := fun _ => ⟨rfl, rfl, rfl⟩
theorem actFaultActive (ticks : Nat) : Statement (.actFaultActive ticks) := fun _ => ⟨rfl, rfl, rfl⟩
theorem actReadyInactive (ticks : Nat) : Statement (.actReadyInactive ticks) := fun _ => ⟨rfl, rfl, rfl⟩
theorem actuatorInputRecovery (ticks : Nat) (input : ActuatorInput) : Statement (.actuatorInputRecovery ticks input) := fun _ => ⟨rfl, rfl, rfl⟩
theorem interlockSample (ticks : Nat) (pins : Marks8) : Statement (.interlockSample ticks pins) := fun _ => ⟨rfl, rfl, rfl⟩
theorem abort (ticks : Nat) (frame : Rx) : Statement (.abort ticks frame) := fun _ => ⟨rfl, rfl, rfl⟩
theorem arm (ticks : Nat) (frame : Rx) : Statement (.arm ticks frame) := fun _ => ⟨rfl, rfl, rfl⟩
theorem cycleStart (ticks : Nat) (frame : Rx) : Statement (.cycleStart ticks frame) := fun _ => ⟨rfl, rfl, rfl⟩
theorem startTimerExpiry (ticks : Nat) : Statement (.startTimerExpiry ticks) := fun _ => ⟨rfl, rfl, rfl⟩
theorem cycleEnd (ticks : Nat) (frame : Rx) : Statement (.cycleEnd ticks frame) := fun _ => ⟨rfl, rfl, rfl⟩
theorem clear (ticks : Nat) (frame : Rx) : Statement (.clear ticks frame) := fun _ => ⟨rfl, rfl, rfl⟩
theorem stationReset (ticks : Nat) (frame : Rx) : Statement (.stationReset ticks frame) := fun _ => ⟨rfl, rfl, rfl⟩
theorem recipeHeader (ticks : Nat) (frame : Rx) : Statement (.recipeHeader ticks frame) := fun _ => ⟨rfl, rfl, rfl⟩
theorem segment (ticks : Nat) (frame : Rx) : Statement (.segment ticks frame) := fun _ => ⟨rfl, rfl, rfl⟩
theorem commit (ticks : Nat) (frame : Rx) : Statement (.commit ticks frame) := fun _ => ⟨rfl, rfl, rfl⟩
theorem position (ticks : Nat) (frame : Rx) : Statement (.position ticks frame) := fun _ => ⟨rfl, rfl, rfl⟩
theorem faultQuery (ticks : Nat) (frame : Rx) : Statement (.faultQuery ticks frame) := fun _ => ⟨rfl, rfl, rfl⟩
theorem beacon (ticks : Nat) (frame : Rx) : Statement (.beacon ticks frame) := fun _ => ⟨rfl, rfl, rfl⟩
theorem join (ticks : Nat) (frame : Rx) : Statement (.join ticks frame) := fun _ => ⟨rfl, rfl, rfl⟩
theorem sliceNotice (ticks : Nat) (frame : Rx) : Statement (.sliceNotice ticks frame) := fun _ => ⟨rfl, rfl, rfl⟩
theorem frameNotAccepted (ticks : Nat) (kind : Kind) (frame : Rx) : Statement (.frameNotAccepted ticks kind frame) := fun _ => ⟨rfl, rfl, rfl⟩
theorem discardedFrame (ticks : Nat) (failed : RxCheck) : Statement (.discardedFrame ticks failed) := fun _ => ⟨rfl, rfl, rfl⟩
theorem duplicateFrame (ticks : Nat) (kind : Kind) : Statement (.duplicateFrame ticks kind) := fun _ => ⟨rfl, rfl, rfl⟩
theorem lineIdle (ticks : Nat) : Statement (.lineIdle ticks) := fun _ => ⟨rfl, rfl, rfl⟩
theorem sentWhole (ticks : Nat) : Statement (.sentWhole ticks) := fun _ => ⟨rfl, rfl, rfl⟩
theorem lostContention (ticks : Nat) : Statement (.lostContention ticks) := fun _ => ⟨rfl, rfl, rfl⟩
theorem abandoned (ticks : Nat) : Statement (.abandoned ticks) := fun _ => ⟨rfl, rfl, rfl⟩
theorem beaconTimerExpiry (ticks : Nat) : Statement (.beaconTimerExpiry ticks) := fun _ => ⟨rfl, rfl, rfl⟩
theorem joinTimerExpiry (ticks : Nat) : Statement (.joinTimerExpiry ticks) := fun _ => ⟨rfl, rfl, rfl⟩
theorem joinWindowEnd (ticks : Nat) : Statement (.joinWindowEnd ticks) := fun _ => ⟨rfl, rfl, rfl⟩
theorem stalenessTimerExpiry (ticks : Nat) (peer : StationNo) : Statement (.stalenessTimerExpiry ticks peer) := fun _ => ⟨rfl, rfl, rfl⟩
theorem receptionStart (ticks : Nat) : Statement (.receptionStart ticks) := fun _ => ⟨rfl, rfl, rfl⟩

end Sys2Proof.Laws.Timed
end

