-- ==== Sys2Proof/Tests/Slice0.lean ====
section
/-! SUPPORT. The model's own tests: ill-formed commands refused, worked examples of the spec, and, for each statement's
hypotheses, a state and operands that meet them (witness_…). -/

namespace Sys2Proof.Tests

open Sys2Proof.Machine

/-! ## Helpers -/

/-- A word. -/
def w (n : Nat) : Word := BitVec.ofNat 16 n

/-- A received frame. -/
def rx (source : Nat) (words : List Nat) : Rx :=
  { source := BitVec.ofNat 4 source, destination := 15, words := words.map w }

/-- Settings of a small cell. -/
def someSettings : Settings :=
  { Settings.beforeLoad with
    beaconPeriod := 20, stalenessLimit := 10, coastLimit := 6, startTimeout := 500, toolOffset := 2400, stage := 2
    ratedPower := 2500, rampLimit := 50, ratedSpeed := 2000, acceleration := 20, abortDecel := 100, umPerCount := 3
    homePosition := 1000, tachPulses := 60, flowMinimum := 40, settleTime := 300, soakTime := 1400, floodTime := 3000 }

/-- A peer that is LIVE in cycle 17. -/
def peerOf (n : Nat) (r : Role) (st : StationState) : Peer :=
  { number := BitVec.ofNat 4 n, role := r, stage := if r = .power then some 1 else none
    toolOffset := some 9000, joinOffset := some 9000, state := st, cycle := 17, recipe := 812, live := true
    awaitsBeacon := false, lastFrame := 0, lastBeacon := some 0, summary := ⟨false, false, false⟩, data := none, stale := some 0 }

/-- The code of a role, as strapped. -/
def strapOf : Role → BitVec 2
  | .travel => 1
  | .power => 2
  | .quench => 3

/-- Station 4, with the role, in the state; number and roster of cycle 17 where a cycle has been entered. -/
def station (r : Role) (st : StationState) : State :=
  let out := st = .offline ∨ st = .joining ∨ st = .idle ∨ st = .armed
  { State.reset with
    loader := { number := 4, roleCode := strapOf r, image := [], status := .good }
    settings := someSettings
    pins := { State.reset.pins with actReady := true }
    line := { State.reset.line with rx := .receiving }
    cycle := { Cycle.powerOn with
      state := st, number := if out then 0 else 17, roster := if out then 0 else 0x0212 } }

/-- The active copy of the worked examples: scan UP from 1000 to 241 000 in slices of 500. -/
def upCopy (fields : RoleFields) : ActiveCopy :=
  { header := { recipe := 812, direction := .up, scanStart := 1000, scanEnd := 241000, sliceLength := 500
                travelStart := 500, travelEnd := 250000, spindle := 300, segmentCount := 1 }
    segments := [{ index := 0, start := 0, stop := 300000, blend := 0, fields := fields }] }

/-- Quench fields with limits. -/
def someQuench (mode : Nat) : QuenchFields :=
  { mode := mode, onTime := 250, offTime := 250, delayMin := 0, delayMax := 5000, energyLow := 100, energyHigh := 30000 }

/-- A station with the active copy, its tool in slice 85. -/
def scanning (r : Role) (fields : RoleFields) : State :=
  let s := station r .scanning
  { s with
    store := { s.store with active := some (upCopy fields) }
    tracker := { s.tracker with tool := 43655, estimate := 41255, held := 41255, raw := 41255, zone := .inside 85
                                sliceCount := 480 } }

/-- The state after a command. -/
def after (c : Instr) (s : State) : State :=
  match exec c s with
  | .next t => t
  | _ => s

/-! ## Well-formedness -/

theorem test_memory_of_65_words_refused : WellFormed (.configurationLoad 0 (List.replicate 65 0)) = false := by decide
theorem test_memory_of_64_words_taken : WellFormed (.configurationLoad 0 (List.replicate 64 0)) = true := by decide
theorem test_abort_of_two_words_refused : WellFormed (.abort 0 (rx 0 [17, 0])) = false := by decide
theorem test_frame_from_15_refused : WellFormed (.arm 0 (rx 15 [0])) = false := by decide
theorem test_beacon_without_role_refused : WellFormed (.beacon 0 (rx 1 [0x0800, 0, 0, 0, 0, 0, 0, 0])) = false := by decide
theorem test_beacon_in_joining_refused : WellFormed (.beacon 0 (rx 1 [0x4400, 0, 0, 0, 0, 0, 0, 0])) = false := by decide
theorem test_travel_beacon_of_11_words_refused :
    WellFormed (.beacon 0 (rx 1 [0x4800, 0, 0, 0, 0, 0, 0, 0, 0, 0, 0])) = false := by decide
theorem test_travel_beacon_taken : WellFormed (.beacon 0 (rx 1 [0x4800, 0, 0, 0, 0, 0, 0, 0])) = true := by decide
theorem test_segment_without_role_refused : WellFormed (.segment 0 (rx 0 [0, 0, 0, 0, 0, 0, 0])) = false := by decide
theorem test_staleness_of_number_0_refused : WellFormed (.stalenessTimerExpiry 0 0) = false := by decide
theorem test_staleness_of_number_15_refused : WellFormed (.stalenessTimerExpiry 0 15) = false := by decide

/-! ## Worked examples -/

/-- R4: −7 counts at 3 µm per count. -/
theorem test_carriage_truncates_toward_zero : carriagePosition someSettings (-7) = 998 := by decide

/-- R6: 120 counts of 1 µm gained in 10 ms. -/
theorem test_measured_speed : measuredSpeed .up 1 [120, 0, 0, 0, 0, 0, 0, 0, 0, 0] = 1200 := by decide

/-- R9: 4000 µs after a beacon of 41 250 at 1388, UP; DOWN is the other test. -/
theorem test_dead_reckoning_up :
    reckoned { station .power .idle with
      clock := { time := 4000, sub := 0 }
      tracker := { Tracker.powerOn with coastExpired := false, last := some ⟨41250, 1388, 0⟩ } } = 41255 := by decide

/-- R13: offset −150 000 and estimate 100 000. -/
theorem test_tool_position_clamped : toolPosition 100000 (-150000) = 0 := by decide

/-- R14: a scan length that is no multiple of the slice length. -/
theorem test_slice_count_rounds_up :
    sliceCountOf { (upCopy (.travel 0)).header with scanEnd := 240800 } = 480 := by decide

/-- R15: T = 43 655. -/
theorem test_zone_up : zoneOf (upCopy (.travel 0)).header 43655 = .inside 85 := by decide

/-- R15: scan DOWN from 241 000 to 1000, T = 240 499, and T = 999. -/
theorem test_zone_down :
    let h := { (upCopy (.travel 0)).header with direction := .down, scanStart := 241000, scanEnd := 1000 }
    zoneOf h 240499 = .inside 1 ∧ zoneOf h 1000 = .inside 479 ∧ zoneOf h 999 = .past := by decide

/-- R74: E = 18 000 and v_c = 1300. -/
theorem test_power_formula : powerFormula 18000 1300 = 2340 := by decide

/-- R79: P_avail = 2500 and E = 18 000. -/
theorem test_power_ceiling : powerCeiling false true 18000 2500 = 1388 := by decide

/-- R76: ramp limit 50 from 2000 toward 2340, and at once down. -/
theorem test_ramp_limits_rises_only : rampPower 50 2340 2000 = 2050 ∧ rampPower 50 2000 2340 = 2000 := by decide

/-- R82, the worked sequence: 1 234 567 over slices 85, 86 and 87. -/
theorem test_shares : sharesOf 1234567 [85, 86, 87] = [(85, 411523), (86, 411522), (87, 411522)] := by decide

/-- R83: a share of 899 280, and one that saturates. -/
theorem test_slice_energy : sliceEnergy 899280 = 899 ∧ sliceEnergy 70000000 = 65535 := by decide

/-- R96: rows of the table. -/
theorem test_generator_table :
    generatorLoad 5000 = some (1, 199) ∧ generatorLoad 1388 = some (1, 719) ∧ generatorLoad 1300 = some (1, 768) ∧
    generatorLoad 100 = some (1, 9999) ∧ generatorLoad 15 = some (2, 33332) ∧ generatorLoad 1 = some (16, 62499) := by
  decide

/-- R100: stopping speeds at a = 20. -/
theorem test_stopping_speed :
    stoppingSpeed 20 56 = 1496 ∧ stoppingSpeed 20 25 = 1000 ∧ stoppingSpeed 20 4 = 400 ∧ stoppingSpeed 20 2000 = 8944 := by
  decide

/-- R103: 60 pulses per revolution, target 300 rpm. -/
theorem test_spindle_band :
    nearTarget (rpmOf 29 60) 300 = true ∧ nearTarget (rpmOf 31 60) 300 = true ∧
    nearTarget (rpmOf 28 60) 300 = false ∧ nearTarget (rpmOf 32 60) 300 = false := by decide

/-- R118: energies 499 and 899 with slice length 500. -/
theorem test_judged_energy : judgedEnergy 500 [(1, 499), (2, 899)] = 27960 := by decide

/-- R128: offsets −3600, 2400 and 9000; slice length 500 and 200. -/
theorem test_required_depth :
    requiredDepth 500 (offsetDistance (-3600) 9000) = 28 ∧ requiredDepth 200 (offsetDistance (-3600) 9000) = 65 := by
  decide

/-- R148: bit times from start bit to idle line. -/
theorem test_bit_times : bitTimes 0 = 55 ∧ bitTimes 4 = 127 ∧ bitTimes 8 = 199 ∧ bitTimes 12 = 271 := by decide

/-- R149: the header of CLEAR from station 0 to all: class 1, source 0, destination 15, kind 11, length 0. -/
theorem test_header_bits :
    headerBits { kind := .clear, source := 0, destination := 15, words := [] } =
      [false, false, false, true, false, false, false, false, true, true, true, true,
       false, false, true, false, true, true, false, false, false, false] := by decide

/-- R154, the worked sequence: station 4's notice against station 1's beacon at the fourth class bit. -/
theorem test_contention_lost :
    compareBits 0 [false, false, false, true, true] [false, false, false, true, false] = .lostContention := by decide

/-- R153: a dominant bit sent that is read recessive. -/
theorem test_dominant_read_recessive : compareBits 0 [false, false] [false, true] = .abandoned := by decide

/-- R173: station 14 with a period of 500 µs. -/
theorem test_stagger :
    staggerDelay { station .power .idle with
      loader := { number := 14, roleCode := 2, image := [], status := .good }
      settings := { someSettings with beaconPeriod := 5 } } = 437 := by decide

/-- R150: a SLICE NOTICE of stage 2 in cycle 17 for slice 85 after slice 84 with energy 899. -/
theorem test_notice_layout :
    noticeOf [0x0211, 85, 84, 899] = { stage := 2, cycle := 17, slice := 85, previous := some 84, energy := 899 } := by
  decide

/-! ## One step each -/

theorem test_feedback_clamped : (after (.feedbackWord 0 20000 true) (station .power .idle)).power.feedback = 10000 := by
  decide
theorem test_feedback_bad_check_discarded :
    (after (.feedbackWord 0 500 false) (station .power .idle)).power.feedback = 0 := by decide
theorem test_encoder_falling_inactive_subtracts :
    (after (.encoderEdge 0 false false) (station .travel .idle)).tracker.count = -1 := by decide
theorem test_encoder_rising_inactive_adds :
    (after (.encoderEdge 0 true false) (station .travel .idle)).tracker.count = 1 := by decide
theorem test_home_references : (after (.homeCapture 0) (station .travel .idle)).tracker.referenced = true := by decide
theorem test_home_outside_idle : (after (.homeCapture 0) (station .travel .armed)).tracker.referenced = false := by decide
theorem test_abort_0_from_cell_controller :
    (after (.abort 0 (rx 0 [0])) (station .power .scanning)).cycle.state = .aborted := by decide
theorem test_abort_0_from_station :
    (after (.abort 0 (rx 9 [0])) (station .power .scanning)).fault.abortSeen = 1 := by decide
theorem test_arm_unready : (after (.arm 0 (rx 0 [0])) (station .power .idle)).cycle.last = some (.arm, .refusedStaging) := by
  decide
theorem test_cycle_end_done : (after (.cycleEnd 0 (rx 0 [17])) (station .power .done)).cycle.state = .idle := by decide
theorem test_cycle_end_other_cycle :
    (after (.cycleEnd 0 (rx 0 [18])) (station .power .done)).cycle.last = some (.cycleEnd, .refusedState) := by decide
theorem test_clear_aborted : (after (.clear 0 (rx 0 [])) (station .power .aborted)).cycle.state = .idle := by decide
theorem test_reset_silent : (after (.stationReset 0 (rx 0 [])) (station .power .silent)).cycle.state = .joining := by decide
theorem test_position_too_fast :
    (after (.position 0 (rx 0 [0, 2000, 5001])) (station .travel .idle)).cycle.last = some (.position, .refusedRange) := by
  decide
theorem test_position_clamped_to_rated :
    (after (.position 0 (rx 0 [0, 2000, 2500])) (station .travel .idle)).travel.move = some ⟨2000, 2000, true⟩ := by decide
theorem test_discarded_frame_counts :
    (after (.discardedFrame 0 .crc) (station .power .idle)).line.rxErr = 1 := by decide
theorem test_duplicate_join_seen :
    (after (.duplicateFrame 0 .join) (station .power .idle)).line.dupSeen = true := by decide
theorem test_duplicate_beacon_silences :
    (after (.duplicateFrame 0 .beacon) (station .power .idle)).cycle.state = .silent := by decide

/-- A memory image with the given words, default severities and a last word that makes the sum 0. -/
def imageOf (fields : List (Nat × Nat)) : List Word :=
  let given := (23, 0x0FDF) :: fields
  (List.range 63).map (fun i => w ((given.lookup i).getD 0)) ++ [w (65536 - (given.map (·.2)).sum)]

/-- A configuration of a TRAVEL station. -/
def travelImage : List Word := imageOf [(10, 2000), (11, 20), (12, 100), (13, 10), (16, 60)]

/-- A TRAVEL station while its memory is read. -/
def loading : State := after (.powerOnReset 0 4 1) State.reset

theorem test_straps_begin_load : loading.loader.status = .loading := by decide
theorem test_load_good : (after (.configurationLoad 0 travelImage) loading).cycle.state = .joining := by decide
/-- What was on the line before the load is taken by nobody, and counted by nobody. -/
theorem test_load_discards_reception :
    let t := after (.configurationLoad 0 travelImage) { loading with line := { loading.line with rx := .receiving } }
    t.line.hears = false ∧ (after (.discardedFrame 0 .crc) t).line.rxErr = 0 := by decide
theorem test_load_default_period :
    (after (.configurationLoad 0 travelImage) loading).settings.beaconPeriod = 20 := by decide

/-! ## Witnesses: the machine and its invariants -/

/-- A QUENCH station in its scan with two entries and queued frames. -/
def busyQuench : State :=
  let s := scanning .quench (.quench (someQuench 1))
  { s with
    quench := { s.quench with
      entries := [{ freshEntry 86 with energies := [(1, 499)], tFirst := some 0 }, freshEntry 88], nCreated := 5
      nJudged := 3, spray := true }
    sched := { s.sched with
      offered := some ⟨sliceResultFrame s (untrackedResult 3), 3⟩, reportQ := [cycleSummaryFrame s] }
    pending := [.quenchControlStep 20000, .flowPulse 0] }

/-- The same with the attempt of its offer under way. -/
def drivingQuench : State :=
  busyQuench.setLine
    { busyQuench.line with attempt := busyQuench.sched.offered.map (·.frame), rx := .ownFrame, txErr := 31 }

/-- A POWER station with its command on, in its scan. -/
def heatingPower : State :=
  let s := scanning .power (.power true 18000)
  { s with
    power := { s.power with command := 2000, current := some 85, acc := 1234567, link := some 84 }
    tracker := { s.tracker with coastExpired := false, tracked := some 1, last := some ⟨41255, 1300, 0⟩ }
    peers := [peerOf 1 .travel .scanning, peerOf 9 .quench .scanning]
    pending := [.powerControlStep 0 false] }

/-- A TRAVEL station with a move in flight. -/
def movingTravel : State :=
  let s := station .travel .idle
  { s with
    travel := { s.travel with
      command := 1500, load := generatorLoad 1500, half := some 300, step := true, move := some ⟨12000, 1500, true⟩ }
    tracker := { s.tracker with estimate := 11944 }
    pending := [.travelControlStep 20000] }

theorem witness_front_command : busyQuench.pending = .quenchControlStep 20000 :: [.flowPulse 0] := rfl
theorem witness_empty_queue : State.reset.pending = [] := rfl
theorem witness_quench_list : QuenchListSafe busyQuench ∧ ∃ t, step busyQuench = .next t :=
  ⟨by unfold QuenchListSafe; decide, _, rfl⟩
theorem witness_queues : QueuesSafe busyQuench ∧ ∃ t, step busyQuench = .next t :=
  ⟨by unfold QueuesSafe; decide, _, rfl⟩
theorem witness_line : LineSafe drivingQuench ∧ drivingQuench.line.attempt ≠ none ∧ ∃ t, step drivingQuench = .next t :=
  ⟨by unfold LineSafe LoaderSafe; decide, by decide, _, rfl⟩
theorem witness_valves : ValvesSafe busyQuench ∧ ∃ t, step busyQuench = .next t :=
  ⟨by unfold ValvesSafe LoaderSafe; decide, _, rfl⟩
theorem witness_power : PowerSafe heatingPower ∧ heatingPower.power.command ≠ 0 ∧ ∃ t, step heatingPower = .next t :=
  ⟨by unfold PowerSafe LoaderSafe; decide, by decide, _, rfl⟩
theorem witness_cycle : CycleSafe heatingPower ∧ ∃ t, step heatingPower = .next t :=
  ⟨by unfold CycleSafe LoaderSafe; decide, _, rfl⟩
theorem witness_peers : PeersSafe heatingPower ∧ heatingPower.peers ≠ [] ∧ ∃ t, step heatingPower = .next t :=
  ⟨by unfold PeersSafe; decide, by decide, _, rfl⟩
theorem witness_travel : TravelSafe movingTravel ∧ ∃ t, step movingTravel = .next t :=
  ⟨by unfold TravelSafe LoaderSafe; decide, _, rfl⟩
theorem witness_block_not_written :
    (∃ t, exec (.powerControlStep 0 false) heatingPower = .next t) ∧ Block.peers ∉ mayWrite (.powerControlStep 0 false) :=
  ⟨⟨_, rfl⟩, by decide⟩
theorem witness_latches_stand :
    (∃ t, exec (.actFaultActive 5) heatingPower = .next t) ∧ (∀ k f, Instr.actFaultActive 5 ≠ .clear k f) ∧
      (∀ k f, Instr.actFaultActive 5 ≠ .stationReset k f) ∧ (∀ k a b, Instr.actFaultActive 5 ≠ .powerOnReset k a b) ∧
      (∀ k m, Instr.actFaultActive 5 ≠ .configurationLoad k m) :=
  ⟨⟨_, rfl⟩, by intros; simp, by intros; simp, by intros; simp, by intros; simp⟩
theorem witness_copies_stand :
    (∃ t, exec (.commit 5 (rx 0 [812, 0])) heatingPower = .next t) ∧
      (∀ k f, Instr.commit 5 (rx 0 [812, 0]) ≠ .arm k f) ∧
      (∀ k f, Instr.commit 5 (rx 0 [812, 0]) ≠ .stationReset k f) ∧
      (∀ k a b, Instr.commit 5 (rx 0 [812, 0]) ≠ .powerOnReset k a b) :=
  ⟨⟨_, rfl⟩, by intros; simp, by intros; simp, by intros; simp⟩

theorem test_dir_active_is_up :
    (station .travel .idle).dirOut = true ∧ (station .power .idle).dirOut = false ∧ State.reset.dirOut = false := by decide

/-! ## Witnesses: the Fault Unit -/

/-- A station with a kind masked. -/
def masked (k : FaultKind) (s : State) : State := s.setSettings { s.settings with mask := latchBit k }

/-- A station with a kind latched. -/
def latched (k : FaultKind) (s : State) : State := s.setFault { s.fault with latches := latchBit k }

theorem witness_report_masked : (masked .flowLow (station .quench .idle)).isMasked .flowLow = true := by decide
theorem witness_report_latched : (latched .flowLow (station .quench .idle)).isLatched .flowLow = true := by decide
theorem witness_report_off_line :
    let s := station .quench .silent
    s.isMasked .flowLow = false ∧ s.isLatched .flowLow = false ∧ s.onLine = false := by decide
theorem witness_report_waits :
    let s := station .quench .scanning
    s.isMasked .flowLow = false ∧ s.isLatched .flowLow = false ∧ ReportWaits s := by unfold ReportWaits; decide
/-- The REPORT queue full, TX_OVERFLOW clear, and latched. -/
theorem witness_report_full :
    let s := station .quench .scanning
    let full := s.setSched { s.sched with reportQ := List.replicate 16 (cycleSummaryFrame s) }
    full.isMasked .flowLow = false ∧ full.isLatched .flowLow = false ∧ full.onLine = true ∧
    16 ≤ full.sched.reportOccupancy ∧ full.latchable .txOverflow = true ∧ full.isFatal .txOverflow = false ∧
    (latched .txOverflow full).latchable .txOverflow = false ∧ (latched .txOverflow full).isLatched .flowLow = false := by
  decide
theorem witness_fatal :
    ∀ st ∈ [StationState.joining, .idle, .armed, .starting, .scanning, .done, .aborted, .silent, .offline],
      let s := station .quench st
      (s.isFatal .flowLow = true ∧ s.latchable .flowLow = true ∧ FaultKind.flowLow.silences = false) ∧
      (s.isFatal .lineOff = true ∧ s.latchable .lineOff = true ∧ FaultKind.lineOff.silences = true) ∧
      s.sched.reportOccupancy < Config.reportCapacity := by decide
/-- R188: two fatal kinds and a full REPORT queue; the first taken gives the record and the cause, the second is latched. -/
theorem test_first_report_decides :
    let s := station .quench .scanning
    let full := (s.setSched { s.sched with reportQ := List.replicate 16 (cycleSummaryFrame s) }).setSettings
      { s.settings with severity := 0xFFFF }
    let t := report ⟨.flowLow, none, none⟩ full
    full.isFatal .txOverflow = true ∧ t.fault.cause = some (.fault .flowLow) ∧ t.cycle.state = .aborted ∧
    t.fault.record.map (·.kind) = some .flowLow ∧ t.isLatched .txOverflow = true ∧ t.sched.dropCount = 2 ∧
    (report ⟨.lineOff, none, none⟩ full).sched.dropCount = 1 := by decide

/-! ## Witnesses: start-up and position -/

theorem witness_straps : (4 : StationNo) ≠ 0 ∧ (4 : StationNo) ≠ 15 ∧ (1 : BitVec 2) ≠ 0 := by decide
theorem witness_load_good :
    loading.loader.status = .loading ∧ loading.role = some .travel ∧ imageGood .travel (travelImage.take 64) = true ∧
    loading.sched = Sched.powerOn ∧ loading.line.attempt = none := by decide
theorem witness_load_roles :
    imageGood .power (imageOf [(7, 2), (8, 2500), (9, 50)]) = true ∧ imageGood .quench (imageOf [(21, 3000)]) = true := by
  decide
/-- Phase words of a table that holds every class, of one that lacks REPORT, and of one with a code 0. -/
theorem witness_load_phases :
    let good := fun a b : Nat => imageGood .quench (imageOf [(21, 3000), (28, a), (29, b)])
    good 0x6A7A 0x6A6B = true ∧ good 0x6A6A 0x6A6A = false ∧ good 0x6A7A 0 = false := by decide
theorem witness_load_bad :
    loading.loader.status = .loading ∧ loading.role = some .travel ∧ imageGood .travel [] = false ∧
    loading.cycle.state = .offline ∧ loading.isMasked .configBad = false := by decide
theorem witness_load_sum : (([1] : List Word).map (·.toNat)).sum % 65536 ≠ 0 := by decide
theorem witness_travel_tracker :
    (station .travel .idle).role = some .travel ∧ (station .travel .idle).cycle.state ≠ .offline ∧
    (station .power .idle).role ≠ some .travel ∧ (station .travel .armed).cycle.state ≠ .idle := by decide
theorem witness_tool_tracker :
    heatingPower.role = some .power ∧ heatingPower.cycle.state ≠ .offline ∧ heatingPower.inCycle = true ∧
    heatingPower.tracker.seedDue = false ∧ heatingPower.tracker.zone.isInside = true ∧
    heatingPower.tracker.last = some ⟨41255, 1300, 0⟩ ∧ (⟨41255, 1300, 0⟩ : TravelBeacon).position ≤ 300000 ∧
    busyQuench.role = some .quench := by decide
/-- The power leaves the zone at this update, and this one seeds. -/
theorem witness_tool_leaves_and_seeds :
    let s := heatingPower
    let out := s.setStore { s.store with active := some { upCopy (.power true 18000) with
      header := { (upCopy (.travel 0)).header with scanEnd := 2000 } } }
    let seed := s.setTracker { s.tracker with seedDue := true }
    (after (.positionUpdate 20000) out).tracker.zone.isInside = false ∧ out.tracker.zone.isInside = true ∧
    (after (.positionUpdate 0) s).tracker.zone = s.tracker.zone ∧
    seed.tracker.seedDue = true ∧ seed.inCycle = true ∧ (station .power .offline).cycle.state = .offline ∧
    (station .power .idle).tracker.last = none ∧ (station .power .idle).store.active = none := by decide
theorem witness_hold :
    heatingPower.cycle.state = .scanning ∧ heatingPower.tracker.seedDue = false ∧ heatingPower.direction = .up ∧
    heatingPower.tracker.tool = clampPosition (heatingPower.tracker.held + heatingPower.settings.toolOffset) := by decide
theorem witness_hold_down :
    let s := heatingPower.setStore { heatingPower.store with active := some { upCopy (.power true 18000) with
      header := { (upCopy (.travel 0)).header with direction := .down } } }
    s.cycle.state = .scanning ∧ s.tracker.seedDue = false ∧ s.direction = .down ∧
    s.tracker.tool = clampPosition (s.tracker.held + s.settings.toolOffset) := by decide
/-- T at the edges of each zone, UP. -/
theorem witness_zones_up :
    let h := (upCopy (.travel 0)).header
    h.direction = .up ∧ 999 < h.scanStart ∧ h.scanStart ≤ 1000 ∧ 1000 < h.scanEnd ∧ h.scanEnd ≤ 241000 ∧
    zoneOf h 999 = .before ∧ zoneOf h 1000 = .inside 0 ∧ zoneOf h 240999 = .inside 479 ∧ zoneOf h 241000 = .past := by
  decide
/-- T at the edges of each zone, DOWN. -/
theorem witness_zones_down :
    let h := { (upCopy (.travel 0)).header with direction := .down, scanStart := 241000, scanEnd := 1000 }
    h.direction = .down ∧ h.scanEnd < h.scanStart ∧ 0 < h.sliceLength ∧
    zoneOf h 241000 = .before ∧ zoneOf h 240999 = .inside 0 ∧ zoneOf h 1000 = .inside 479 ∧ zoneOf h 999 = .past := by
  decide
theorem witness_coast :
    let s := heatingPower.setTracker { heatingPower.tracker with coastTimer := some 5 }
    (advance 5 s).tracker.coastTimer = some 0 ∧ s.cycle.state ≠ .offline ∧ s.role = some .power ∧ s.inCycle = true ∧
    s.isMasked .coastExpired = false ∧ (advance 4 s).tracker.coastTimer ≠ some 0 := by decide
theorem witness_coast_idle :
    let s := (station .power .idle).setTracker { Tracker.powerOn with coastTimer := some 0 }
    (advance 0 s).tracker.coastTimer = some 0 ∧ s.inCycle = false ∧ s.cycle.state ≠ .offline := by decide

/-! ## Witnesses: power, inputs -/

theorem witness_power_step :
    heatingPower.role = some .power ∧ heatingPower.cycle.state ≠ .offline ∧ heatingPower.power.inbox = [] ∧
    heatingPower.tracker.zone ≠ .past := by decide
/-- Two segments that touch and a gap behind them: the blend at its edge and past it, UP and DOWN. -/
theorem witness_energy :
    let seg := fun (i start stop : Nat) (f : RoleFields) => ({ index := i, start, stop, blend := 1500, fields := f } : Segment)
    let g0 := seg 0 0 20000 (.power true 18000)
    let g1 := seg 1 20000 24000 (.power true 22000)
    let a : ActiveCopy := { header := (upCopy (.travel 0)).header, segments := [g0, g1] }
    let d : ActiveCopy := { a with header := { a.header with direction := .down } }
    Holds a 20600 1 g1 ∧ Abuts a 1 g1 g0 ∧ energyIn a 20600 = 19600 ∧ energyIn a 21500 = 22000 ∧
    Holds a 0 0 g0 ∧ energyIn a 0 = 0 ∧ Holds d 19999 0 g0 ∧ Abuts d 0 g0 g1 ∧ energyIn d 19399 = 20400 ∧
    ∀ g ∈ a.segments, ¬ (g.start ≤ 24000 ∧ 24000 < g.stop) := by
  unfold Holds Abuts; decide
theorem witness_power_past :
    let s := heatingPower.setTracker { heatingPower.tracker with zone := .past }
    s.role = some .power ∧ s.power.inbox = [] ∧ s.tracker.zone = .past ∧ s.cycle.state = .scanning := by decide
theorem witness_ceiling : 1388 ≤ powerCeiling false true 18000 2500 ∧ 18000 ≠ 0 := by decide
theorem witness_crossing_index : 85 < 88 := by decide
/-- R68: one word at a step, and one more where the step ends the role. -/
theorem test_words_at_a_step :
    let past := heatingPower.setTracker { heatingPower.tracker with zone := .past }
    (after (.powerControlStep 0 false) heatingPower).power.sent = heatingPower.power.sent + 1 ∧
    (after (.powerControlStep 0 false) past).power.sent = past.power.sent + 2 := by decide
/-- The worked sequence of R82 to R84. -/
theorem witness_crossing :
    let c : Crossing := { previous := .inside 85, current := .inside 88, k := 3, left := [85, 86, 87] }
    let s := (heatingPower.setPower { heatingPower.power with inbox := [c] }).setTracker
      { heatingPower.tracker with zone := .inside 88 }
    let closed := recordShares s.power.acc s.power.inbox
    s.role = some .power ∧ s.cycle.state = .scanning ∧ s.mayBegin = false ∧ closed.length ≤ 8 - s.sched.sliceOccupancy ∧
    s.tracker.zone ≠ .past ∧ s.isFatal .txOverflow = false ∧
    (chainFrames s s.power.link closed).map (fun f => f.words.drop 1) = [[85, 84, 411], [86, 85, 411], [87, 86, 411]] := by
  decide
/-- Two records in one step, the second into PAST, with a full SLICE queue, and in DONE. -/
theorem witness_crossing_past :
    let c : Crossing := { previous := .inside 478, current := .inside 479, k := 1, left := [478] }
    let z : Crossing := { previous := .inside 479, current := .past, k := 1, left := [479] }
    let s := (heatingPower.setPower { heatingPower.power with inbox := [c, z] }).setTracker
      { heatingPower.tracker with zone := .past }
    let full := s.setSched { s.sched with sliceQ := List.replicate 8 (sliceNoticeFrame s 0 0) }
    s.tracker.zone = .past ∧ s.sched.reportOccupancy < 16 ∧ s.power.inbox.getLast? = some z ∧
    (after (.powerControlStep 0 false) s).sched.sliceQ.map (fun f => f.words.drop 1) =
      [[478, 84, 1234], [479, 478, 0]] ∧
    (after (.powerControlStep 0 false) s).cycle.state = .done ∧
    8 - full.sched.sliceOccupancy < (recordShares full.power.acc full.power.inbox).length ∧
    (after (.powerControlStep 0 false) full).isLatched .txOverflow = true ∧
    (after (.powerControlStep 0 false) full).power.link = some 479 ∧
    (s.setCycle { s.cycle with state := .done }).cycle.state = .done := by decide
theorem witness_actuator :
    let r := heatingPower.setPins { heatingPower.pins with actReady := false }
    let t := heatingPower.setPins { heatingPower.pins with actFault := true }
    heatingPower.pins.actFault = false ∧ heatingPower.pins.actReady = true ∧ heatingPower.enable = true ∧
    heatingPower.inCycle = true ∧ heatingPower.isMasked .actuatorFault = false ∧ r.pins.actReady = false ∧
    t.pins.actFault = true ∧ (station .power .idle).inCycle = false ∧
    (masked .actuatorFault heatingPower).latchable .actuatorFault = false ∧
    (masked .actuatorFault busyQuench).latchable .actuatorFault = false ∧ movingTravel.pins.actReady = true := by decide
/-- Input 1, in groups A and B, falls while SCANNING: trip and hold. -/
theorem witness_interlock :
    let s := (heatingPower.setInterlock { level := 0xFF, sampled := true, drop := 0, carried := 0xFF }).setSettings
      { heatingPower.settings with groupA := 2, groupB := 2 }
    s.cycle.state = .scanning ∧ s.hold = false ∧ s.interlock.level.getLsbD 1 = true ∧
    s.settings.groupA.getLsbD 1 = true ∧ s.isMasked .interlockTrip = false ∧
    (after (.interlockSample 0 0xFD) s).hold = true ∧ (0xFD : Marks8).getLsbD 1 = false ∧
    (after (.interlockSample 0 0xFE) s).isLatched .interlockTrip = false ∧ (0xFE : Marks8).getLsbD 1 ≠ false ∧
    (masked .interlockTrip s).latchable .interlockTrip = false ∧
    (station .power .offline).cycle.state = .offline ∧ (station .power .idle).cycle.state ≠ .starting ∧
    (let idle := (station .power .idle).setInterlock s.interlock
     (after (.interlockSample 0 0xFD) idle).cycle.state = idle.cycle.state ∧ idle.interlock.carried.getLsbD 1 = true ∧
     (after (.interlockSample 0 0xFD) idle).interlock.carried.getLsbD 1 = false) := by decide

/-! ## Witnesses: travel -/

/-- A TRAVEL station in its scan, its roster heard. -/
def scanningTravel : State :=
  let s := scanning .travel (.travel 1300)
  { s with
    travel := { s.travel with command := 1000, atSpeed := true }
    peers := [{ peerOf 9 .quench .scanning with data := some (.quench 65535 false) }] }

theorem witness_target_moves : travelTarget scanningTravel = 1300 ∧ scanningTravel.travels = true := by decide
theorem witness_target_stopped :
    (scanningTravel.setTravel { scanningTravel.travel with atSpeed := false }).travels = false ∧
    0 < scanningTravel.spindleTarget := by decide
theorem witness_target_no_data :
    let s := scanningTravel.setPeers [peerOf 9 .quench .scanning]
    s.travels = true ∧ travelTarget s = 0 := by decide
theorem witness_no_neighbour (g b : Segment) : ¬ Abuts (upCopy (.travel 1300)) 0 g b :=
  fun h => absurd (h.1 rfl).1 (Nat.lt_irrefl 0)
/-- The worked blend of section 2.8, and the speeds beyond the ends. -/
theorem witness_speed :
    let g0 : Segment := { index := 0, start := 500, stop := 80000, blend := 0, fields := .travel 1500 }
    let g1 : Segment := { index := 1, start := 80000, stop := 82000, blend := 2000, fields := .travel 900 }
    let a : ActiveCopy := { header := (upCopy (.travel 0)).header, segments := [g0, g1] }
    Holds a 80500 1 g1 ∧ Abuts a 1 g1 g0 ∧ speedIn a 80500 = 1350 ∧ speedIn a 81999 = 901 ∧
    Holds a 500 0 g0 ∧ speedIn a 499 = 1500 ∧ speedIn a 82000 = 900 ∧
    a.segments.head? = some g0 ∧ a.segments.getLast? = some g1 := by
  unfold Holds Abuts; decide
theorem witness_travel_step :
    scanningTravel.role = some .travel ∧ scanningTravel.inCycle = true ∧ scanningTravel.pastTravelEnd = false ∧
    (station .travel .aborted).role = some .travel ∧ (station .travel .silent).cycle.state = .silent ∧
    (station .travel .joining).cycle.state = .joining ∧ (station .travel .armed).cycle.state = .armed ∧
    (station .travel .idle).travel.move = none := by decide
theorem witness_travel_role_end :
    let s := (scanningTravel.setTracker { scanningTravel.tracker with estimate := 250000 }).setTravel
      { scanningTravel.travel with command := 0 }
    s.cycle.state = .scanning ∧ s.pastTravelEnd = true ∧ (after (.travelControlStep 0) s).travel.command = 0 ∧
    ReportWaits s := by unfold ReportWaits; decide
theorem witness_home_capture :
    movingTravel.role = some .travel ∧ movingTravel.cycle.state = .idle ∧ movingTravel.travel.dir = .up ∧
    movingTravel.travel.move = some ⟨12000, 1500, true⟩ ∧ movingTravel.settings.homePosition < 12000 ∧
    (after (.homeCapture 0) movingTravel).travel.move.isSome = true ∧
    (after (.homeCapture 0)
      (movingTravel.setSettings { movingTravel.settings with homePosition := 12000 })).travel.move = none ∧
    (after (.homeCapture 0)
      (movingTravel.setSettings { movingTravel.settings with homePosition := 12500 })).travel.command = 0 := by decide
theorem witness_generator_step :
    let loaded := fun (load : Option (Nat × Nat)) (step : Bool) =>
      let s := movingTravel.setTravel { movingTravel.travel with load := load, step := step }
      (s.travel.load.isSome, s.travel.half.isSome, (after (.travelControlStep 7) s).travel.half,
        (after (.travelControlStep 7) s).travel.rise)
    movingTravel.role = some .travel ∧ movingTravel.cycle.state ≠ .offline ∧
    (after (.travelControlStep 7) movingTravel).travel.load = some (1, 667) ∧
    loaded (some (1, 666)) true = (true, true, some 293, none) ∧
    loaded none true = (false, true, some 293, some 668) ∧ loaded none false = (false, true, some 668, none) ∧
    (station .travel .idle).travel.half = none ∧ (after (.travelControlStep 0) (station .travel .idle)).travel.load = none := by
  decide
theorem witness_toggle :
    (advance 300 movingTravel).travel.half = some 0 ∧ movingTravel.travel.load = some (1, 666) ∧
    movingTravel.travel.rise = none ∧ (advance 299 movingTravel).travel.half ≠ some 0 ∧
    (movingTravel.setTravel movingTravel.travel.stop).travel.load = none ∧
    (advance 300 (movingTravel.setTravel { movingTravel.travel with rise := some 667 })).travel.rise = some 367 ∧
    (advance 300 (movingTravel.setTravel { movingTravel.travel with rise := some 300 })).travel.rise = some 0 := by decide
theorem witness_position :
    let f := rx 0 [0, 12000, 1500]
    Arrives .position f (station .travel .idle) ∧ (station .travel .idle).cycle.state = .idle ∧
    Arrives .position f (station .power .idle) ∧ Arrives .position f (station .travel .armed) := by
  unfold Arrives; decide
/-- The bounds of target and speed, and the values beyond them. -/
theorem witness_position_bounds :
    let target := fun f : Rx => (f.words.getD 0 0).toNat * 65536 + (f.words.getD 1 0).toNat
    let speed := fun f : Rx => (f.words.getD 2 0).toNat
    let last := rx 0 [4, 37856, 5000]
    let far := rx 0 [4, 37857, 1]
    let still := rx 0 [0, 0, 0]
    let fast := rx 0 [0, 0, 5001]
    (Arrives .position last (station .travel .idle) ∧ target last = 300000 ∧ speed last = 5000) ∧
    (Arrives .position far (station .travel .idle) ∧ 300000 < target far ∧ speed far = 1) ∧
    (Arrives .position still (station .travel .idle) ∧ speed still = 0) ∧
    (Arrives .position fast (station .travel .idle) ∧ 5000 < speed fast) := by unfold Arrives; decide
theorem witness_move :
    movingTravel.role = some .travel ∧ movingTravel.cycle.state = .idle ∧
    movingTravel.travel.move = some ⟨12000, 1500, true⟩ ∧ movingTravel.travel.dir = .up ∧
    movingTravel.tracker.estimate < 12000 ∧ movingTravel.pins.actReady = true ∧ movingTravel.pins.actFault = false := by
  decide
theorem witness_move_ends :
    let at_ := movingTravel.setTracker { movingTravel.tracker with estimate := 12000 }
    let past := movingTravel.setTracker { movingTravel.tracker with estimate := 12001 }
    at_.tracker.estimate = 12000 ∧ past.travel.command ≠ 0 ∧ 12000 < past.tracker.estimate ∧ past.travel.dir = .up := by
  decide
theorem witness_tach :
    let s := scanningTravel.setTravel { scanningTravel.travel with tachWindow := some 9, tachCount := 28 }
    let steady := scanningTravel.setTravel { scanningTravel.travel with tachWindow := some 9, tachCount := 29 }
    s.role = some .travel ∧ s.cycle.state ≠ .offline ∧ (advance 9 s).travel.tachWindow = some 0 ∧
    (advance 8 s).travel.tachWindow ≠ some 0 ∧ s.travel.atSpeed = true ∧ s.spinRun = true ∧
    s.spindleTarget / 20 < s.spindleTarget - 280 ∧ s.isMasked .spinLost = false ∧
    (advance 9 steady).travel.tachWindow = some 0 ∧ s.spindleTarget - 290 ≤ s.spindleTarget / 20 := by decide

/-! ## Witnesses: quench -/

/-- The notice of the worked layout, from station 5, first of its sender. -/
def firstNotice : Rx := rx 5 [0x0211, 90, 0xFFFF, 899]

theorem witness_notice :
    Arrives .sliceNotice firstNotice busyQuench ∧ busyQuench.role = some .quench ∧
    busyQuench.cycle.state = .scanning ∧ (noticeOf firstNotice.words).cycle = busyQuench.cycle.number ∧
    (noticeOf firstNotice.words).previous = none ∧ busyQuench.quench.judged = none ∧
    (noticeOf firstNotice.words).slice < busyQuench.tracker.sliceCount ∧ busyQuench.quench.entries.length < 48 ∧
    busyQuench.quench.runout = false := by unfold Arrives; decide
/-- The QUENCH station with TRAIL_FULL not fatal. -/
def steadyQuench : State := busyQuench.setSettings { busyQuench.settings with severity := 0x000F }
/-- A list of 48 entries, every second slice from 2 on, slice 90 among them. -/
def fullQuench : State :=
  steadyQuench.setQuench { steadyQuench.quench with entries := (List.range 48).map fun i => freshEntry (2 * i + 2) }

/-- A stage already listed, and a full list with and without the slice's entry. -/
theorem witness_notice_listed_or_full :
    let again := rx 5 [0x0111, 86, 0xFFFF, 899]
    let t := after (.sliceNotice 0 firstNotice) fullQuench
    let u := after (.sliceNotice 0 (rx 5 [0x0211, 91, 0xFFFF, 899])) fullQuench
    Arrives .sliceNotice again busyQuench ∧
    (findEntryOf 86 (after (.sliceNotice 0 again) busyQuench).quench.entries).map (·.energies) = some [(1, 499)] ∧
    Arrives .sliceNotice firstNotice fullQuench ∧ (findEntryOf 90 t.quench.entries).map (·.energies) = some [(2, 899)] ∧
    t.isLatched .trailFull = false ∧ u.isLatched .trailFull = true ∧ u.quench.entries = fullQuench.quench.entries := by
  unfold Arrives; decide
theorem witness_notice_stage_0 :
    Arrives .sliceNotice (rx 5 [0x0011, 90, 0xFFFF, 899]) busyQuench ∧
    (noticeOf (rx 5 [0x0011, 90, 0xFFFF, 899]).words).stage = 0 := by unfold Arrives; decide
/-- In a runout, for a slice with no entry and for one with an entry. -/
theorem witness_notice_runout :
    let s := busyQuench.setQuench { busyQuench.quench with runout := true }
    Arrives .sliceNotice firstNotice s ∧ s.quench.runout = true ∧ s.cycle.state = .scanning ∧
    s.quench.entries.Pairwise (fun a b => a.slice < b.slice) ∧ s.isFatal .sliceReject = false ∧
    s.isFatal .txOverflow = false ∧ s.sched.reportOccupancy < Config.reportCapacity ∧
    (after (.sliceNotice 0 firstNotice) s).quench.judged = some 90 ∧
    (after (.sliceNotice 0 (rx 5 [0x0211, 88, 0xFFFF, 899])) s).quench.entries.map (·.slice) = [86] := by
  unfold Arrives; decide
theorem witness_notice_not_taken :
    let broken := rx 5 [0x0211, 90, 87, 899]
    Arrives .sliceNotice firstNotice (station .quench .idle) ∧ (station .quench .idle).inCycle = false ∧
    Arrives .sliceNotice firstNotice (station .quench .done) ∧ (station .quench .done).cycle.state = .done ∧
    (noticeOf firstNotice.words).cycle = (station .quench .done).cycle.number ∧
    Arrives .sliceNotice firstNotice heatingPower ∧
    Arrives .sliceNotice broken (station .quench .done) ∧ (noticeOf broken.words).previous ≠ none ∧
    (station .quench .done).quench.lastNoticeOf broken.source ≠ (noticeOf broken.words).previous ∧
    (after (.sliceNotice 0 broken) (station .quench .done)).isLatched .noticeLost = true := by unfold Arrives; decide
/-- J at the notice's slice, and N at it. -/
theorem witness_notice_late_or_beyond :
    let late := busyQuench.setQuench { busyQuench.quench with judged := some 90 }
    let beyond := busyQuench.setTracker { busyQuench.tracker with sliceCount := 90 }
    Arrives .sliceNotice firstNotice late ∧ late.quench.judged = some 90 ∧ (noticeOf firstNotice.words).slice ≤ 90 ∧
    Arrives .sliceNotice firstNotice beyond ∧ beyond.tracker.sliceCount ≤ (noticeOf firstNotice.words).slice ∧
    beyond.quench.judged = none ∧ beyond.isMasked .trailFull = false := by unfold Arrives; decide
theorem witness_missed_notice :
    let f := rx 5 [0x0211, 90, 87, 899]
    let done := steadyQuench.setCycle { steadyQuench.cycle with state := .done }
    Arrives .sliceNotice f steadyQuench ∧ (noticeOf f.words).previous = some 87 ∧ steadyQuench.inCycle = true ∧
    steadyQuench.quench.lastNoticeOf f.source ≠ some 87 ∧ steadyQuench.isFatal .noticeLost = false ∧ steadyQuench.isFatal .trailFull = false ∧
    steadyQuench.isFatal .txOverflow = false ∧ 87 < steadyQuench.tracker.sliceCount ∧ steadyQuench.quench.judged = none ∧
    findEntryOf 87 steadyQuench.quench.entries = none ∧ steadyQuench.quench.entries.length < 47 ∧
    Arrives .sliceNotice f done ∧ done.cycle.state = .done := by
  unfold Arrives; decide
/-- Each end of a missed slice: an entry that stands, J at it, N at it, a full list, and a runout below and above the notice's
own slice. -/
theorem witness_missed_notice_ends :
    let f := fun l : Nat => rx 5 [0x0211, 90, l, 899]
    let at_ := fun (j : Option Nat) (n : Nat) =>
      (steadyQuench.setQuench { steadyQuench.quench with judged := j }).setTracker { steadyQuench.tracker with sliceCount := n }
    let run := steadyQuench.setQuench { steadyQuench.quench with entries := [], runout := true }
    let t := fun (s : State) (l : Nat) => (after (.sliceNotice 0 (f l)) s).quench
    ((t steadyQuench 86).entries.map fun e => (e.slice, e.lost)) = [(86, true), (88, false), (90, false)] ∧
    (t (at_ (some 87) 480) 87).entries.map (·.slice) = [86, 88, 90] ∧ (t (at_ none 92) 92).entries.map (·.slice) = [86, 88, 90] ∧
    findEntryOf 87 (t fullQuench 87).entries = none ∧ (findEntryOf 90 (t fullQuench 87).entries).map (·.energies) = some [(2, 899)] ∧
    findEntryOf 87 fullQuench.quench.entries = none ∧ (findEntryOf 90 fullQuench.quench.entries).isSome = true ∧
    ((t run 87).judged, (t run 87).nRejected) = (some 90, 2) ∧ ((t run 95).judged, (t run 95).nLate) = (some 95, 1) ∧
    Arrives .sliceNotice (f 95) run ∧ run.quench.entries = [] ∧ run.isFatal .trailFull = false := by
  unfold Arrives; decide
/-- The ring in slice 86, one entry at its reach and one beyond. -/
theorem witness_judgment :
    let s := busyQuench.setTracker { busyQuench.tracker with zone := .inside 86 }
    s.role = some .quench ∧ s.cycle.state = .scanning ∧ s.quench.runout = false ∧ s.tracker.zone = .inside 86 ∧
    s.quench.judged = none ∧ s.quench.entries.Pairwise (fun a b => a.slice < b.slice) ∧
    s.isFatal .sliceReject = false ∧ s.isFatal .txOverflow = false ∧ (∃ e ∈ s.quench.entries, e.slice ≤ 86) := by decide
/-- The results of slices 85 and 86, the first with no entry, handed in slice order. -/
theorem witness_judgment_frames :
    let s := (busyQuench.setTracker { busyQuench.tracker with zone := .inside 86 }).setQuench
      { busyQuench.quench with judged := some 84 }
    s.onLine = true ∧ s.mayBegin = false ∧ s.sched.reportOccupancy + 4 ≤ 16 ∧ 0 < s.quenchAtRing.energyLow ∧
    (after (.quenchControlStep 0) s).sched.reportQ.map (fun f => (f.kind, f.words.getD 1 0)) =
      [(.cycleSummary, 812), (.sliceResult, 85), (.faultNotice, 17), (.sliceResult, 86)] := by decide
/-- The ring PAST, J at the last slice and below it; slices 477 and 478 with no entry. -/
theorem witness_judgment_past :
    let s := (busyQuench.setTracker { busyQuench.tracker with zone := .past }).setQuench
      { busyQuench.quench with judged := some 476, entries := [freshEntry 479], runout := false }
    s.tracker.zone = .past ∧ s.tracker.sliceCount = 479 + 1 ∧ 0 < s.quenchAtRing.energyLow ∧
    (after (.quenchControlStep 0) s).quench.judged = some 479 ∧
    (after (.quenchControlStep 0) s).quench.nRejected = s.quench.nRejected + 3 ∧
    (s.setQuench { s.quench with judged := some 479, entries := [] }).quench.judged = some 479 := by decide
theorem witness_delay :
    let e := { freshEntry 3 with tFirst := some (5 : LocalTime), tHeat := some (9 : LocalTime) }
    e.heated = false ∧ e.tFirst = some 5 ∧ { e with heated := true }.tHeat = some 9 ∧ (freshEntry 3).tFirst = none ∧
    (freshEntry 3).heated = false ∧ (freshEntry 3).energies = [] := by decide
theorem witness_gap :
    let a := upCopy (.quench (someQuench 1))
    let s := busyQuench.setTracker { busyQuench.tracker with tool := 300000 }
    s.store.active = some a ∧ (∀ g ∈ a.segments, ¬ (g.start ≤ s.tracker.tool ∧ s.tracker.tool < g.stop)) ∧
    busyQuench.store.active = some a ∧ busyQuench.quenchAtRing = someQuench 1 ∧
    Holds a busyQuench.tracker.tool 0
      { index := 0, start := 0, stop := 300000, blend := 0, fields := .quench (someQuench 1) } :=
  ⟨rfl, by decide, rfl, by decide, by unfold Holds; decide⟩
/-- A QUENCH station with every timer at its end after 7 ticks. -/
def endingQuench (pulse : PulsePhase) (mode : Nat) : State :=
  let s := scanning .quench (.quench (someQuench mode))
  s.setQuench { s.quench with
    soak := some 7, pulse := pulse, pulseTimer := some 7, floodTimer := some 7, flowWindow := some 7, flowCount := 39
    openTime := some 7999993, spray := true }

theorem witness_quench_timers :
    let u := advance 7 (endingQuench .on 2)
    u.quench.soak = some 0 ∧ u.quench.floodTimer = some 0 ∧ u.quench.flowWindow = some 0 ∧
    u.quench.pulseTimer = some 0 ∧ (advance 6 (endingQuench .on 2)).quench.soak ≠ some 0 ∧
    (advance 6 (endingQuench .on 2)).quench.floodTimer ≠ some 0 ∧
    (advance 6 (endingQuench .on 2)).quench.flowWindow ≠ some 0 ∧
    (advance 6 (endingQuench .on 2)).quench.pulseTimer ≠ some 0 := by decide
/-- 39 pulses of 40 with the open time just enough, and one tick short of it. -/
theorem witness_flow_low :
    let s := endingQuench .idle 1
    s.role = some .quench ∧ s.cycle.state ≠ .offline ∧ s.quench.flowCount < s.settings.flowMinimum ∧
    (advance 7 s).quench.openTime = some (s.settings.settleTime * 20000 + 2000000) ∧ s.isMasked .flowLow = false ∧
    (advance 7 (s.setQuench { s.quench with openTime := some 7999992 })).quench.openTime =
      some (s.settings.settleTime * 20000 + 1999999) := by decide
theorem witness_pulse_goes_on :
    let s := endingQuench .on 2
    sprayDemanded (advance 7 s) = true ∧ s.quenchAtRing.mode = 2 ∧ s.quench.pulse = .on ∧
    (endingQuench .off 2).quench.pulse = .off ∧ sprayDemanded (advance 7 (endingQuench .off 2)) = true ∧
    (endingQuench .on 0).quenchAtRing.mode ≠ 2 := by decide
/-- STARTING with demand and without, in both modes, SCANNING with nothing to judge, and DONE. -/
theorem witness_spray :
    let at_ := fun (pulse : PulsePhase) (mode : Nat) (soak : Timer) =>
      let s := endingQuench pulse mode
      (s.setCycle { s.cycle with state := .starting }).setQuench { s.quench with soak := soak }
    let scan := (endingQuench .idle 1).setTracker { (endingQuench .idle 1).tracker with zone := .before }
    (at_ .idle 1 (some 9)).role = some .quench ∧ (at_ .idle 1 (some 9)).cycle.state = .starting ∧
    sprayDemanded (advance 7 (at_ .idle 1 (some 9))) = true ∧ (at_ .idle 1 (some 9)).quenchAtRing.mode = 1 ∧
    sprayDemanded (advance 7 (at_ .idle 1 none)) = false ∧ (at_ .idle 1 none).quench.pulse = .idle ∧
    sprayDemanded (advance 7 (at_ .idle 2 (some 9))) = true ∧ (at_ .idle 2 (some 9)).quenchAtRing.mode = 2 ∧
    (at_ .on 2 none).quench.pulse ≠ .idle ∧
    scan.cycle.state = .scanning ∧ slicesToJudge scan = [] ∧ scan.quench.runout = false ∧ scan.tracker.zone ≠ .past ∧
    (station .quench .done).cycle.state = .done := by
  decide
/-- DONE with an entry at the ring, which asks for spray. -/
def doneQuench (pulse : PulsePhase) (mode : Nat) : State :=
  let s := endingQuench pulse mode
  (s.setCycle { s.cycle with state := .done }).setQuench { s.quench with entries := [freshEntry 85], soak := none }

/-- In DONE demand is decided and the phase cycle runs. -/
theorem witness_spray_done :
    let s := doneQuench .idle 1
    let pulse := fun (c : Instr) (s : State) => (after c s).quench.pulse
    s.cycle.state = .done ∧ sprayDemanded s = true ∧
    sprayDemanded (s.setTracker { s.tracker with tool := 43499 }) = false ∧
    sprayDemanded (s.setQuench { s.quench with entries := [] }) = false ∧
    pulse (.quenchControlStep 0) s = .idle ∧ pulse (.quenchControlStep 0) (doneQuench .idle 2) = .on ∧
    pulse (.quenchControlStep 0) (doneQuench .off 2) = .off ∧ pulse (.pulsePhaseExpiry 7) (doneQuench .off 2) = .on ∧
    pulse (.pulsePhaseExpiry 7) (doneQuench .on 2) = .off := by decide
/-- SPRAY is closed in DONE, whatever asks for it (R44). -/
theorem test_spray_in_done :
    (after (.quenchControlStep 0) (doneQuench .idle 1)).quench.spray = false ∧
    (after (.quenchControlStep 0) (doneQuench .on 2)).quench.spray = false ∧
    (after (.pulsePhaseExpiry 7) (doneQuench .off 2)).quench.spray = false := by decide
/-- In CONTINUOUS mode without demand an ON phase keeps SPRAY open to its timer (log entry 57), with demand it gives way. -/
theorem test_on_phase_in_continuous :
    let at_ := fun (soak : Timer) =>
      let s := endingQuench .on 1
      let s := (s.setCycle { s.cycle with state := .starting }).setQuench { s.quench with soak := soak }
      (after (.quenchControlStep 0) s).quench
    ((at_ none).spray, (at_ none).pulse) = (true, .on) ∧ ((at_ (some 9)).spray, (at_ (some 9)).pulse) = (true, .idle) := by
  decide
/-- The role end and the end of a runout, and the soak and the valve that wait for them. -/
theorem witness_quench_ends :
    let s := (endingQuench .idle 1).setTracker { (endingQuench .idle 1).tracker with zone := .past, sliceCount := 480 }
    let at_ := fun (runout : Bool) (soak : Timer) (pulse : PulsePhase) => s.setQuench { s.quench with
      judged := some 479, runout := runout, soak := soak, pulse := pulse }
    let ends := fun t : State => (after (.quenchControlStep 0) t).cycle.endKind
    s.quench.entries = [] ∧ slicesToJudge (at_ false none .idle) = [] ∧ s.sched.reportOccupancy < Config.reportCapacity ∧
    s.mayBegin = false ∧ ends (at_ false none .idle) = some .normal ∧ ends (at_ true none .idle) = some .shortTravel ∧
    ends (at_ false (some 9) .idle) = none ∧ ends (at_ true none .on) = none := by decide

/-! ## Witnesses: cycle control -/

theorem witness_abort :
    Arrives .abort (rx 9 [17]) busyQuench ∧ busyQuench.inCycle = true ∧ busyQuench.cycle.number = 17 ∧
    Arrives .abort (rx 0 [0]) heatingPower ∧ heatingPower.inCycle = true ∧
    Arrives .abort (rx 9 [0]) heatingPower ∧ Arrives .abort (rx 0 [17]) (station .travel .idle) ∧
    Arrives .abort (rx 0 [17]) scanningTravel ∧ Arrives .abort (rx 0 [17]) (station .travel .offline) := by
  unfold Arrives; decide
/-- A TRAVEL station in DONE whose spindle hold has been released, its QUENCH peer still to end. -/
theorem witness_abort_from_done :
    let s := scanningTravel.setCycle { scanningTravel.cycle with state := .done }
    Arrives .abort (rx 0 [17]) s ∧ s.inCycle = true ∧ s.role = some .travel ∧ s.travel.spindleHold = false ∧
    (after (.abort 0 (rx 0 [17])) s).travel.spindleHold = true := by unfold Arrives; decide

/-- An IDLE station with an active copy and nothing in the way of an ARM. -/
def readyToArm (r : Role) : State :=
  let s := station r .idle
  { s with
    store := { s.store with active := some (upCopy (.travel 1300)) }
    settings := { someSettings with toolOffset := -3600, groupA := 1 }
    interlock := { level := 0xFF, sampled := true, drop := 0, carried := 0 }
    tracker := { s.tracker with referenced := true }
    peers := [{ peerOf 5 .power .idle with toolOffset := some 9000 }] }

/-- The same with a VALID staging copy. -/
def readyStaged : State :=
  let s := readyToArm .quench
  s.setStore { s.store with staging := { Staging.cleared with
    state := .valid, header := some ⟨(upCopy (.travel 0)).header, []⟩
    clamped := (upCopy (.quench (someQuench 1))).segments } }

theorem witness_arm_accepted :
    (∀ r ∈ [Role.travel, .power, .quench],
      Arrives .arm (rx 0 [812]) (readyToArm r) ∧
      (after (.arm 0 (rx 0 [812])) (readyToArm r)).cycle.last = some (.arm, .accepted)) ∧
    (after (.arm 0 (rx 0 [0])) readyStaged).cycle.last = some (.arm, .accepted) ∧
    readyStaged.store.staging.state = .valid ∧ (readyToArm .quench).store.staging.state = .empty := by
  unfold Arrives; decide
/-- A POWER station that arms from DONE with ENABLE active. -/
theorem witness_arm_from_done :
    let s := (readyToArm .power).setCycle { (station .power .done).cycle with endKind := some .normal }
    Arrives .arm (rx 0 [812]) s ∧ s.enable = true ∧
    (after (.arm 0 (rx 0 [812])) s).cycle.last = some (.arm, .accepted) ∧ (readyToArm .power).enable = false := by
  unfold Arrives; decide
/-- One station for each check that fails first. -/
theorem witness_arm_refused :
    let code := fun s : State => (after (.arm 0 (rx 0 [812])) s).cycle.last.map (·.2)
    let t := readyToArm .travel
    code (station .quench .armed) = some .refusedState ∧ code (station .quench .idle) = some .refusedStaging ∧
    code (latched .roleConflict t) = some .refusedConflict ∧
    code (t.setInterlock { t.interlock with level := 0 }) = some .refusedInterlock ∧
    code (t.setPins { t.pins with actReady := false }) = some .refusedNotReady ∧
    code (t.setTracker { t.tracker with referenced := false }) = some .refusedNotHomed ∧
    code (t.setTracker { t.tracker with outOfRange := true }) = some .refusedRange ∧
    code ((readyToArm .quench).setPeers []) = some .refusedGeometry := by decide
theorem witness_geometry :
    let s := readyToArm .quench
    let h := (upCopy (.travel 0)).header
    0 < h.sliceLength ∧ (∀ p ∈ s.peers, p.toolOffset ≠ none) ∧ geometryPasses s h = true ∧
    geometryPasses s { h with sliceLength := 200 } = false := by decide

/-- Station 4, POWER, ARMED, its cell heard. -/
def armedPower (st : StationState) : State :=
  let s := readyToArm .power
  { s with
    cycle := { s.cycle with state := .armed }, peers := [peerOf 1 .travel st, peerOf 9 .quench st] }

theorem witness_start_accepted :
    let f := rx 0 [17, 0x0212]
    Arrives .cycleStart f (armedPower .armed) ∧ marksOwn 0x0212 (armedPower .armed) = true ∧
    (after (.cycleStart 0 f) (armedPower .armed)).cycle.state = .starting ∧
    (after (.cycleStart 0 f) (armedPower .starting)).cycle.state = .scanning := by unfold Arrives; decide
/-- A TRAVEL station at rest and moving. -/
theorem witness_start_travel :
    let f := rx 0 [17, 0x0032]
    let a := readyToArm .travel
    let s := { a with cycle := { a.cycle with state := .armed }, peers := [peerOf 1 .power .armed, peerOf 5 .quench .armed] }
    Arrives .cycleStart f s ∧ s.role = some .travel ∧ (after (.cycleStart 0 f) s).cycle.state = .starting ∧
    s.tracker.window.sum = 0 ∧ (armedPower .armed).role ≠ some .travel := by unfold Arrives; decide
theorem witness_start_refused :
    let code := fun (s : State) (n roster : Nat) => (after (.cycleStart 0 (rx 0 [n, roster])) s).cycle.last.map (·.2)
    let a := armedPower .armed
    code (readyToArm .power) 17 0x0212 = some .refusedState ∧ code a 0 0x0212 = some .refusedRange ∧
    code a 256 0x0212 = some .refusedRange ∧ code a 255 0x0212 = some .accepted ∧ code a 1 0x0212 = some .accepted ∧
    code a 17 0x0012 = some .refusedRoster ∧
    code (a.setInterlock { a.interlock with level := 0 }) 17 0x0212 = some .refusedInterlock ∧
    code (a.setPins { a.pins with actReady := false }) 17 0x0212 = some .refusedNotReady ∧
    marksOwn 0x0202 a = false := by decide
/-- A valid roster, and one for each condition it fails: own number, a number with no entry, number 15, the roles. -/
theorem witness_roster :
    let a := armedPower .armed
    let valid := fun roster : Marks16 => rosterValid roster a
    valid 0x0212 = true ∧ valid 0x0202 = false ∧ valid 0x0232 = false ∧ valid 0x8212 = false ∧ valid 0x0213 = false ∧
    valid 0x0210 = false ∧ valid 0x0012 = false ∧ a.loader.number ≠ 0 ∧ a.loader.number ≠ 15 := by decide
/-- STARTING with one tick to run; masked; and the timer still running. -/
theorem witness_start_timer :
    let s := (station .power .starting).setCycle { (station .power .starting).cycle with startTimer := some 1 }
    s.cycle.state = .starting ∧ (advance 1 s).cycle.startTimer = some 0 ∧ s.isMasked .startTimeout = false ∧
    s.latchable .startTimeout = true ∧ s.isFatal .startTimeout = true ∧
    s.sched.reportOccupancy < Config.reportCapacity ∧ (masked .startTimeout s).latchable .startTimeout = false ∧
    (advance 0 s).cycle.startTimer ≠ some 0 := by decide
theorem witness_cycle_end :
    Arrives .cycleEnd (rx 0 [17]) (station .power .done) ∧ Arrives .cycleEnd (rx 0 [0]) (station .travel .armed) ∧
    Arrives .cycleEnd (rx 0 [17]) (station .travel .armed) ∧
    (station .power .done).enable = true ∧ (station .quench .done).enable = false := by unfold Arrives; decide
theorem witness_clear :
    let flooding := (station .quench .aborted).setQuench { Quench.powerOn with flood := true }
    Arrives .clear (rx 0 []) (station .travel .aborted) ∧ (station .travel .aborted).travel.command = 0 ∧
    Arrives .clear (rx 0 []) flooding ∧ flooding.quench.flood = true ∧ Arrives .clear (rx 0 []) heatingPower ∧
    Arrives .clear (rx 0 []) (station .power .silent) ∧ Arrives .clear (rx 0 []) (station .power .joining) := by
  unfold Arrives; decide
theorem witness_station_reset :
    ∀ st ∈ [StationState.offline, .silent, .joining, .idle, .armed, .starting, .scanning, .done, .aborted],
      Arrives .stationReset (rx 0 []) (station .quench st) := by unfold Arrives; decide

/-! ## Witnesses: recipe frames and query -/

/-- A POWER station with a header and one segment staged, FILLING. -/
def filling : State :=
  let hw := [812, 1, 0, 1000, 3, 44392, 500, 0, 500, 3, 53392, 300].map w
  let sw := [0x2100, 0, 0, 4, 37856, 0, 18000].map w
  let s := station .power .idle
  s.setStore { s.store with staging := { Staging.cleared with
    state := .filling, header := some ⟨headerOf hw, hw⟩, segments := [⟨segmentOf .power sw, sw⟩] } }

theorem witness_recipe_frames :
    let s := station .power .idle
    let seg := fun i : Nat => rx 0 [0x2100 + i, 0, 0, 4, 37856, 0, 18000]
    s.role = some .power ∧ s.onLine = true ∧ Arrives .recipeHeader (rx 0 (List.replicate 12 0)) s ∧
    (Arrives .segment (seg 32) s ∧ bitsOf ((seg 32).words.getD 0 0) 13 12 = roleCode .power ∧
      32 ≤ bitsOf ((seg 32).words.getD 0 0) 7 0) ∧
    (Arrives .segment (seg 31) s ∧ s.store.staging.state = .empty ∧ bitsOf ((seg 31).words.getD 0 0) 7 0 < 32) ∧
    (Arrives .segment (seg 31) filling ∧ filling.store.staging.state = .filling) ∧
    (Arrives .segment (rx 0 [0x1000, 0, 0, 0, 0, 0, 0]) s ∧
      bitsOf ((rx 0 [0x1000, 0, 0, 0, 0, 0, 0]).words.getD 0 0) 13 12 ≠ roleCode .power) := by unfold Arrives; decide
theorem witness_commit :
    let h := filling.store.staging.header
    let g := filling.store.staging.segments
    let sum := (h.map fun x => commitSum x.words g).getD 0
    Arrives .commit (rx 0 [812, sum]) filling ∧ h.isSome = true ∧
    (h.bind fun x => validateStaged .power 812 sum x g) = none ∧
    (h.bind fun x => validateStaged .power 811 sum x g) = some ⟨.sum, none⟩ ∧
    Arrives .commit (rx 0 [811, sum]) filling ∧ Arrives .commit (rx 0 [812, 0]) (station .power .idle) := by
  unfold Arrives; decide
theorem witness_query :
    Arrives .faultQuery (rx 0 []) heatingPower ∧ ReportWaits heatingPower ∧
    Arrives .faultQuery (rx 0 []) (station .power .silent) ∧ (station .power .silent).onLine = false ∧
    Arrives .recipeHeader (rx 0 (List.replicate 12 0)) (station .power .silent) ∧
    Arrives .commit (rx 0 [0, 0]) (station .power .offline) := by unfold Arrives ReportWaits; decide
/-- The own role's SEGMENT off the line. -/
theorem witness_segment_off_line :
    let f := rx 0 [0x2100, 0, 0, 4, 37856, 0, 18000]
    Arrives .segment f (station .power .silent) ∧ bitsOf (f.words.getD 0 0) 13 12 = roleCode .power ∧
    (station .power .silent).onLine = false := by unfold Arrives; decide
/-- Headers and tables at the edges of COUNT, RANGE and COVERAGE. -/
theorem witness_commit_checks :
    let h := (upCopy (.travel 0)).header
    let seg := fun (i start stop : Nat) => ({ index := i, start, stop, blend := 0, fields := .travel 900 } : Segment)
    checkCount { h with segmentCount := 0 } [] = some ⟨.count, none⟩ ∧ checkCount { h with segmentCount := 33 } [] ≠ none ∧
    checkCount { h with segmentCount := 32 } [seg 31 0 1] = none ∧ checkCount h [seg 0 0 1, seg 1 1 2] = some ⟨.count, some 1⟩ ∧
    checkRange { h with sliceLength := 99 } [] = some ⟨.range, none⟩ ∧ checkRange h [seg 0 0 300000] = none ∧
    checkRange h [seg 0 0 300001] = some ⟨.range, some 0⟩ ∧
    checkCoverage h [seg 0 501 250000] = some ⟨.coverage, some 0⟩ ∧
    checkCoverage h [seg 0 500 600, seg 1 601 250000] = some ⟨.coverage, some 1⟩ ∧
    checkCoverage h [seg 0 500 600, seg 1 600 249999] = some ⟨.coverage, some 1⟩ ∧
    checkCoverage h [seg 0 500 600, seg 1 600 250000] = none := by decide

/-! ## Witnesses: peers -/

theorem witness_join :
    let f := rx 5 [0x4000, 0, 2400]
    Arrives .join f (station .travel .idle) ∧ (joinOf f.words).map (·.role) = some .travel ∧
    (station .travel .idle).ownNumber ≠ some f.source ∧ (station .travel .idle).isMasked .roleConflict = false ∧
    (joinOf (rx 5 [0xC000, 0, 0]).words).map (·.role) = some .quench ∧
    Arrives .join (rx 5 [0xC000, 0, 0]) (station .travel .idle) := by unfold Arrives; decide
/-- JOINs without a conflict: of a roster station at a TRAVEL station, and of one that no roster holds. -/
theorem witness_join_no_conflict :
    let f := rx 9 [0xC000, 0, 0]
    Arrives .join f scanningTravel ∧ conflicts scanningTravel 9 .quench 0 = false ∧ scanningTravel.inRoster 9 = true ∧
    scanningTravel.role = some .travel ∧ scanningTravel.inRoster 5 = false ∧
    conflicts scanningTravel 5 .quench 0 = false ∧ scanningTravel.ownNumber ≠ some f.source := by unfold Arrives; decide
/-- A TRAVEL beacon of the tracked number, one of another, a POWER beacon of a stage held, an ABORTED QUENCH beacon. -/
theorem witness_beacon :
    let travel := rx 1 [0x5411, 812, 0, 0, 0, 0, 41250, 1388]
    let power := rx 6 [0x9411, 812, 0, 0, 0, 0x0010, 0, 0, 0, 0, 1388]
    let aborted := rx 9 [0xDC11, 812, 0, 0, 0, 0, 0, 0, 0, 0, 0, 0]
    let held := (station .quench .idle).setPeers [peerOf 5 .power .idle]
    (Arrives .beacon travel heatingPower ∧ (beaconOf travel.words).map (·.role) = some .travel ∧
      heatingPower.tracker.tracked = some travel.source) ∧
    (Arrives .beacon { travel with source := 2 } heatingPower ∧ heatingPower.tracker.tracked ≠ some 2) ∧
    (Arrives .beacon power held ∧ (beaconOf power.words).map (·.stage) = some 1 ∧
      held.peers.any (fun p => p.number != power.source && p.role == .power && p.stage == some 1) = true) ∧
    (Arrives .beacon aborted heatingPower ∧ (beaconOf aborted.words).map (fun b => (b.state, b.cycle)) =
        some (.aborted, heatingPower.cycle.number) ∧ heatingPower.inRoster aborted.source = true ∧
      conflicts heatingPower aborted.source .quench 0 = false) ∧
    (Arrives .beacon (rx 9 [0xD411, 812, 0, 0, 0, 0, 0, 0, 0, 0, 0, 0]) scanningTravel ∧
      scanningTravel.inRoster 9 = true) := by unfold Arrives; decide
/-- The four conflicts: own role, tracked number, another TRAVEL entry, own stage and another entry's. -/
theorem witness_conflicts :
    conflicts scanningTravel 5 .travel 0 = true ∧ conflicts heatingPower 2 .travel 0 = true ∧
    conflicts { heatingPower with tracker := Tracker.powerOn } 2 .travel 0 = true ∧
    conflicts heatingPower 5 .power 2 = true ∧ conflicts heatingPower 5 .power 3 = false ∧
    conflicts ((station .quench .idle).setPeers [peerOf 5 .power .idle]) 6 .power 1 = true := by decide
/-- A beacon of station `n` in cycle 17: its role and state codes, and as many words as its role has. -/
def beacon17 (n role st : Nat) : Rx :=
  rx n ((role * 0x4000 + st * 0x400 + 17) :: List.replicate (if role = 1 then 7 else if role = 2 then 10 else 11) 0)

/-- The barrier met by a beacon, and held open. -/
theorem witness_beacon_barrier :
    let s := { heatingPower with
      cycle := { heatingPower.cycle with state := .starting }
      peers := [peerOf 1 .travel .starting, peerOf 9 .quench .armed] }
    Arrives .beacon (beacon17 9 3 4) s ∧ conflicts s 9 .quench 0 = false ∧ s.inRoster 9 = true ∧
    (beaconOf (beacon17 9 3 4).words).map (·.state) = some .starting ∧
    (after (.beacon 0 (beacon17 9 3 4)) s).cycle.state = .scanning ∧
    (after (.beacon 0 (beacon17 9 3 3)) s).cycle.state = .starting ∧ s.inRoster 5 = false ∧
    conflicts s 5 .quench 0 = false := by unfold Arrives; decide
/-- Short travel of a POWER station with its open slice, and with a record that waits. -/
theorem witness_short_travel_power :
    let f := beacon17 1 1 6
    let c : Crossing := { previous := .inside 85, current := .inside 86, k := 1, left := [85] }
    let s := heatingPower.setPower { heatingPower.power with inbox := [c] }
    Arrives .beacon f heatingPower ∧ heatingPower.inRoster 1 = true ∧ conflicts heatingPower 1 .travel 0 = false ∧
    (beaconOf f.words).map (fun b => (b.role, b.state, b.cycle)) = some (.travel, .done, heatingPower.cycle.number) ∧
    heatingPower.sched.reportOccupancy < Config.reportCapacity ∧
    (after (.beacon 0 f) heatingPower).sched.sliceQ.map (fun f => f.words.drop 1) = [[85, 84, 1234]] ∧
    (after (.beacon 0 f) heatingPower).cycle.endKind = some .shortTravel ∧
    (after (.beacon 0 f) s).sched.sliceQ.map (fun f => f.words.drop 1) = [[85, 84, 1234], [86, 85, 0]] := by
  unfold Arrives; decide
/-- Short travel of a QUENCH station: entries, the soak alone, nothing, and a runout under way. -/
theorem witness_short_travel_quench :
    let f := beacon17 1 1 6
    let s := busyQuench.setPeers [peerOf 1 .travel .scanning]
    let empty := fun (soak : Timer) => s.setQuench { s.quench with entries := [], soak := soak }
    Arrives .beacon f s ∧ conflicts s 1 .travel 0 = false ∧ s.inRoster 1 = true ∧ s.quench.entries ≠ [] ∧
    s.isFatal .sliceReject = false ∧ s.isFatal .txOverflow = false ∧ s.quench.runout = false ∧
    (after (.beacon 0 f) s).quench.nRejected = 2 ∧ (after (.beacon 0 f) s).quench.judged = some 88 ∧
    (after (.beacon 0 f) (empty none)).cycle.state = .done ∧
    (after (.beacon 0 f) (empty (some 9))).quench.runout = true ∧
    (after (.beacon 0 f) (after (.beacon 0 f) s)).quench.nRejected = 2 := by unfold Arrives; decide
theorem witness_staleness :
    (heatingPower.peer 1).map (fun p => (p.live, p.stale)) = some (true, some 0) ∧
    heatingPower.tracker.tracked = some 1 ∧ heatingPower.inRoster 1 = true ∧ heatingPower.isMasked .peerLost = false ∧
    (scanningTravel.peer 9).map (fun p => (p.live, p.stale)) = some (true, some 0) ∧
    scanningTravel.inRoster 9 = true ∧ heatingPower.peer 7 = none ∧ (station .power .idle).cycle.state ≠ .starting := by
  decide
/-- The last QUENCH peer lost in DONE releases the spindle; a loss in STARTING; the abort of a TRAVEL station by a loss. -/
theorem witness_staleness_roster :
    let done := (scanningTravel.setCycle { scanningTravel.cycle with state := .done }).setTravel
      { scanningTravel.travel with spindleHold := true }
    let starting := heatingPower.setCycle { heatingPower.cycle with state := .starting }
    done.inRoster 9 = true ∧ (after (.stalenessTimerExpiry 0 9) done).cycle.state = done.cycle.state ∧
    (after (.stalenessTimerExpiry 0 9) done).travel.spindleHold = false ∧
    starting.cycle.state = .starting ∧ PeersSafe starting ∧ starting.inRoster 1 = true ∧
    (after (.stalenessTimerExpiry 0 9) scanningTravel).cycle.state = .aborted ∧
    (heatingPower.setPeers [peerOf 5 .power .idle]).inRoster 5 = false := by unfold PeersSafe; decide

/-! ## Witnesses: the line -/

theorem witness_not_accepted :
    rxGood .faultNotice (rx 9 [0, 0]) = true ∧ heatingPower.ownNumber ≠ some 9 ∧ (heatingPower.peer 9).isSome = true ∧
    (station .power .idle).peer 9 = none ∧ heatingPower.cycle.state ≠ .offline := by decide
/-- The station's own frame on the line; a LOST roster peer that a notice returns in STARTING. -/
theorem witness_own_frame_and_return :
    let s := { heatingPower with
      cycle := { heatingPower.cycle with state := .starting }
      peers := [peerOf 1 .travel .starting, { peerOf 9 .quench .starting with live := false, stale := none }] }
    drivingQuench.line.hears = false ∧ State.reset.line.hears = false ∧ s.line.hears = true ∧ s.inRoster 9 = true ∧ PeersSafe s ∧
    (after (.frameNotAccepted 0 .faultNotice (rx 9 [0, 0])) s).cycle.state = .starting ∧
    (after (.beacon 0 (beacon17 9 3 4)) (after (.lineIdle 0) (after (.frameNotAccepted 0 .faultNotice (rx 9 [0, 0])) s))).cycle.state =
      .scanning := by unfold PeersSafe; decide
/-- The receive error count at 14, 15 and 255. -/
theorem witness_discarded :
    let at_ := fun n : Nat => (station .power .idle).setLine { Line.powerOn with rx := .receiving, rxErr := n }
    (after (.discardedFrame 0 .crc) (at_ 14)).isLatched .frameErrors = false ∧
    (after (.discardedFrame 0 .crc) (at_ 15)).isLatched .frameErrors = true ∧
    (after (.discardedFrame 0 .crc) (at_ 255)).line.rxErr = 255 ∧ (at_ 15).isMasked .frameErrors = false ∧
    (station .power .offline).cycle.state = .offline := by decide
theorem witness_duplicates :
    (station .power .joining).onLine = true ∧ (station .power .joining).isMasked .duplicateStation = false ∧
    (station .power .joining).isLatched .duplicateStation = false ∧
    (station .power .joining).isFatal .duplicateStation = true ∧ heatingPower.inCycle = true ∧
    heatingPower.line.dupSeen = false ∧ ReportWaits heatingPower ∧ Kind.beacon ≠ .join := by
  unfold ReportWaits; decide
theorem witness_reception_start :
    (heatingPower.setLine { heatingPower.line with idle := true }).line.idle = true ∧
    heatingPower.line.idle = false := by decide

/-- A station that drives the frame. -/
def driving (k : Kind) (words : List Nat) (txErr : Nat) (s : State) : State :=
  let f := s.ownFrame k broadcast (words.map w)
  (s.setSched { s.sched with offered := some ⟨f, 1⟩ }).setLine { s.line with attempt := some f, txErr := txErr }

theorem witness_line_idle :
    let offer := heatingPower.setSched { heatingPower.sched with offered := some ⟨beaconFrame heatingPower, 0⟩ }
    let abort := heatingPower.setSched { heatingPower.sched with abortQ := some (abortFrame heatingPower) }
    offer.line.attempt = none ∧ offer.onLine = true ∧ offer.sched.offered.isSome = true ∧
    abort.sched.offered = none ∧ abort.sched.abortQ = some (abortFrame heatingPower) ∧
    heatingPower.sched.offered = none ∧ heatingPower.sched.abortQ = none ∧ heatingPower.sched.beaconQ = none ∧
    heatingPower.sched.sliceQ = [] ∧ heatingPower.sched.reportQ = [] := by decide
/-- The default table from entry 2 on: SLICE is passed over while it is empty, REPORT is chosen at 3; JOINING goes on to 4. -/
theorem witness_phase_table :
    let notice := sliceNoticeFrame heatingPower 85 0
    let report := cycleSummaryFrame heatingPower
    let at_ := fun s : State => s.setSched { s.sched with phasePtr := 2, reportQ := [report] }
    let slice := (at_ heatingPower).setSched { (at_ heatingPower).sched with sliceQ := [notice] }
    let joining := (at_ (station .power .joining)).setSched
      { (at_ (station .power .joining)).sched with sliceQ := [notice], beaconQ := some (joinFrame heatingPower) }
    let offer := fun s : State => (after (.lineIdle 0) s).sched.offered.map fun o => (o.frame.kind, o.entry)
    offer (at_ heatingPower) = some (.cycleSummary, 3) ∧ offer slice = some (.sliceNotice, 2) ∧
    offer joining = some (.join, 4) ∧ (after (.lineIdle 0) joining).sched.phasePtr = 5 ∧
    offer (joining.setSched { joining.sched with beaconQ := none }) = none ∧ joining.sched.sliceQ ≠ [] := by decide
/-- A notice driven, with and without an ABORT waiting; a beacon driven; the error count at 30 and at 31. -/
theorem witness_outcomes :
    let s := driving .sliceNotice [0x0211, 85, 84, 899] 30 heatingPower
    let aborts := s.setSched { s.sched with abortQ := some (abortFrame s) }
    let last := driving .sliceNotice [0x0211, 85, 84, 899] 31 heatingPower
    (s.line.attempt.map (·.kind) = some .sliceNotice ∧ s.sched.abortQ = none ∧ s.line.txErr < 31 ∧
      s.sched.offered.map (fun o => classOf o.frame.kind) = some .slice) ∧
    (aborts.sched.abortQ = some (abortFrame s) ∧ aborts.line.attempt.isSome = true) ∧
    (last.line.txErr = 31 ∧ last.onLine = true ∧ last.latchable .lineOff = true ∧ last.isFatal .lineOff = true) ∧
    (driving .beacon [0, 0, 0, 0, 0xFF00] 0 heatingPower).line.attempt.map (·.kind) = some .beacon ∧
    heatingPower.line.attempt = none := by decide
/-- What a lost attempt does with a REPORT, an ABORT, a late JOIN, a newer beacon and a refresh that is due. -/
theorem witness_lost_offers :
    let abort := abortFrame heatingPower
    let queued := fun s : State => s.setSched { s.sched with abortQ := some abort }
    let kinds := fun s : State => let t := (after (.lostContention 0) s).sched
      (t.offered.map (·.frame.kind), t.beaconQ.map (·.kind), t.reportQ.map (·.kind), t.abortQ.map (·.kind))
    let report := driving .cycleSummary [0] 0 heatingPower
    let join := driving .join [0x8020, 0, 0] 0 heatingPower
    let old := driving .beacon [0, 0, 0, 0, 0] 0 heatingPower
    let newer := old.setSched { old.sched with beaconQ := some (beaconFrame heatingPower) }
    let due := old.setSched { old.sched with refreshDue := true }
    kinds (queued report) = (some .abort, none, [.cycleSummary], none) ∧
    kinds (queued (driving .abort [17] 0 heatingPower)) = (some .abort, none, [], none) ∧
    kinds (queued join) = (none, none, [], some .abort) ∧ join.cycle.state ≠ .joining ∧
    kinds (queued newer) = (some .abort, some .beacon, [], none) ∧
    (after (.lostContention 0) due).sched.offered.map (·.frame) = some (beaconFrame due) ∧
    (after (.lostContention 0) old).sched.offered.map (·.frame.words) = some [0, 0, 0, 0, 0] := by decide
theorem witness_beacon_due :
    let s := heatingPower.setSched { heatingPower.sched with beaconTimer := some 8 }
    let offered := s.setSched { s.sched with offered := some ⟨beaconFrame s, 0⟩ }
    (advance 8 s).sched.beaconTimer = some 0 ∧ (advance 7 s).sched.beaconTimer ≠ some 0 ∧ s.onLine = true ∧
    s.mayBegin = false ∧ s.sched.offers .beacon = false ∧ offered.line.attempt = none ∧ offered.mayBegin = false ∧
    offered.sched.offered.map (fun o => classOf o.frame.kind) = some .beacon := by decide
/-- A beacon due on an idle line begins at once. -/
theorem witness_beacon_due_idle :
    let s := (heatingPower.setSched { heatingPower.sched with beaconTimer := some 8 }).setLine
      { heatingPower.line with idle := true, rx := .waiting }
    s.mayBegin = true ∧ s.line.rx = .waiting ∧ s.sched.offers .beacon = false ∧
    ((after (.beaconTimerExpiry 8) s).line.attempt.map (·.kind)) = some .beacon := by decide
/-- JOINING with the JOIN due before the window's end, and at it, with and without a fatal kind latched. -/
theorem witness_join_due :
    let s := station .power .joining
    let due := (s.setSched { s.sched with joinTimer := some 8 }).setCycle { s.cycle with joinWindow := some 9 }
    let ends := advance 9 due
    let fatal := (latched .roleConflict due).setFault { due.fault with latches := 0x0024 }
    due.cycle.state = .joining ∧ (advance 8 due).sched.joinTimer = some 0 ∧ (advance 8 due).cycle.joinWindow ≠ some 0 ∧
    due.mayBegin = false ∧ due.sched.offers .beacon = false ∧ ends.cycle.joinWindow = some 0 ∧
    (∀ k ∈ allFaultKinds, due.isLatched k = true → due.isFatal k = false) ∧
    (fatal.isLatched .roleConflict = true ∧ fatal.isFatal .roleConflict = true ∧ fatal.isLatched .coastExpired = true ∧
      (after (.joinWindowEnd 9) fatal).fault.cause = some (.fault .roleConflict)) ∧ due.line.attempt = none ∧
    QueuesSafe due := by unfold QueuesSafe; decide
theorem witness_frame_forms :
    formOk .clear 0 [] = true ∧ sizeOk .clear [] = true ∧
    formOk .recipeHeader 0 (List.replicate 12 0xFFFF) = true ∧ sizeOk .recipeHeader (List.replicate 12 0xFFFF) = true := by
  decide
/-- An ABORT for cycle 1: cut short before its last bit, which is recessive, and with a sync bit and a CRC bit changed. -/
def abortOnLine : Frame := { kind := .abort, source := 9, destination := 15, words := [w 1] }
set_option maxRecDepth 4000 in
theorem test_cut_frame_read_on : receiveBits (wireBits abortOnLine).dropLast = .good abortOnLine := by decide
set_option maxRecDepth 4000 in
theorem witness_frame_changed :
    receiveBits ((wireBits abortOnLine).modify 9 (!·)) = .discarded .framing ∧
    receiveBits ((wireBits abortOnLine).modify 57 (!·)) = .discarded .crc := by decide

end Sys2Proof.Tests
end

section
/-! What a position update (R2) leaves in the tracker: one lemma for each of its stages, and the rules of R11, R13 and R15 that
follow. -/

namespace Sys2Proof.Machine

/-! ## A tracker write and the predicates of the state -/

@[simp] theorem setTracker_role (v : Tracker) (s : State) : (s.setTracker v).role = s.role := rfl
@[simp] theorem setTracker_inCycle (v : Tracker) (s : State) : (s.setTracker v).inCycle = s.inCycle := rfl
@[simp] theorem setTracker_direction (v : Tracker) (s : State) : (s.setTracker v).direction = s.direction := rfl

/-- The end of a command refreshes beacons alone, so the tracker is as the command left it. -/
@[simp] theorem settled_tracker (old new : State) : (settled old new).tracker = new.tracker := by
  unfold settled
  split
  · rfl
  · exact refreshBeacon_tracker new

theorem inCycle_iff (s : State) :
    s.inCycle = true ↔ s.cycle.state = .starting ∨ s.cycle.state = .scanning ∨ s.cycle.state = .done := by
  unfold State.inCycle
  cases s.cycle.state <;> simp [StationState.inCycle]

/-! ## The raw estimate -/

/-- The first stage of a position update: a TRAVEL station's period joins the window, and the raw estimate is computed. -/
def measureCarriage (s : State) : State := computeRaw (if s.role = some .travel then recordPeriod s else s)

/-- The raw estimate is computed in the tracker alone, with the held value and the due seeding as they were. -/
theorem measureCarriage_eq_setTracker (s : State) :
    ∃ t : Tracker, measureCarriage s = s.setTracker t ∧ t.held = s.tracker.held ∧ t.seedDue = s.tracker.seedDue := by
  by_cases h : s.role = some .travel
  · have r : (recordPeriod s).role = some .travel := h
    rw [measureCarriage, if_pos h, computeRaw, if_pos r]
    exact ⟨_, rfl, rfl, rfl⟩
  · rw [measureCarriage, if_neg h, computeRaw, if_neg h]
    exact ⟨_, rfl, rfl, rfl⟩

/-! ## The published estimate -/

theorem publish_estimate (s : State) :
    (publish s).tracker.estimate =
      if holdApplies s then further s.direction s.tracker.raw s.tracker.held else s.tracker.raw := rfl

theorem publish_held (s : State) : (publish s).tracker.held = (publish s).tracker.estimate := rfl

@[simp] theorem publish_raw (s : State) : (publish s).tracker.raw = s.tracker.raw := rfl
@[simp] theorem publish_role (s : State) : (publish s).role = s.role := rfl
@[simp] theorem publish_settings (s : State) : (publish s).settings = s.settings := rfl
@[simp] theorem publish_store (s : State) : (publish s).store = s.store := rfl

/-! ## Zone and crossings, and what a POWER station's engine is told -/

theorem updateZone_tracker (s : State) :
    (updateZone s).tracker = { s.tracker with
      zone := newZone s
      crossing := if holdApplies s then crossingOf s.tracker.sliceCount s.tracker.zone (newZone s) else none } := by
  unfold updateZone
  dsimp only
  split <;> rfl

@[simp] theorem updateZone_store (s : State) : (updateZone s).store = s.store := by
  unfold updateZone
  dsimp only
  split <;> rfl

theorem newZone_of_active {s : State} {a : ActiveCopy} (h : s.store.active = some a) :
    newZone s = zoneOf a.header s.tracker.tool := by simp [newZone, h]

theorem newZone_of_invalid {s : State} (h : s.store.active = none) : newZone s = .unset := by simp [newZone, h]

@[simp] theorem seedCurrentSlice_tracker (s : State) : (seedCurrentSlice s).tracker = s.tracker := by
  unfold seedCurrentSlice
  split <;> rfl

@[simp] theorem seedCurrentSlice_store (s : State) : (seedCurrentSlice s).store = s.store := by
  unfold seedCurrentSlice
  split <;> rfl

@[simp] theorem zeroOutside_tracker (was : Zone) (s : State) : (zeroOutside was s).tracker = s.tracker := by
  unfold zeroOutside
  split
  · exact zeroPower_tracker s
  · rfl

@[simp] theorem zeroOutside_store (was : Zone) (s : State) : (zeroOutside was s).store = s.store := by
  unfold zeroOutside
  split
  · exact zeroPower_store s
  · rfl

/-! ## The tool position -/

/-- A TRAVEL station has no tool. -/
theorem updateTool_of_travel {s : State} (h : s.role = some .travel) : updateTool s = s := if_pos h

theorem updateTool_tool {s : State} (h : s.role ≠ some .travel) :
    (updateTool s).tracker.tool = toolPosition s.tracker.estimate s.settings.toolOffset := by
  simp [updateTool, h, updateZone_tracker]

theorem updateTool_store (s : State) : (updateTool s).store = s.store := by
  by_cases h : s.role = some .travel
  · rw [updateTool_of_travel h]
  · simp [updateTool, h]

/-- The zone is that of the tool position just computed. -/
theorem updateTool_zone {s : State} (h : s.role ≠ some .travel) :
    (updateTool s).tracker.zone = newZone (updateTool s) := by
  simp [updateTool, h, updateZone_tracker, newZone]

/-- The stage leaves the published estimate, the held value and the raw estimate as they were. -/
theorem updateTool_keeps_estimates (s : State) :
    (updateTool s).tracker.estimate = s.tracker.estimate ∧ (updateTool s).tracker.held = s.tracker.held ∧
      (updateTool s).tracker.raw = s.tracker.raw := by
  by_cases h : s.role = some .travel
  · simp [updateTool_of_travel h]
  · simp [updateTool, h, updateZone_tracker]

/-- Of two carriage positions the greater gives no smaller a tool position (R13). -/
theorem toolPosition_mono (offset : Int) {a b : Nat} (h : a ≤ b) : toolPosition a offset ≤ toolPosition b offset := by
  simp only [toolPosition, clampPosition, Config.maxPosition]
  omega

/-! ## A whole position update -/

/-- Out of OFFLINE a position update computes the raw estimate in the tracker, publishes, and makes the tool's part; the
seeding is then no longer due (R2). -/
theorem positionUpdate_of_running {s : State} (h : s.cycle.state ≠ .offline) :
    ∃ t : Tracker, t.held = s.tracker.held ∧ t.seedDue = s.tracker.seedDue ∧
      positionUpdate s =
        let u := updateTool (publish (s.setTracker t))
        u.setTracker { u.tracker with seedDue := false } := by
  obtain ⟨t, measured, held, seed⟩ := measureCarriage_eq_setTracker s
  exact ⟨t, held, seed, by rw [← measured]; exact if_neg h⟩

/-- The published estimate is the raw one, or where the hold applies the further of it and the held value (R11). -/
theorem positionUpdate_estimate {s : State} (h : s.cycle.state ≠ .offline) :
    (positionUpdate s).tracker.estimate =
      if holdApplies s then further s.direction (positionUpdate s).tracker.raw s.tracker.held
      else (positionUpdate s).tracker.raw := by
  obtain ⟨t, held, seed, e⟩ := positionUpdate_of_running h
  obtain ⟨estimateKept, _, rawKept⟩ := updateTool_keeps_estimates (publish (s.setTracker t))
  simp [e, estimateKept, rawKept, publish_estimate, holdApplies, held, seed]

/-- The held value follows the published estimate (R11). -/
theorem positionUpdate_held {s : State} (h : s.cycle.state ≠ .offline) :
    (positionUpdate s).tracker.held = (positionUpdate s).tracker.estimate := by
  obtain ⟨t, _, _, e⟩ := positionUpdate_of_running h
  obtain ⟨estimateKept, heldKept, _⟩ := updateTool_keeps_estimates (publish (s.setTracker t))
  simp [e, estimateKept, heldKept, publish_held]

/-- The tool position is the published estimate moved by the tool offset (R13). -/
theorem positionUpdate_tool {s : State} (h : s.cycle.state ≠ .offline) (r : s.role ≠ some .travel) :
    (positionUpdate s).tracker.tool = toolPosition (positionUpdate s).tracker.estimate s.settings.toolOffset := by
  obtain ⟨t, _, _, e⟩ := positionUpdate_of_running h
  have role : (publish (s.setTracker t)).role ≠ some .travel := r
  obtain ⟨estimateKept, _, _⟩ := updateTool_keeps_estimates (publish (s.setTracker t))
  simp [e, updateTool_tool role, estimateKept]

theorem positionUpdate_store {s : State} (h : s.cycle.state ≠ .offline) : (positionUpdate s).store = s.store := by
  obtain ⟨t, _, _, e⟩ := positionUpdate_of_running h
  simp [e, updateTool_store]

/-- The zone is that of the tool position under the active copy, and UNSET while that is invalid (R14, R15). -/
theorem positionUpdate_zone {s : State} (h : s.cycle.state ≠ .offline) (r : s.role ≠ some .travel) :
    (positionUpdate s).tracker.zone = newZone (positionUpdate s) := by
  obtain ⟨t, _, _, e⟩ := positionUpdate_of_running h
  have role : (publish (s.setTracker t)).role ≠ some .travel := r
  rw [e]
  exact updateTool_zone role

/-- POSITION_UPDATE answers a next state, whose tracker is that of the position update made when its time has passed. -/
theorem exec_positionUpdate (ticks : Nat) (s : State) :
    ∃ t, exec (.positionUpdate ticks) s = .next t ∧ t.tracker = (positionUpdate (advance ticks s)).tracker :=
  ⟨_, rfl, settled_tracker _ _⟩

/-! ## The monotone hold -/

theorem holdApplies_iff (s : State) : holdApplies s = true ↔ s.inCycle = true ∧ s.tracker.seedDue = false := by
  simp [holdApplies]

/-- Where the hold does not apply the raw estimate is published (R11, R12). -/
theorem positionUpdate_estimate_free {s : State} (h : s.cycle.state ≠ .offline)
    (free : s.inCycle = false ∨ s.tracker.seedDue = true) :
    (positionUpdate s).tracker.estimate = (positionUpdate s).tracker.raw := by
  have off : holdApplies s = false := by rcases free with k | k <;> simp [holdApplies, k]
  rw [positionUpdate_estimate h, off, if_neg Bool.false_ne_true]

/-- Where the hold applies the further of raw estimate and held value is published (R11). -/
theorem positionUpdate_estimate_held {s : State} (h : s.cycle.state ≠ .offline) (on : holdApplies s = true) :
    (positionUpdate s).tracker.estimate = further s.direction (positionUpdate s).tracker.raw s.tracker.held := by
  rw [positionUpdate_estimate h, if_pos on]

/-- Under the hold of a scan UP neither estimate nor tool position falls (R11, R13). -/
theorem positionUpdate_hold_up {s : State} (h : s.cycle.state ≠ .offline) (on : holdApplies s = true)
    (up : s.direction = .up) :
    (positionUpdate s).tracker.estimate = max (positionUpdate s).tracker.raw s.tracker.held ∧
      s.tracker.held ≤ (positionUpdate s).tracker.estimate ∧
      (s.role ≠ some .travel → s.tracker.tool = toolPosition s.tracker.held s.settings.toolOffset →
        s.tracker.tool ≤ (positionUpdate s).tracker.tool) := by
  have greater := positionUpdate_estimate_held h on
  rw [up] at greater
  have ahead : s.tracker.held ≤ (positionUpdate s).tracker.estimate := greater ▸ Nat.le_max_right _ _
  refine ⟨greater, ahead, fun role tool => ?_⟩
  rw [tool, positionUpdate_tool h role]
  exact toolPosition_mono _ ahead

/-- Under the hold of a scan DOWN neither estimate nor tool position rises (R11, R13). -/
theorem positionUpdate_hold_down {s : State} (h : s.cycle.state ≠ .offline) (on : holdApplies s = true)
    (down : s.direction = .down) :
    (positionUpdate s).tracker.estimate = min (positionUpdate s).tracker.raw s.tracker.held ∧
      (positionUpdate s).tracker.estimate ≤ s.tracker.held ∧
      (s.role ≠ some .travel → s.tracker.tool = toolPosition s.tracker.held s.settings.toolOffset →
        (positionUpdate s).tracker.tool ≤ s.tracker.tool) := by
  have lesser := positionUpdate_estimate_held h on
  rw [down] at lesser
  have ahead : (positionUpdate s).tracker.estimate ≤ s.tracker.held := lesser ▸ Nat.min_le_right _ _
  refine ⟨lesser, ahead, fun role tool => ?_⟩
  rw [tool, positionUpdate_tool h role]
  exact toolPosition_mono _ ahead

/-- Settles O23: the position update is made in the state that `advance` reaches, where held value, seeding, direction and
station state are as before. -/
theorem monotoneHold : Obligations.MonotoneHold := by
  intro ticks s running
  obtain ⟨t, next, tracker⟩ := exec_positionUpdate ticks s
  have running' : (advance ticks s).cycle.state ≠ .offline := running
  refine ⟨t, next, ?_, fun states seeded => ?_, fun free => ?_⟩
  · rw [tracker]
    exact positionUpdate_held running'
  · have on : holdApplies (advance ticks s) = true := (holdApplies_iff _).2 ⟨(inCycle_iff s).2 states, seeded⟩
    rw [tracker]
    exact ⟨positionUpdate_hold_up running' on, positionUpdate_hold_down running' on⟩
  · rw [tracker]
    exact positionUpdate_estimate_free running' free

/-! ## Zones and slices -/

theorem zoneOf_up {h : Header} (d : h.direction = .up) (t : Nat) :
    (t < h.scanStart → zoneOf h t = .before) ∧
    (h.scanStart ≤ t → t < h.scanEnd → zoneOf h t = .inside ((t - h.scanStart) / h.sliceLength)) ∧
    (h.scanStart ≤ t → h.scanEnd ≤ t → zoneOf h t = .past) := by
  simp only [zoneOf, d]
  refine ⟨fun before => if_pos before, fun entered inside => ?_, fun entered past => ?_⟩
  · rw [if_neg (Nat.not_lt.2 entered), if_pos inside]
  · rw [if_neg (Nat.not_lt.2 entered), if_neg (Nat.not_lt.2 past)]

theorem zoneOf_down {h : Header} (d : h.direction = .down) (t : Nat) :
    (h.scanStart ≤ t → zoneOf h t = .before) ∧
    (h.scanEnd ≤ t → t < h.scanStart → zoneOf h t = .inside ((h.scanStart - 1 - t) / h.sliceLength)) ∧
    (t < h.scanStart → t < h.scanEnd → zoneOf h t = .past) := by
  simp only [zoneOf, d]
  refine ⟨fun before => if_pos before, fun inside entered => ?_, fun entered past => ?_⟩
  · rw [if_neg (Nat.not_le.2 entered), if_pos inside]
  · rw [if_neg (Nat.not_le.2 entered), if_neg (Nat.not_le.2 past)]

/-- The last position of a scan lies in the slice one below the slice count (R14). -/
theorem last_slice_eq_sliceCountOf_sub_one {h : Header} (l : 0 < h.sliceLength) {range : Nat} (r : 0 < range)
    (d : distance h.scanStart h.scanEnd = range) : (range - 1) / h.sliceLength = sliceCountOf h - 1 := by
  have shift : range + (h.sliceLength - 1) = range - 1 + h.sliceLength := by omega
  rw [sliceCountOf, d, ceilDiv, shift, Nat.add_div_right _ l, Nat.succ_sub_one]

/-- The two ends of a scan UP lie in the slices 0 and N − 1 (R15). -/
theorem zoneOf_ends_up {h : Header} (l : 0 < h.sliceLength) (d : h.direction = .up) (r : h.scanStart < h.scanEnd) :
    zoneOf h h.scanStart = .inside 0 ∧ zoneOf h (h.scanEnd - 1) = .inside (sliceCountOf h - 1) := by
  obtain ⟨_, first, _⟩ := zoneOf_up d h.scanStart
  obtain ⟨_, last, _⟩ := zoneOf_up d (h.scanEnd - 1)
  have range : distance h.scanStart h.scanEnd = h.scanEnd - h.scanStart := if_pos (Nat.le_of_lt r)
  constructor
  · rw [first (Nat.le_refl _) r, Nat.sub_self, Nat.zero_div]
  · rw [last (by omega) (by omega), Nat.sub_right_comm,
      last_slice_eq_sliceCountOf_sub_one l (Nat.sub_pos_of_lt r) range]

/-- The two ends of a scan DOWN lie in the slices 0 and N − 1 (R15). -/
theorem zoneOf_ends_down {h : Header} (l : 0 < h.sliceLength) (d : h.direction = .down) (r : h.scanEnd < h.scanStart) :
    zoneOf h (h.scanStart - 1) = .inside 0 ∧ zoneOf h h.scanEnd = .inside (sliceCountOf h - 1) := by
  obtain ⟨_, first, _⟩ := zoneOf_down d (h.scanStart - 1)
  obtain ⟨_, last, _⟩ := zoneOf_down d h.scanEnd
  have range : distance h.scanStart h.scanEnd = h.scanStart - h.scanEnd := if_neg (Nat.not_le.2 r)
  constructor
  · rw [first (by omega) (by omega), Nat.sub_self, Nat.zero_div]
  · rw [last (Nat.le_refl _) r, Nat.sub_right_comm,
      last_slice_eq_sliceCountOf_sub_one l (Nat.sub_pos_of_lt r) range]

theorem role_ne_travel {s : State} (h : s.role = some .power ∨ s.role = some .quench) : s.role ≠ some .travel := by
  rcases h with h | h <;> simp [h]

/-- POSITION_UPDATE in a POWER or QUENCH station leaves the zone of the new tool position under its active copy (R14, R15). -/
theorem exec_positionUpdate_zone (ticks : Nat) {s : State} (role : s.role = some .power ∨ s.role = some .quench)
    (running : s.cycle.state ≠ .offline) :
    ∃ t, exec (.positionUpdate ticks) s = .next t ∧
      (∀ a, s.store.active = some a → t.tracker.zone = zoneOf a.header t.tracker.tool) ∧
      (s.store.active = none → t.tracker.zone = .unset) := by
  obtain ⟨t, next, tracker⟩ := exec_positionUpdate ticks s
  have running' : (advance ticks s).cycle.state ≠ .offline := running
  have store : (positionUpdate (advance ticks s)).store = s.store := positionUpdate_store running'
  have zone := positionUpdate_zone running' (role_ne_travel role)
  rw [← tracker] at zone
  refine ⟨t, next, fun a active => ?_, fun invalid => ?_⟩
  · rw [zone, newZone_of_active (store ▸ active), tracker]
  · rw [zone, newZone_of_invalid (store ▸ invalid)]

/-- Settles O24: the zone is the formula's at the new tool position, and the formula is evaluated by scan direction. -/
theorem zonesAndSlices : Obligations.ZonesAndSlices := by
  refine ⟨fun ticks s a role running active => ?_, fun ticks s role running invalid => ?_, fun h l => ?_⟩
  · obtain ⟨t, next, zone, _⟩ := exec_positionUpdate_zone ticks role running
    refine ⟨t, next, ?_⟩
    rw [zone a active]
    exact ⟨fun d => zoneOf_up d _, fun d => zoneOf_down d _⟩
  · obtain ⟨t, next, _, unset⟩ := exec_positionUpdate_zone ticks role running
    exact ⟨t, next, unset invalid⟩
  · exact ⟨zoneOf_ends_up l, zoneOf_ends_down l⟩

end Sys2Proof.Machine
end

section
/-! What each check of a COMMIT (R25 to R32) answers, and the clamps (R33): the first element that fails in a list, then one
group of lemmas for each check. -/

namespace Sys2Proof.Machine

/-! ## The first failure in a list -/

/-- `x` stands at `k` and is the first of the list that fails. -/
def FirstAt {α : Type} (fails : Nat → α → Prop) (xs : List α) (k : Nat) (x : α) : Prop :=
  xs[k]? = some x ∧ fails k x ∧ ∀ j y, j < k → xs[j]? = some y → ¬ fails j y

theorem firstAt_cons_zero {α : Type} {fails : Nat → α → Prop} {y x : α} {ys : List α} :
    FirstAt fails (y :: ys) 0 x ↔ x = y ∧ fails 0 y := by
  constructor
  · rintro ⟨here, failed, _⟩
    cases here
    exact ⟨rfl, failed⟩
  · rintro ⟨rfl, failed⟩
    exact ⟨rfl, failed, fun j _ below => absurd below (Nat.not_lt_zero j)⟩

theorem firstAt_cons_succ {α : Type} {fails : Nat → α → Prop} {y x : α} {ys : List α} {k : Nat} :
    FirstAt fails (y :: ys) (k + 1) x ↔ ¬ fails 0 y ∧ FirstAt (fun i => fails (i + 1)) ys k x := by
  constructor
  · rintro ⟨here, failed, before⟩
    exact ⟨before 0 y (Nat.succ_pos k) rfl, here, failed,
      fun j z below there => before (j + 1) z (Nat.succ_lt_succ below) there⟩
  · rintro ⟨headPasses, here, failed, before⟩
    refine ⟨here, failed, fun j z below there => ?_⟩
    cases j with
    | zero => exact Option.some.inj there ▸ headPasses
    | succ j => exact before j z (Nat.lt_of_succ_lt_succ below) there

theorem find?_eq_some_iff_firstAt {α : Type} {p : α → Bool} {xs : List α} {x : α} :
    xs.find? p = some x ↔ ∃ k, FirstAt (fun _ y => p y = true) xs k x := by
  induction xs with
  | nil => simp [FirstAt]
  | cons y ys ih =>
    rw [← Nat.or_exists_add_one, firstAt_cons_zero]
    simp only [firstAt_cons_succ, exists_and_left, ← ih]
    by_cases h : p y = true <;> simp [h, eq_comm]

/-- A list passes when its head passes and its tail does, each of the tail one place further on. -/
theorem forall_getElem?_cons {α : Type} {passes : Nat → α → Prop} {y : α} {ys : List α} :
    (∀ k x, (y :: ys)[k]? = some x → passes k x) ↔
      passes 0 y ∧ ∀ k x, ys[k]? = some x → passes (k + 1) x := by
  rw [← Nat.and_forall_add_one]
  simp

/-- A check that fails at an element hands the element's index. -/
theorem map_checkResult_eq_some_iff {α : Type} {check : CommitCheck} {index : α → Nat} {found : Option α} {c : CheckResult} :
    (found.map fun x => (⟨check, some (index x)⟩ : CheckResult)) = some c ↔
      c.check = check ∧ ∃ x, found = some x ∧ c.index = some (index x) := by
  obtain ⟨made, place⟩ := c
  cases found <;> simp [eq_comm]

section FirstFailingSegment

variable {check : CommitCheck} {p : Segment → Bool} {passes : Segment → Prop} {segs : List Segment}

/-- A check that looks for a segment that does not pass finds the first one. -/
theorem find?_checkResult_eq_some_iff (spec : ∀ g, p g = true ↔ ¬ passes g) (c : CheckResult) :
    ((segs.find? p).map fun g => (⟨check, some g.index⟩ : CheckResult)) = some c ↔
      c.check = check ∧ ∃ (k : Nat) (g : Segment), segs[k]? = some g ∧ c.index = some g.index ∧ ¬ passes g ∧
        ∀ (j : Nat) (b : Segment), j < k → segs[j]? = some b → passes b := by
  rw [map_checkResult_eq_some_iff]
  simp only [find?_eq_some_iff_firstAt, FirstAt, spec, not_not]
  refine and_congr_right fun _ => ⟨?_, ?_⟩
  · rintro ⟨g, ⟨k, here, failed, before⟩, index⟩
    exact ⟨k, g, here, index, failed, before⟩
  · rintro ⟨k, g, here, index, failed, before⟩
    exact ⟨g, ⟨k, here, failed, before⟩, index⟩

theorem find?_checkResult_eq_none_iff (spec : ∀ g, p g = true ↔ ¬ passes g) :
    ((segs.find? p).map fun g => (⟨check, some g.index⟩ : CheckResult)) = none ↔ ∀ g ∈ segs, passes g := by
  simp only [Option.map_eq_none_iff, List.find?_eq_none, spec, not_not]

end FirstFailingSegment

/-! ## PRESENCE (R27) -/

theorem checkPresence_eq_none_iff {h : Header} {segs : List Segment} :
    checkPresence h segs = none ↔ ∀ i, i < h.segmentCount → ∃ g ∈ segs, g.index = i := by
  simp [checkPresence]

theorem checkPresence_eq_some_iff {h : Header} {segs : List Segment} {c : CheckResult} :
    checkPresence h segs = some c ↔ c.check = .presence ∧ ∃ i, c.index = some i ∧ i < h.segmentCount ∧
      (∀ g ∈ segs, g.index ≠ i) ∧ ∀ j, j < i → ∃ g ∈ segs, g.index = j := by
  rw [checkPresence, map_checkResult_eq_some_iff (index := fun i => i)]
  refine and_congr_right fun _ => exists_congr fun i => ?_
  rw [List.find?_range_eq_some]
  simp only [List.mem_range, Bool.not_eq_true', List.any_eq_false, List.any_eq_true, Bool.not_not, beq_iff_eq, ne_eq]
  tauto

/-! ## COUNT (R26) -/

theorem checkCount_of_bad_count {h : Header} (bad : h.segmentCount = 0 ∨ 32 < h.segmentCount) (segs : List Segment) :
    checkCount h segs = some ⟨.count, none⟩ := if_pos bad

theorem checkCount_of_good_count {h : Header} (good : ¬ (h.segmentCount = 0 ∨ 32 < h.segmentCount)) (segs : List Segment) :
    checkCount h segs =
      (segs.find? fun g => h.segmentCount ≤ g.index).map fun g => ⟨.count, some g.index⟩ := if_neg good

/-- A segment fails COUNT that is not below the count. -/
theorem beyond_count_iff (h : Header) (g : Segment) :
    decide (h.segmentCount ≤ g.index) = true ↔ ¬ g.index < h.segmentCount := by
  rw [decide_eq_true_iff, Nat.not_lt]

theorem checkCount_eq_none_iff {h : Header} (good : ¬ (h.segmentCount = 0 ∨ 32 < h.segmentCount)) (segs : List Segment) :
    checkCount h segs = none ↔ ∀ g ∈ segs, g.index < h.segmentCount := by
  rw [checkCount_of_good_count good, find?_checkResult_eq_none_iff (beyond_count_iff h)]

theorem checkCount_eq_some_iff {h : Header} (good : ¬ (h.segmentCount = 0 ∨ 32 < h.segmentCount)) (segs : List Segment)
    (c : CheckResult) :
    checkCount h segs = some c ↔ c.check = .count ∧ ∃ (k : Nat) (g : Segment), segs[k]? = some g ∧
      c.index = some g.index ∧ h.segmentCount ≤ g.index ∧
      ∀ (j : Nat) (b : Segment), j < k → segs[j]? = some b → b.index < h.segmentCount := by
  rw [checkCount_of_good_count good, find?_checkResult_eq_some_iff (beyond_count_iff h)]
  simp only [Nat.not_lt]

theorem index_lt_of_checkCount {h : Header} {segs : List Segment} (passed : checkCount h segs = none) :
    ∀ g ∈ segs, g.index < h.segmentCount := by
  rcases em (h.segmentCount = 0 ∨ 32 < h.segmentCount) with bad | good
  · rw [checkCount_of_bad_count bad] at passed
    cases passed
  · exact (checkCount_eq_none_iff good segs).1 passed

/-- After COUNT and PRESENCE the staged indices are those below the count. -/
theorem index_staged_iff {h : Header} {segs : List Segment} (count : checkCount h segs = none)
    (presence : checkPresence h segs = none) (i : Nat) : (∃ g ∈ segs, g.index = i) ↔ i < h.segmentCount := by
  constructor
  · rintro ⟨g, staged, rfl⟩
    exact index_lt_of_checkCount count g staged
  · exact checkPresence_eq_none_iff.1 presence i

/-! ## ORDER (R31) -/

/-- The end before the segment at `k`: `prev` at the head of the list. -/
def endBefore (prev : Option Nat) (segs : List Segment) : Nat → Option Nat
  | 0 => prev
  | k + 1 => segs[k]?.map (·.stop)

/-- The condition of R31 on the segment at `k`, as `orderFails` tests it there. -/
def Misplaced (prev : Option Nat) (segs : List Segment) (k : Nat) (g : Segment) : Prop :=
  g.stop ≤ g.start ∨ g.start < (endBefore prev segs k).getD 0

theorem misplaced_cons_succ (prev : Option Nat) (x : Segment) (segs : List Segment) :
    (fun k => Misplaced prev (x :: segs) (k + 1)) = Misplaced (some x.stop) segs := by
  funext k
  cases k <;> rfl

theorem misplaced_none_iff {segs : List Segment} {k : Nat} {g : Segment} :
    Misplaced none segs k g ↔
      g.stop ≤ g.start ∨ (0 < k ∧ ∃ b, segs[k - 1]? = some b ∧ g.start < b.stop) := by
  refine or_congr_right ?_
  cases k with
  | zero => simp [endBefore]
  | succ k => cases before : segs[k]? <;> simp [endBefore, before]

theorem orderFails_cons_of_misplaced {prev : Option Nat} {x : Segment} {segs : List Segment}
    (failed : Misplaced prev (x :: segs) 0 x) : orderFails prev (x :: segs) = some x.index := if_pos failed

theorem orderFails_cons_of_placed {prev : Option Nat} {x : Segment} {segs : List Segment}
    (passed : ¬ Misplaced prev (x :: segs) 0 x) : orderFails prev (x :: segs) = orderFails (some x.stop) segs :=
  if_neg passed

theorem orderFails_eq_some_iff {prev : Option Nat} {segs : List Segment} {i : Nat} :
    orderFails prev segs = some i ↔ ∃ k g, FirstAt (Misplaced prev segs) segs k g ∧ g.index = i := by
  induction segs generalizing prev with
  | nil => simp [orderFails, FirstAt]
  | cons x segs ih =>
    rw [← Nat.or_exists_add_one]
    simp only [firstAt_cons_zero, firstAt_cons_succ, misplaced_cons_succ]
    by_cases h : Misplaced prev (x :: segs) 0 x
    · simp [orderFails_cons_of_misplaced h, h]
    · simp [orderFails_cons_of_placed h, h, ih]

theorem orderFails_eq_none_iff {prev : Option Nat} {segs : List Segment} :
    orderFails prev segs = none ↔ ∀ k g, segs[k]? = some g → ¬ Misplaced prev segs k g := by
  induction segs generalizing prev with
  | nil => simp [orderFails]
  | cons x segs ih =>
    have shift := fun k => congrFun (misplaced_cons_succ prev x segs) k
    rw [forall_getElem?_cons]
    simp only [shift]
    by_cases h : Misplaced prev (x :: segs) 0 x
    · simp [orderFails_cons_of_misplaced h, h]
    · simp [orderFails_cons_of_placed h, h, ih]

theorem checkOrder_eq_none_iff {segs : List Segment} :
    checkOrder segs = none ↔ ∀ k g, segs[k]? = some g → ¬ Misplaced none segs k g := by
  rw [checkOrder, Option.map_eq_none_iff, orderFails_eq_none_iff]

theorem checkOrder_eq_some_iff {segs : List Segment} {c : CheckResult} :
    checkOrder segs = some c ↔ c.check = .order ∧ ∃ k g, segs[k]? = some g ∧ c.index = some g.index ∧
      Misplaced none segs k g ∧ ∀ j b, j < k → segs[j]? = some b → ¬ Misplaced none segs j b := by
  rw [checkOrder, map_checkResult_eq_some_iff (index := fun i => i)]
  simp only [orderFails_eq_some_iff, FirstAt]
  refine and_congr_right fun _ => ⟨?_, ?_⟩
  · rintro ⟨_, ⟨k, g, ⟨here, failed, before⟩, rfl⟩, index⟩
    exact ⟨k, g, here, index, failed, before⟩
  · rintro ⟨k, g, here, index, failed, before⟩
    exact ⟨g.index, ⟨k, g, ⟨here, failed, before⟩, rfl⟩, index⟩

/-- Where ORDER passes, no segment starts before the end before the list, and each ends before every later one starts. -/
theorem pairwise_of_orderFails_eq_none {prev : Option Nat} {segs : List Segment} (passed : orderFails prev segs = none) :
    (∀ g ∈ segs, prev.getD 0 ≤ g.start) ∧ segs.Pairwise fun a b => a.stop ≤ b.start ∧ a.start < b.start := by
  induction segs generalizing prev with
  | nil => simp
  | cons x segs ih =>
    have placed : ¬ Misplaced prev (x :: segs) 0 x := orderFails_eq_none_iff.1 passed 0 x rfl
    rw [orderFails_cons_of_placed placed] at passed
    obtain ⟨later, ordered⟩ := ih passed
    obtain ⟨nonempty, after⟩ := not_or.1 placed
    have start : prev.getD 0 ≤ x.start := Nat.not_lt.1 after
    have beyond : ∀ b ∈ segs, x.stop ≤ b.start := later
    refine ⟨List.forall_mem_cons.2 ⟨start, fun b mem => ?_⟩, List.pairwise_cons.2 ⟨fun b mem => ?_, ordered⟩⟩
    all_goals
      have := beyond b mem
      omega

/-- A table that passes ORDER is ascending, and no two segments of it overlap (R31). -/
theorem pairwise_of_checkOrder_eq_none {segs : List Segment} (passed : checkOrder segs = none) :
    segs.Pairwise fun a b => a.stop ≤ b.start ∧ a.start < b.start :=
  (pairwise_of_orderFails_eq_none (Option.map_eq_none_iff.1 passed)).2

/-! ## SUM (R28) -/

theorem commitSum_eq_sum_of_words (header : List Word) (segs : List StagedSegment) :
    commitSum header segs = ((header ++ segs.flatMap (·.words)).map (·.toNat)).sum % 65536 := by
  have segments : ((segs.map (·.words)).map fun ws => (ws.map (·.toNat)).sum).sum =
      ((segs.flatMap (·.words)).map (·.toNat)).sum := by
    induction segs with
    | nil => rfl
    | cons x segs ih => simp only [List.map_cons, List.sum_cons, List.flatMap_cons, List.map_append, List.sum_append, ih]
  rw [commitSum, List.map_cons, List.sum_cons, segments, List.map_append, List.sum_append]

/-! ## RANGE (R29, R30) -/

theorem headerInRange_iff (h : Header) :
    headerInRange h = true ↔ h.recipe ≠ 0 ∧ h.scanStart ≤ Config.maxPosition ∧ h.scanEnd ≤ Config.maxPosition ∧
      h.travelStart ≤ Config.maxPosition ∧ h.travelEnd ≤ Config.maxPosition ∧
      100 ≤ h.sliceLength ∧ h.sliceLength ≤ 2000 ∧
      (h.direction = .up → h.scanStart < h.scanEnd ∧ h.travelStart < h.travelEnd) ∧
      (h.direction = .down → h.scanEnd < h.scanStart ∧ h.travelEnd < h.travelStart) := by
  cases d : h.direction <;> simp [headerInRange, d, and_assoc]

theorem roleFieldsInRange_iff (fields : RoleFields) :
    roleFieldsInRange fields = true ↔ (∀ v, fields = .travel v → 1 ≤ v ∧ v ≤ Config.maxSpeed) ∧
      (∀ q, fields = .quench q → q.mode ≤ 2 ∧ q.onTime ≤ 1000 ∧ q.offTime ≤ 1000 ∧ q.delayMin ≤ q.delayMax ∧
        q.energyLow ≤ q.energyHigh) := by
  cases fields <;> simp [roleFieldsInRange, and_assoc]

/-- R30 on one segment, in the words of the claim. -/
def SegmentGood (g : Segment) : Prop :=
  g.start ≤ Config.maxPosition ∧ g.stop ≤ Config.maxPosition ∧ g.blend ≤ 10000 ∧
    (∀ v, g.fields = .travel v → 1 ≤ v ∧ v ≤ Config.maxSpeed) ∧
    (∀ q, g.fields = .quench q → q.mode ≤ 2 ∧ q.onTime ≤ 1000 ∧ q.offTime ≤ 1000 ∧ q.delayMin ≤ q.delayMax ∧
      q.energyLow ≤ q.energyHigh)

theorem segmentInRange_iff (g : Segment) : segmentInRange g = true ↔ SegmentGood g := by
  simp [segmentInRange, SegmentGood, roleFieldsInRange_iff, and_assoc]

/-- A segment fails RANGE that is not good. -/
theorem segment_out_of_range_iff (g : Segment) : (!segmentInRange g) = true ↔ ¬ SegmentGood g := by
  rw [← segmentInRange_iff, Bool.not_eq_true', Bool.not_eq_true]

theorem checkRange_of_bad_header {h : Header} (bad : ¬ headerInRange h = true) (segs : List Segment) :
    checkRange h segs = some ⟨.range, none⟩ := if_neg bad

theorem checkRange_of_good_header {h : Header} (good : headerInRange h = true) (segs : List Segment) :
    checkRange h segs = (segs.find? fun g => !segmentInRange g).map fun g => ⟨.range, some g.index⟩ := if_pos good

theorem checkRange_eq_none_iff {h : Header} (good : headerInRange h = true) (segs : List Segment) :
    checkRange h segs = none ↔ ∀ g ∈ segs, SegmentGood g := by
  rw [checkRange_of_good_header good, find?_checkResult_eq_none_iff segment_out_of_range_iff]

theorem checkRange_eq_some_iff {h : Header} (good : headerInRange h = true) (segs : List Segment) (c : CheckResult) :
    checkRange h segs = some c ↔ c.check = .range ∧ ∃ (k : Nat) (g : Segment), segs[k]? = some g ∧
      c.index = some g.index ∧ ¬ SegmentGood g ∧
      ∀ (j : Nat) (b : Segment), j < k → segs[j]? = some b → SegmentGood b := by
  rw [checkRange_of_good_header good, find?_checkResult_eq_some_iff segment_out_of_range_iff]

/-! ## COVERAGE (R32) -/

/-- The segment at `k`, where one follows it, ends where that one starts. -/
def JoinedAt (segs : List Segment) (k : Nat) : Prop :=
  ∀ a b, segs[k]? = some a → segs[k + 1]? = some b → a.stop = b.start

theorem coverageFails_cons_of_joined {g n : Segment} {rest : List Segment} (upper : Nat)
    (joined : JoinedAt (g :: n :: rest) 0) : coverageFails upper g (n :: rest) = coverageFails upper n rest :=
  if_pos (joined g n rfl rfl)

/-- COVERAGE fails at the segment after the first gap. -/
theorem coverageFails_of_gap {upper k : Nat} {g a b : Segment} {rest : List Segment} (here : (g :: rest)[k]? = some a)
    (next : (g :: rest)[k + 1]? = some b) (gap : a.stop ≠ b.start) (before : ∀ j, j < k → JoinedAt (g :: rest) j) :
    coverageFails upper g rest = some b.index := by
  induction k generalizing g rest with
  | zero =>
    cases rest with
    | nil => cases next
    | cons n rest =>
      cases here
      cases next
      exact if_neg gap
  | succ k ih =>
    cases rest with
    | nil => cases here
    | cons n rest =>
      rw [coverageFails_cons_of_joined upper (before 0 (Nat.succ_pos k))]
      exact ih here next fun j below => before (j + 1) (Nat.succ_lt_succ below)

/-- Where every segment joins the next, COVERAGE is decided by the last. -/
theorem coverageFails_of_joined {upper : Nat} {g z : Segment} {rest : List Segment}
    (joined : ∀ k, JoinedAt (g :: rest) k) (last : (g :: rest).getLast? = some z) :
    coverageFails upper g rest = if z.stop < upper then some z.index else none := by
  induction rest generalizing g with
  | nil =>
    cases last
    rfl
  | cons n rest ih =>
    rw [coverageFails_cons_of_joined upper (joined 0)]
    exact ih (fun k => joined (k + 1)) (List.getLast?_cons_cons ▸ last)

theorem checkCoverage_of_late_start {h : Header} {g : Segment} (late : min h.travelStart h.travelEnd < g.start)
    (rest : List Segment) : checkCoverage h (g :: rest) = some ⟨.coverage, some 0⟩ := if_pos late

theorem checkCoverage_of_start {h : Header} {g : Segment} (start : g.start ≤ min h.travelStart h.travelEnd)
    (rest : List Segment) : checkCoverage h (g :: rest) =
      (coverageFails (max h.travelStart h.travelEnd) g rest).map fun i => ⟨.coverage, some i⟩ :=
  if_neg (Nat.not_lt.2 start)

/-! ## The whole validation (R25) and the clamps (R33) -/

/-- Searching a list of results for the first failure is `<|>` down the list. -/
theorem findSome?_id_cons {α : Type} (x : Option α) (xs : List (Option α)) :
    (x :: xs).findSome? id = (x <|> xs.findSome? id) := by
  cases x <;> rfl

/-- The first check that fails ends the validation. -/
theorem validateStaged_eq_findSome? (role : Role) (recipe sum : Nat) (h : StagedHeader) (segs : List StagedSegment) :
    validateStaged role recipe sum h segs =
      [checkCount h.header (segs.map (·.segment)), checkPresence h.header (segs.map (·.segment)),
        checkSum recipe sum h segs, checkRange h.header (segs.map (·.segment)), checkOrder (segs.map (·.segment)),
        if role = .travel then checkCoverage h.header (segs.map (·.segment)) else none].findSome? id := by
  simp only [findSome?_id_cons, List.findSome?_nil, Option.orElse_eq_orElse, Option.orElse_eq_or, Option.or_none,
    validateStaged]

theorem clampSegment_blend (rated : Nat) (g : Segment) :
    (clampSegment rated g).blend = if g.stop - g.start < g.blend then g.stop - g.start else g.blend := by
  rw [clampSegment, min_comm, min_def_lt]

theorem clampSegment_travel {rated v : Nat} {g : Segment} (fields : g.fields = .travel v) :
    (clampSegment rated g).fields = .travel (if rated < v then rated else v) := by
  simp only [clampSegment, fields, min_comm v, min_def_lt]

theorem clampSegment_power {rated n : Nat} {e : Bool} {g : Segment} (fields : g.fields = .power e n) :
    (clampSegment rated g).fields = g.fields := by
  simp only [clampSegment, fields]

theorem clampSegment_quench {rated : Nat} {q : QuenchFields} {g : Segment} (fields : g.fields = .quench q) :
    (clampSegment rated g).fields = .quench { q with
      onTime := if q.onTime = 0 then 1 else q.onTime, offTime := if q.offTime = 0 then 1 else q.offTime } := by
  simp only [clampSegment, fields, max_def_lt, Nat.lt_one_iff]

/-- Settles O54: each check by the first element that fails it, the clamps by the role of the segment's fields. -/
theorem commitChecks : Obligations.CommitChecks := by
  refine ⟨fun h segs => ?presence, fun segs => ?order, fun h segs => ?count, fun recipe sum h segs => ?sum,
    fun h segs => ?range, fun h g rest => ?coverage, validateStaged_eq_findSome?, fun rated g => ?clamps⟩
  case presence => exact ⟨checkPresence_eq_none_iff, fun c => checkPresence_eq_some_iff, index_staged_iff⟩
  case order =>
    simp only [← misplaced_none_iff]
    exact ⟨checkOrder_eq_none_iff, fun c => checkOrder_eq_some_iff, pairwise_of_checkOrder_eq_none⟩
  case count =>
    refine ⟨fun bad => checkCount_of_bad_count bad segs, fun positive bounded => ?_⟩
    have good : ¬ (h.segmentCount = 0 ∨ 32 < h.segmentCount) := by omega
    exact ⟨checkCount_eq_none_iff good segs, checkCount_eq_some_iff good segs⟩
  case sum => rw [checkSum, commitSum_eq_sum_of_words]
  case range =>
    refine ⟨fun bad => checkRange_of_bad_header (mt (headerInRange_iff h).1 bad) segs, fun headerGood => ?_⟩
    have good : headerInRange h = true := (headerInRange_iff h).2 headerGood
    exact ⟨checkRange_eq_none_iff good segs, checkRange_eq_some_iff good segs⟩
  case coverage =>
    refine ⟨fun late => checkCoverage_of_late_start late rest, fun start k a b here next gap before => ?_,
      fun start joined z last => ?_⟩
    · rw [checkCoverage_of_start start, coverageFails_of_gap here next gap before, Option.map_some]
    · rw [checkCoverage_of_start start, coverageFails_of_joined joined last, apply_ite (Option.map _), Option.map_some,
        Option.map_none]
  case clamps =>
    exact ⟨rfl, rfl, rfl, clampSegment_blend rated g, fun v => clampSegment_travel, fun e n => clampSegment_power,
      fun q => clampSegment_quench⟩

end Sys2Proof.Machine
end

section
/-! The step generator (R96): the search for a prescaler as the least of an ascending list that fits, and the load that stands
for the command through everything that can follow it in a control step. -/

namespace Sys2Proof.Machine

/-! ## The least prescaler that fits -/

/-- In an ascending list the first hit of a search is the least: what is smaller has failed the test. -/
theorem find?_least {q : Nat → Bool} {b : Nat} {xs : List Nat} (ascending : xs.Pairwise (· < ·))
    (found : xs.find? q = some b) {a : Nat} (mem : a ∈ xs) (smaller : a < b) : q a = false := by
  obtain ⟨-, before, after, rfl, failed⟩ := List.find?_eq_some_iff_append.1 found
  obtain ⟨-, rest, -⟩ := List.pairwise_append.1 ascending
  rcases List.mem_append.1 mem with early | late
  · simpa using failed a early
  · rcases List.mem_cons.1 late with rfl | later
    · exact absurd smaller (Nat.lt_irrefl _)
    · exact absurd smaller (Nat.lt_asymm ((List.pairwise_cons.1 rest).1 a later))

theorem prescalers_ascending : prescalers.Pairwise (· < ·) := by decide

/-- The slowest command, 1 step per second, has a preset that fits at prescaler 16, and so has every faster one. -/
theorem preset_fits_at_sixteen {v : Nat} (moving : 0 < v) : roundedHalf v 16 - 1 ≤ Config.max16 := by
  have bound : roundedHalf v 16 ≤ 65536 := Nat.div_le_of_le_mul (by omega)
  simp only [Config.max16]
  omega

theorem generatorLoad_zero : generatorLoad 0 = none := if_pos rfl

/-- For a command above 0 the load is the least prescaler whose preset fits sixteen bits, with that preset (R96). -/
theorem generatorLoad_of_pos {v : Nat} (moving : 0 < v) :
    ∃ p ∈ prescalers, generatorLoad v = some (p, roundedHalf v p - 1) ∧ roundedHalf v p - 1 ≤ Config.max16 ∧
      ∀ p' ∈ prescalers, p' < p → Config.max16 < roundedHalf v p' - 1 := by
  have exists_fit : (prescalers.find? fun p => decide (roundedHalf v p - 1 ≤ Config.max16)).isSome :=
    List.find?_isSome.2 ⟨16, by decide, decide_eq_true (preset_fits_at_sixteen moving)⟩
  obtain ⟨p, found⟩ := Option.isSome_iff_exists.1 exists_fit
  refine ⟨p, List.mem_of_find?_eq_some found, ?_, by simpa using List.find?_some found, fun p' mem smaller => ?_⟩
  · rw [generatorLoad, if_neg (Nat.ne_of_gt moving), found, Option.map_some]
  · exact Nat.lt_of_not_le (of_decide_eq_false (find?_least prescalers_ascending found mem smaller))

/-! ## The load stands for the command -/

/-- The generator holds the load of the speed command as it stands. -/
def State.GeneratorLoaded (s : State) : Prop := s.travel.load = generatorLoad s.travel.command

/-- What leaves the load and the command as they are keeps the generator loaded. -/
theorem State.GeneratorLoaded.congr {s t : State} (loaded : s.GeneratorLoaded) (load : t.travel.load = s.travel.load)
    (command : t.travel.command = s.travel.command) : t.GeneratorLoaded := by
  rw [State.GeneratorLoaded, load, command]; exact loaded

@[simp] theorem risen_command (first : Nat) (t : Travel) : (t.risen first).command = t.command := by
  unfold Travel.risen; split <;> rfl

@[simp] theorem loadSteps_command (t : Travel) : (loadSteps t).command = t.command := by
  unfold loadSteps
  split
  · rfl
  · split <;> simp

@[simp] theorem loadSteps_load (t : Travel) : (loadSteps t).load = generatorLoad t.command := by
  unfold loadSteps
  split
  · simp [*]
  · split <;> simp [*]

theorem generatorLoaded_setTravel_loadSteps (t : Travel) (s : State) : (s.setTravel (loadSteps t)).GeneratorLoaded := by
  simp [State.GeneratorLoaded]

/-! ## What the entry to DONE, and an overflow there, can do to load and command -/

@[simp] theorem beginSpindleHold_load (s : State) : (beginSpindleHold s).travel.load = s.travel.load := by
  unfold beginSpindleHold; split <;> rfl

@[simp] theorem beginSpindleHold_command (s : State) : (beginSpindleHold s).travel.command = s.travel.command := by
  unfold beginSpindleHold; split <;> rfl

@[simp] theorem abortFromCycle_load (s : State) : (abortFromCycle s).travel.load = s.travel.load := by
  simp [abortFromCycle]

@[simp] theorem abortFromCycle_command (s : State) : (abortFromCycle s).travel.command = s.travel.command := by
  simp [abortFromCycle]

/-- At an abort the command falls from where it is: the entry itself leaves it and the load (R63). -/
theorem enterAborted_load (c : AbortCause) (s : State) : (enterAborted c s).travel.load = s.travel.load := by
  unfold enterAborted; split <;> simp [markAborted]

theorem enterAborted_command (c : AbortCause) (s : State) : (enterAborted c s).travel.command = s.travel.command := by
  unfold enterAborted; split <;> simp [markAborted]

theorem generatorLoaded_enterAborted (c : AbortCause) {s : State} (loaded : s.GeneratorLoaded) :
    (enterAborted c s).GeneratorLoaded :=
  loaded.congr (enterAborted_load c s) (enterAborted_command c s)

/-- Silence leaves command and load in a cycle and in ABORTED, and elsewhere stops the generator with the command (R66). -/
theorem generatorLoaded_enterSilent (k : FaultKind) {s : State} (loaded : s.GeneratorLoaded) :
    (enterSilent k s).GeneratorLoaded := by
  unfold enterSilent
  split
  case isTrue => exact loaded.congr (by simp) (by simp)
  case isFalse =>
    split
    case isTrue => exact loaded.congr (by simp) (by simp)
    case isFalse => simp [State.GeneratorLoaded, Travel.stop, generatorLoad_zero]

/-- What Cycle Control can do at a fatal kind. -/
theorem actOnFatal_cases (k : FaultKind) (s : State) :
    actOnFatal k s = s ∨ actOnFatal k s = enterSilent k s ∨ actOnFatal k s = enterAborted (.fault k) s ∨
      actOnFatal k s = handAbort (abortFrame s) (enterAborted (.fault k) s) := by
  unfold actOnFatal
  cases s.cycle.state <;> cases k.silences <;> simp [enterAbortedOwn]

theorem generatorLoaded_actOnFatal (k : FaultKind) {s : State} (loaded : s.GeneratorLoaded) :
    (actOnFatal k s).GeneratorLoaded := by
  have aborted := generatorLoaded_enterAborted (.fault k) loaded
  rcases actOnFatal_cases k s with e | e | e | e <;> rw [e]
  · exact loaded
  · exact generatorLoaded_enterSilent k loaded
  · exact aborted
  · exact aborted.congr (by rw [handAbort_travel]) (by rw [handAbort_travel])

theorem generatorLoaded_reportOverflow (c : Captured) {s : State} (loaded : s.GeneratorLoaded) :
    (reportOverflow c s).GeneratorLoaded := by
  unfold reportOverflow tellCycle
  split
  case isFalse => exact loaded
  case isTrue =>
    have placed : (placeReport (faultNoticeFrame s .txOverflow none false)
        (latch ⟨.txOverflow, none, some c⟩ s)).GeneratorLoaded := loaded.congr (by simp) (by simp)
    split
    · exact generatorLoaded_actOnFatal .txOverflow placed
    · exact placed

theorem generatorLoaded_handReport (f : Frame) {s : State} (loaded : s.GeneratorLoaded) :
    (handReport f s).GeneratorLoaded := by
  have placed : (placeReport f s).GeneratorLoaded := loaded.congr (by simp) (by simp)
  unfold handReport
  split
  · exact generatorLoaded_reportOverflow _ placed
  · exact placed

theorem generatorLoaded_enterDone (e : EndKind) {s : State} (loaded : s.GeneratorLoaded) :
    (enterDone e s).GeneratorLoaded :=
  generatorLoaded_handReport _ (loaded.congr (by simp [markDone]) (by simp [markDone]))

/-! ## A control step -/

/-- The generator is loaded for the command the step computes, and the role end that may follow keeps it so (R90, R96). -/
theorem generatorLoaded_travelStep (s : State) : (travelStep s).GeneratorLoaded := by
  have loaded := generatorLoaded_setTravel_loadSteps (drive s { s.travel with target := travelTarget s }) s
  unfold travelStep travelRoleEnd
  dsimp only
  split
  · exact generatorLoaded_enterDone .normal loaded
  · exact loaded

theorem runs_iff (s : State) (r : Role) : s.runs r = true ↔ s.role = some r ∧ s.cycle.state ≠ .offline := by
  simp [State.runs]

@[simp] theorem settled_travel (old new : State) : (settled old new).travel = new.travel := by
  unfold settled
  split
  · rfl
  · exact refreshBeacon_travel new

/-- TRAVEL_CONTROL_STEP of a TRAVEL station out of OFFLINE answers the state that a control step leaves, settled. -/
theorem exec_travelControlStep_of_runs (ticks : Nat) {s : State} (running : s.runs .travel = true) :
    exec (.travelControlStep ticks) s = .next (settled s (travelStep (advance ticks s))) := by
  have later : (advance ticks s).runs .travel = true := running
  simp only [exec, execTravelControlStep, later, if_true, settle_next]

/-- Settles O35: the least prescaler that fits, and the load that a control step leaves with its command. -/
theorem stepGeneratorLoad : Obligations.StepGeneratorLoad := by
  refine ⟨generatorLoad_zero, fun v moving => ?least, fun ticks s role online => ?loaded⟩
  case least =>
    obtain ⟨p, mem, load, fits, least⟩ := generatorLoad_of_pos moving
    exact ⟨p, roundedHalf v p - 1, load, mem, rfl, fits, least, rfl⟩
  case loaded =>
    refine ⟨_, exec_travelControlStep_of_runs ticks ((runs_iff s .travel).2 ⟨role, online⟩), ?_⟩
    rw [settled_travel]
    exact generatorLoaded_travelStep (advance ticks s)

end Sys2Proof.Machine
end

section
/-! What a command can do to a station, said once: a chain of writes, each of which keeps its own block fit and writes only the
blocks it is given. The invariants, the frame of each command and the standing of the latches follow from the chain. -/

namespace Sys2Proof.Machine

/-! ## What fits a block: the part of an invariant that a write of one block must keep -/

/-- The pending quench list is ordered, within its capacity and in balance with its counts, `owed` entries having left it that
are not counted as judged yet (R110, R114, R121). -/
def ListFits (owed : Nat) (q : Quench) : Prop :=
  q.entries.Pairwise (fun a b => a.slice < b.slice) ∧ q.entries.length ≤ Config.listCapacity ∧
  q.nCreated = q.nJudged + q.nFlushed + q.entries.length + owed

/-- The valves and the pulse phase are what the state and role of `s` allow. -/
def ValvesFit (s : State) (q : Quench) : Prop :=
  (q.spray = true →
    s.cycle.state = .starting ∨ s.cycle.state = .scanning ∨ s.cycle.state = .aborted ∨ s.cycle.state = .silent) ∧
  (q.flood = true → s.cycle.state = .aborted ∨ s.cycle.state = .silent) ∧
  (q.pulse ≠ .idle → s.inCycle = true) ∧
  (s.role ≠ some .quench → q.spray = false ∧ q.flood = false ∧ q.pulse = .idle)

/-- Command, move, STEP and the idle engine are what the state, role and settings of `s` allow. -/
def TravelFits (s : State) (t : Travel) : Prop :=
  t.command ≤ s.settings.ratedSpeed ∧
  ((s.cycle.state = .offline ∨ s.cycle.state = .joining ∨ s.cycle.state = .armed) → t.command = 0) ∧
  (∀ m ∈ t.move, s.cycle.state = .idle ∧ s.role = some .travel ∧ m.speed ≤ s.settings.ratedSpeed) ∧
  (t.half = none → t.step = false) ∧
  (t.rise.isSome = true → t.step = true ∧ t.half.isSome = true) ∧
  (s.role ≠ some .travel → t = Travel.powerOn)

/-- Each queue holds frames of its class, within its capacity. -/
def QueuesFit (q : Sched) : Prop :=
  (∀ f ∈ q.abortQ, classOf f.kind = .abort) ∧ (∀ f ∈ q.beaconQ, classOf f.kind = .beacon) ∧
  (∀ f ∈ q.sliceQ, classOf f.kind = .slice) ∧ (∀ f ∈ q.reportQ, classOf f.kind = .report) ∧
  q.sliceOccupancy ≤ Config.sliceCapacity ∧ q.reportOccupancy ≤ Config.reportCapacity

/-- Queues, offer and attempt are what a station on the line, or off it, may have. -/
def LineFits (onLine : Bool) (q : Sched) (l : Line) : Prop :=
  (l.attempt.isSome = true → onLine = true ∧ l.idle = false ∧ q.offered.isSome = true ∧ l.rx = .ownFrame) ∧
  (onLine = false →
    q.abortQ = none ∧ q.beaconQ = none ∧ q.sliceQ = [] ∧ q.reportQ = [] ∧ q.offered = none) ∧
  l.txErr ≤ Config.lineOffCount ∧ l.rxErr ≤ 255

/-- The entries are one a number, none of them the station's own, a LOST one without a timer, a TRAVEL one without role data. -/
def PeersFit (s : State) (l : List Peer) : Prop :=
  l.Pairwise (fun a b => a.number < b.number) ∧
  (∀ p ∈ l, p.number ≠ 0 ∧ p.number ≠ 15 ∧ s.ownNumber ≠ some p.number) ∧
  (∀ p ∈ l, p.live = false → p.stale = none) ∧
  (∀ p ∈ l, p.role = .travel → p.data = none)

/-- The Fault Unit `v` keeps what `s` has latched, recorded and counted, and latches no masked kind (file 11). -/
def FaultKept (s : State) (v : FaultUnit) : Prop :=
  (∀ k, s.isLatched k = true → v.latches.getLsbD (faultCode k) = true) ∧
  (∀ r, s.fault.record = some r → v.record = some r) ∧
  min s.fault.abortSeen Config.max16 ≤ v.abortSeen ∧
  (∀ k, s.isMasked k = true → s.isLatched k = false → v.latches.getLsbD (faultCode k) = false)

/-! ## Writes that several blocks share -/

/-- Every block at its power-on values, the straps sampled, the load begun (R176). -/
def freshStart (stn : StationNo) (roleCode : BitVec 2) (s : State) : State :=
  State.reset
    |>.setPins s.pins
    |>.setFreeDraws s.freeDraws
    |>.setPending s.pending
    |>.setLoader { number := stn, roleCode := roleCode, image := [], status := .loading }

/-- The values of a good load handed to the blocks (R180). -/
def configured (role : Role) (g : Settings) (s : State) : State :=
  s.setLoader { s.loader with status := .good }
    |>.setSettings g
    |>.setLine { s.line with rate := rateOfCode g.lineRateCode, idle := false, rx := .waiting }
    |>.setTracker (s.tracker.loaded role g)
    |>.setTravel { s.travel with tachWindow := if role = .travel then some Config.windowTicks else none }
    |>.setQuench { s.quench with flowWindow := if role = .quench then some Config.windowTicks else none }

/-- The blocks at entry to STARTING, before the start barrier is tested (R51). -/
def started (number : Nat) (roster : Marks16) (s : State) : State :=
  s.setCycle
      { s.cycle with state := .starting, number := number, roster := roster,
                     startTimer := timerMs s.settings.startTimeout }
    |>.setTracker { s.tracker with seedDue := true }
    |>.setPower s.power.started
    |>.setTravel (travelStarted s)
    |>.setSched { s.sched with dropCount := 0 }

theorem powerOn_eq (stn : StationNo) (roleCode : BitVec 2) (s : State) :
    powerOn stn roleCode s =
      if strapsBad stn roleCode then loadBad (freshStart stn roleCode s) else freshStart stn roleCode s := rfl

theorem loadGood_eq (r : Role) (g : Settings) (s : State) : loadGood r g s = enterJoining (configured r g s) := rfl

theorem enterStarting_eq (number : Nat) (roster : Marks16) (s : State) :
    enterStarting number roster s = testBarrier (started number roster s) := rfl

/-! ## The chain -/

/-- What a command that may write the blocks `bs` can make of `s`: a chain of writes. `clears` allows the Fault Unit to be
cleared; the count is that of the entries that have left the quench list and are not yet counted as judged. -/
inductive Acts (bs : List Block) (clears : Bool) (s : State) : Nat → State → Prop where
  | refl : Acts bs clears s 0 s
  | pins {k t} (v : Pins) : Acts bs clears s k t → .pins ∈ bs →
      (t.actuatorGood = true → v.actReady = true ∧ v.actFault = false) → Acts bs clears s k (t.setPins v)
  | actuator {k t} (v : Pins) : Acts bs clears s k t → [.pins, .power, .travel] ⊆ bs →
      Acts bs clears s k (actuatorDrops t.enable (t.setPins v))
  | loader {k t} (v : Loader) : Acts bs clears s k t → .loader ∈ bs → t.loader.status ≠ .good → v.status ≠ .good →
      v.number = t.loader.number → v.roleCode = t.loader.roleCode → Acts bs clears s k (t.setLoader v)
  | freshStart {k t} (stn : StationNo) (roleCode : BitVec 2) : Acts bs clears s k t → clears = true →
      [.clock, .loader, .settings, .tracker, .store, .peers] ++ reportBlocks ⊆ bs →
      Acts bs clears s 0 (freshStart stn roleCode t)
  | configured {k t} (r : Role) (g : Settings) : Acts bs clears s k t →
      [.loader, .settings, .tracker] ++ reportBlocks ⊆ bs → t.loader.status = .loading → t.role = some r →
      Acts bs clears s k (markJoining (configured r g t))
  | cycle {k t} (v : Cycle) : Acts bs clears s k t → .cycle ∈ bs → v.state = t.cycle.state →
      v.number = t.cycle.number → v.roster = t.cycle.roster → (v.startTimer = t.cycle.startTimer ∨ v.startTimer = none) →
      (v.joinWindow = t.cycle.joinWindow ∨ v.joinWindow = none) → Acts bs clears s k (t.setCycle v)
  | position {k t} : Acts bs clears s k t → [.tracker, .power] ⊆ bs → Acts bs clears s k (positionUpdate t)
  | tracker {k t} (v : Tracker) : Acts bs clears s k t → .tracker ∈ bs → v.zone = t.tracker.zone →
      v.tracked = t.tracker.tracked → v.coastExpired = t.tracker.coastExpired → Acts bs clears s k (t.setTracker v)
  | track {k t} (n : StationNo) (f : BeaconFields) : Acts bs clears s k t → .tracker ∈ bs →
      t.tracker.tracked.getD n = n → Acts bs clears s k (takeRecordOf n f t)
  | coast {k t} : Acts bs clears s k t → [.tracker, .power] ⊆ bs →
      Acts bs clears s k (zeroPower (t.setTracker { t.tracker with coastTimer := none, coastExpired := true }))
  | staging {k t} (g : Staging) : Acts bs clears s k t → .store ∈ bs →
      Acts bs clears s k (t.setStore { t.store with staging := g })
  | copies {k t} (v : Store) : Acts bs clears s k t → [.store, .tracker] ⊆ bs → Acts bs clears s k (t.setStore v)
  | power {k t} (v : Power) : Acts bs clears s k t → .power ∈ bs → (v.command = t.power.command ∨ v.command = 0) →
      Acts bs clears s k (t.setPower v)
  | compute {k t} : Acts bs clears s k t → .power ∈ bs → Acts bs clears s k (computePower t)
  | travel {k t} (v : Travel) : Acts bs clears s k t → .travel ∈ bs → (TravelFits t t.travel → TravelFits t v) →
      Acts bs clears s k (t.setTravel v)
  | quench {k k' t} (v : Quench) : Acts bs clears s k t → .quench ∈ bs → (ListFits k t.quench → ListFits k' v) →
      (ValvesFit t t.quench → ValvesFit t v) → Acts bs clears s k' (t.setQuench v)
  | peers {k t} (v : List Peer) : Acts bs clears s k t → .peers ∈ bs → (PeersFit t t.peers → PeersFit t v) →
      (t.trackedLive = true → (t.setPeers v).trackedLive = true) → Acts bs clears s k (t.setPeers v)
  | loses {k t} (p : Peer) : Acts bs clears s k t → .peers :: reportBlocks ⊆ bs → p ∈ t.peers →
      Acts bs clears s k (notifyPeer (lose p) false (t.setPeers (putPeer (lose p) t.peers)))
  | sched {k t} (v : Sched) : Acts bs clears s k t → .sched ∈ bs → (QueuesFit t.sched → QueuesFit v) →
      (LineFits t.onLine t.sched t.line → LineFits t.onLine v t.line) → Acts bs clears s k (t.setSched v)
  | line {k t} (v : Line) : Acts bs clears s k t → .line ∈ bs →
      (LineFits t.onLine t.sched t.line → LineFits t.onLine t.sched v) → Acts bs clears s k (t.setLine v)
  | fault {k t} (v : FaultUnit) : Acts bs clears s k t → .fault ∈ bs → (clears = false → FaultKept t v) →
      Acts bs clears s k (t.setFault v)
  | interlock {k t} (v : Interlock) : Acts bs clears s k t → .interlock ∈ bs → v.level = t.interlock.level →
      Acts bs clears s k (t.setInterlock v)
  | sample {k t} (v : Interlock) : Acts bs clears s k t → [.interlock, .power] ⊆ bs →
      Acts bs clears s k (holdBegins t.hold (t.setInterlock v))
  | freeDraws {k t} (n : Nat) : Acts bs clears s k t → .freeDraws ∈ bs → Acts bs clears s k (t.setFreeDraws n)
  | aborted {k t} (c : AbortCause) : Acts bs clears s k t → reportBlocks ⊆ bs →
      (t.cycle.state = .joining ∨ t.cycle.state = .idle ∨ t.cycle.state = .armed ∨ t.inCycle = true) →
      Acts bs clears s k (enterAborted c t)
  | silenced {k t} (f : FaultKind) : Acts bs clears s k t → reportBlocks ⊆ bs → t.onLine = true →
      Acts bs clears s k (enterSilent f t)
  | idle {k t} : Acts bs clears s k t → reportBlocks ⊆ bs →
      (t.cycle.state = .done ∨ t.cycle.state = .armed ∨ (t.cycle.state = .aborted ∧ t.quench.flood = false) ∨
        (t.cycle.state = .joining ∧ t.cycle.joinWindow = none)) → Acts bs clears s k (enterIdle t)
  | armed {t} : Acts bs clears s 0 t → reportBlocks ⊆ bs → (t.cycle.state = .idle ∨ t.cycle.state = .done) →
      Acts bs clears s 0 (enterArmed t)
  | started {k t} (number : Nat) (roster : Marks16) : Acts bs clears s k t → .tracker :: reportBlocks ⊆ bs →
      t.cycle.state = .armed → 1 ≤ number → number ≤ 255 → Acts bs clears s k (started number roster t)
  | scanning {k t} : Acts bs clears s k t → .cycle ∈ bs → t.cycle.state = .starting → Acts bs clears s k (enterScanning t)
  | done {k t} (e : EndKind) : Acts bs clears s k t → reportBlocks ⊆ bs → t.cycle.state = .scanning →
      Acts bs clears s k (markDone e t)
  | resetToIdle {k t} : Acts bs clears s k t → clears = true → [.tracker, .store] ++ reportBlocks ⊆ bs →
      t.cycle.state ≠ .offline →
      Acts bs clears s 0
        (startBeaconTimer ((resetBlocks t).setCycle { (resetBlocks t).cycle with state := .idle }))
  | resetToJoining {k t} : Acts bs clears s k t → clears = true → [.tracker, .store] ++ reportBlocks ⊆ bs →
      t.cycle.state = .silent → Acts bs clears s 0 (markJoining (resetBlocks t))

/-! ## The blocks a chain writes -/

/-- `t` is `s` but for the blocks `bs`; the queue of commands stands too. -/
def Writes (bs : List Block) (s t : State) : Prop :=
  t.pending = s.pending ∧ ∀ b, b ∉ bs → sameBlock s t b

theorem sameBlock_trans {s t u : State} {b : Block} (h : sameBlock s t b) (g : sameBlock t u b) : sameBlock s u b := by
  cases b <;> exact Eq.trans g h

theorem writes_trans {bs ws : List Block} {s t u : State} (sub : ws ⊆ bs) (h : Writes bs s t) (g : Writes ws t u) :
    Writes bs s u :=
  ⟨g.1.trans h.1, fun b out => sameBlock_trans (h.2 b out) (g.2 b fun mem => out (sub mem))⟩

theorem writes_mono {bs ws : List Block} {s t : State} (sub : ws ⊆ bs) (h : Writes ws s t) : Writes bs s t :=
  ⟨h.1, fun b out => h.2 b fun mem => out (sub mem)⟩

theorem writes_refl (bs : List Block) (s : State) : Writes bs s s := ⟨rfl, by rintro ⟨⟩ _ <;> rfl⟩

theorem writes_setPins (v : Pins) (t : State) : Writes [.pins] t (t.setPins v) :=
  ⟨rfl, by rintro ⟨⟩ <;> simp [sameBlock]⟩

theorem writes_setLoader (v : Loader) (t : State) : Writes [.loader] t (t.setLoader v) :=
  ⟨rfl, by rintro ⟨⟩ <;> simp [sameBlock]⟩

theorem writes_setCycle (v : Cycle) (t : State) : Writes [.cycle] t (t.setCycle v) :=
  ⟨rfl, by rintro ⟨⟩ <;> simp [sameBlock]⟩

theorem writes_setTracker (v : Tracker) (t : State) : Writes [.tracker] t (t.setTracker v) :=
  ⟨rfl, by rintro ⟨⟩ <;> simp [sameBlock]⟩

theorem writes_setStore (v : Store) (t : State) : Writes [.store] t (t.setStore v) :=
  ⟨rfl, by rintro ⟨⟩ <;> simp [sameBlock]⟩

theorem writes_setPower (v : Power) (t : State) : Writes [.power] t (t.setPower v) :=
  ⟨rfl, by rintro ⟨⟩ <;> simp [sameBlock]⟩

theorem writes_setTravel (v : Travel) (t : State) : Writes [.travel] t (t.setTravel v) :=
  ⟨rfl, by rintro ⟨⟩ <;> simp [sameBlock]⟩

theorem writes_setQuench (v : Quench) (t : State) : Writes [.quench] t (t.setQuench v) :=
  ⟨rfl, by rintro ⟨⟩ <;> simp [sameBlock]⟩

theorem writes_setPeers (v : List Peer) (t : State) : Writes [.peers] t (t.setPeers v) :=
  ⟨rfl, by rintro ⟨⟩ <;> simp [sameBlock]⟩

theorem writes_setSched (v : Sched) (t : State) : Writes [.sched] t (t.setSched v) :=
  ⟨rfl, by rintro ⟨⟩ <;> simp [sameBlock]⟩

theorem writes_setLine (v : Line) (t : State) : Writes [.line] t (t.setLine v) :=
  ⟨rfl, by rintro ⟨⟩ <;> simp [sameBlock]⟩

theorem writes_setFault (v : FaultUnit) (t : State) : Writes [.fault] t (t.setFault v) :=
  ⟨rfl, by rintro ⟨⟩ <;> simp [sameBlock]⟩

theorem writes_setInterlock (v : Interlock) (t : State) : Writes [.interlock] t (t.setInterlock v) :=
  ⟨rfl, by rintro ⟨⟩ <;> simp [sameBlock]⟩

theorem writes_setFreeDraws (v : Nat) (t : State) : Writes [.freeDraws] t (t.setFreeDraws v) :=
  ⟨rfl, by rintro ⟨⟩ <;> simp [sameBlock]⟩

theorem writes_zeroPower (t : State) : Writes [.power] t (zeroPower t) :=
  ⟨by simp, by rintro ⟨⟩ <;> simp [sameBlock]⟩

theorem writes_updateZone (t : State) : Writes [.tracker, .power] t (updateZone t) := by
  unfold updateZone
  dsimp only
  split
  · exact writes_trans (by decide) (writes_mono (by decide) (writes_setTracker _ t)) (writes_setPower _ _)
  · exact writes_mono (by decide) (writes_setTracker _ t)

theorem writes_updateTool (t : State) : Writes [.tracker, .power] t (updateTool t) := by
  by_cases r : t.role = some .travel
  case pos => rw [updateTool_of_travel r]; exact writes_refl _ t
  case neg =>
    have zoned := writes_trans (List.Subset.refl _)
      (writes_mono (by decide) (writes_setTracker { t.tracker with
        tool := toolPosition t.tracker.estimate t.settings.toolOffset } t)) (writes_updateZone _)
    have seeded : Writes [.tracker, .power] t (seedCurrentSlice (updateZone (t.setTracker { t.tracker with
        tool := toolPosition t.tracker.estimate t.settings.toolOffset }))) := by
      unfold seedCurrentSlice
      split
      · exact writes_trans (by decide) zoned (writes_setPower _ _)
      · exact zoned
    rw [updateTool, if_neg r]
    unfold zeroOutside
    dsimp only
    split
    · exact writes_trans (by decide) seeded (writes_zeroPower _)
    · exact seeded

theorem writes_positionUpdate (t : State) : Writes [.tracker, .power] t (positionUpdate t) := by
  by_cases h : t.cycle.state = .offline
  case pos => rw [positionUpdate, if_pos h]; exact writes_refl _ t
  case neg =>
    obtain ⟨v, -, -, e⟩ := positionUpdate_of_running h
    have tool : Writes [.tracker, .power] t (updateTool (publish (t.setTracker v))) :=
      writes_trans (List.Subset.refl _) (writes_mono (by decide) (writes_setTracker _ t)) (writes_updateTool _)
    rw [e]
    exact writes_trans (by decide) tool (writes_setTracker _ _)

theorem writes_actuatorDrops (enabled : Bool) (t : State) : Writes [.power, .travel] t (actuatorDrops enabled t) := by
  unfold actuatorDrops
  split
  · exact ⟨rfl, by rintro ⟨⟩ <;> simp [sameBlock]⟩
  · split
    · exact writes_mono (by decide) (writes_zeroPower t)
    · exact writes_refl _ t

theorem writes_holdBegins (held : Bool) (t : State) : Writes [.power] t (holdBegins held t) := by
  unfold holdBegins
  split
  · exact writes_zeroPower t
  · exact writes_refl _ t

theorem writes_testSpindleHold (t : State) : Writes [.travel] t (testSpindleHold t) :=
  ⟨rfl, by rintro ⟨⟩ <;> simp [sameBlock]⟩

theorem writes_testBarrier (t : State) : Writes [.cycle] t (testBarrier t) := by
  unfold testBarrier
  split
  · exact ⟨rfl, by rintro ⟨⟩ <;> simp [sameBlock]⟩
  · exact writes_refl _ t

/-- A peer marked LOST can complete no barrier, release the spindle, change the speed target and zero the power. -/
theorem writes_notifyPeer_of_not_beacon (p : Peer) (t : State) :
    Writes [.cycle, .travel, .power] t (notifyPeer p false t) := by
  have cycle : Writes [.cycle, .travel, .power] t (notifyCycle p false t) := by
    unfold notifyCycle
    split
    · exact writes_mono (by decide) (writes_testBarrier t)
    · exact writes_refl _ t
  have travel : Writes [.cycle, .travel, .power] t (notifyTravel p (notifyCycle p false t)) := by
    unfold notifyTravel recomputeTarget
    split
    · split
      · exact writes_trans (ws := [.travel]) (by decide)
          (writes_trans (ws := [.travel]) (by decide) cycle (writes_setTravel _ _)) (writes_testSpindleHold _)
      · exact writes_trans (by decide) cycle (writes_testSpindleHold _)
    · exact cycle
  unfold notifyPeer notifyPower
  split
  · exact writes_trans (by decide) travel (writes_zeroPower _)
  · exact travel

theorem writes_resetBlocks (t : State) :
    Writes ([.tracker, .store] ++ reportBlocks) t (resetBlocks t) := by
  unfold resetBlocks
  dsimp only
  split <;> exact ⟨by simp, by rintro ⟨⟩ <;> simp [sameBlock, reportBlocks]⟩

theorem writes_enterArmed (t : State) : Writes reportBlocks t (enterArmed t) := by
  unfold enterArmed
  dsimp only
  split <;> exact ⟨by simp, by rintro ⟨⟩ <;> simp [sameBlock, reportBlocks]⟩

theorem writes_freshStart (stn : StationNo) (roleCode : BitVec 2) (t : State) :
    Writes ([.clock, .loader, .settings, .tracker, .store, .peers] ++ reportBlocks) t (freshStart stn roleCode t) :=
  ⟨rfl, by rintro ⟨⟩ <;> simp [sameBlock, reportBlocks, freshStart]⟩

theorem writes_configured (r : Role) (g : Settings) (t : State) :
    Writes ([.loader, .settings, .tracker] ++ reportBlocks) t (markJoining (configured r g t)) :=
  ⟨rfl, by rintro ⟨⟩ <;> simp [sameBlock, reportBlocks, configured]⟩

theorem writes_started (number : Nat) (roster : Marks16) (t : State) :
    Writes (.tracker :: reportBlocks) t (started number roster t) :=
  ⟨rfl, by rintro ⟨⟩ <;> simp [sameBlock, reportBlocks, started]⟩

theorem writes_enterAborted (c : AbortCause) (t : State) : Writes reportBlocks t (enterAborted c t) :=
  ⟨by simp, by rintro ⟨⟩ <;> simp [sameBlock, reportBlocks]⟩

theorem writes_enterSilent (f : FaultKind) (t : State) : Writes reportBlocks t (enterSilent f t) :=
  ⟨by simp, by rintro ⟨⟩ <;> simp [sameBlock, reportBlocks]⟩

theorem writes_enterIdle (t : State) : Writes reportBlocks t (enterIdle t) :=
  ⟨by simp, by rintro ⟨⟩ <;> simp [sameBlock, reportBlocks]⟩

theorem writes_enterScanning (t : State) : Writes [.cycle] t (enterScanning t) :=
  ⟨by simp, by rintro ⟨⟩ <;> simp [sameBlock]⟩

theorem writes_markDone (e : EndKind) (t : State) : Writes reportBlocks t (markDone e t) :=
  ⟨by simp, by rintro ⟨⟩ <;> simp [sameBlock, reportBlocks]⟩

theorem writes_markJoining (t : State) : Writes reportBlocks t (markJoining t) :=
  ⟨by simp, by rintro ⟨⟩ <;> simp [sameBlock, reportBlocks]⟩

theorem writes_startBeaconTimer (t : State) : Writes [.sched] t (startBeaconTimer t) :=
  ⟨by simp, by rintro ⟨⟩ <;> simp [sameBlock]⟩

theorem subset_of_mem {b : Block} {bs : List Block} (h : b ∈ bs) : [b] ⊆ bs := by simpa using h

/-- A chain writes no block but those it is given. -/
theorem writes_of_acts {bs : List Block} {clears : Bool} {s t : State} {k : Nat} (h : Acts bs clears s k t) :
    Writes bs s t := by
  induction h with
  | refl => exact writes_refl bs s
  | pins v _ mem _ ih => exact writes_trans (subset_of_mem mem) ih (writes_setPins _ _)
  | actuator v _ sub ih =>
    exact writes_trans sub ih (writes_trans (ws := [.power, .travel]) (by decide)
      (writes_mono (by decide) (writes_setPins _ _)) (writes_actuatorDrops _ _))
  | loader v _ mem _ _ _ _ ih => exact writes_trans (subset_of_mem mem) ih (writes_setLoader _ _)
  | freshStart stn roleCode _ _ sub ih =>
    exact writes_trans sub ih (writes_freshStart _ _ _)
  | configured r g _ sub _ _ ih =>
    exact writes_trans sub ih (writes_configured _ _ _)
  | cycle v _ mem _ _ _ _ _ ih => exact writes_trans (subset_of_mem mem) ih (writes_setCycle _ _)
  | position _ sub ih => exact writes_trans sub ih (writes_positionUpdate _)
  | tracker v _ mem _ _ _ ih => exact writes_trans (subset_of_mem mem) ih (writes_setTracker _ _)
  | track n f _ mem _ ih => exact writes_trans (subset_of_mem mem) ih (writes_setTracker _ _)
  | coast _ sub ih =>
    exact writes_trans sub ih (writes_trans (ws := [.power]) (by decide)
      (writes_mono (by decide) (writes_setTracker _ _)) (writes_zeroPower _))
  | staging g _ mem ih => exact writes_trans (subset_of_mem mem) ih (writes_setStore _ _)
  | copies v _ sub ih => exact writes_trans sub ih (writes_mono (by decide) (writes_setStore _ _))
  | power v _ mem _ ih => exact writes_trans (subset_of_mem mem) ih (writes_setPower _ _)
  | compute _ mem ih => exact writes_trans (subset_of_mem mem) ih (writes_setPower _ _)
  | travel v _ mem _ ih => exact writes_trans (subset_of_mem mem) ih (writes_setTravel _ _)
  | quench v _ mem _ _ ih => exact writes_trans (subset_of_mem mem) ih (writes_setQuench _ _)
  | peers v _ mem _ _ ih => exact writes_trans (subset_of_mem mem) ih (writes_setPeers _ _)
  | loses p _ sub _ ih =>
    exact writes_trans sub ih (writes_trans (ws := [.cycle, .travel, .power]) (by decide)
      (writes_mono (by decide) (writes_setPeers _ _)) (writes_notifyPeer_of_not_beacon _ _))
  | sched v _ mem _ _ ih => exact writes_trans (subset_of_mem mem) ih (writes_setSched _ _)
  | line v _ mem _ ih => exact writes_trans (subset_of_mem mem) ih (writes_setLine _ _)
  | fault v _ mem _ ih => exact writes_trans (subset_of_mem mem) ih (writes_setFault _ _)
  | interlock v _ mem _ ih => exact writes_trans (subset_of_mem mem) ih (writes_setInterlock _ _)
  | sample v _ sub ih =>
    exact writes_trans sub ih (writes_trans (ws := [.power]) (by decide)
      (writes_mono (by decide) (writes_setInterlock _ _)) (writes_holdBegins _ _))
  | freeDraws n _ mem ih => exact writes_trans (subset_of_mem mem) ih (writes_setFreeDraws _ _)
  | aborted c _ sub _ ih => exact writes_trans sub ih (writes_enterAborted _ _)
  | silenced f _ sub _ ih => exact writes_trans sub ih (writes_enterSilent _ _)
  | idle _ sub _ ih => exact writes_trans sub ih (writes_enterIdle _)
  | armed _ sub _ ih => exact writes_trans sub ih (writes_enterArmed _)
  | started number roster _ sub _ _ _ ih =>
    exact writes_trans sub ih (writes_started _ _ _)
  | scanning _ mem _ ih => exact writes_trans (subset_of_mem mem) ih (writes_enterScanning _)
  | done e _ sub _ ih => exact writes_trans sub ih (writes_markDone _ _)
  | resetToIdle _ _ sub _ ih =>
    exact writes_trans sub ih (writes_trans (ws := [.sched]) (by decide)
      (writes_trans (ws := [.cycle]) (by decide) (writes_resetBlocks _) (writes_setCycle _ _))
      (writes_startBeaconTimer _))
  | resetToJoining _ _ sub _ ih =>
    exact writes_trans sub ih (writes_trans (ws := reportBlocks) (by decide) (writes_resetBlocks _)
      (writes_markJoining _))

/-- A chain that does not write the loader leaves the role. -/
theorem role_of_acts {bs : List Block} {clears : Bool} {s t : State} {k : Nat} (h : Acts bs clears s k t)
    (out : .loader ∉ bs) : t.role = s.role := by
  have loader : t.loader = s.loader := (writes_of_acts h).2 .loader out
  rw [State.role, State.role, loader]

end Sys2Proof.Machine
end

section
/-! The operations that commands share, as chains of writes. -/

namespace Sys2Proof.Machine

variable {bs : List Block} {clears : Bool} {s t : State} {k : Nat}

/-! ## Queues, offers and attempts -/

theorem queuesFit_offerFrom (i : Nat) (c : PhaseClass) {q : Sched} (free : q.offered = none) (h : QueuesFit q) :
    QueuesFit (offerFrom i c q) := by
  obtain ⟨aborts, beacons, slices, reports, sliceRoom, reportRoom⟩ := h
  cases c <;> unfold offerFrom <;> dsimp only <;> split <;>
    simp_all [QueuesFit, Sched.sliceOccupancy, Sched.reportOccupancy, Sched.offers]

theorem queuesFit_chosen (free : t.sched.offered = none) (h : QueuesFit t.sched) : QueuesFit (chosen t) := by
  unfold chosen
  split
  · obtain ⟨aborts, beacons, slices, reports, sliceRoom, reportRoom⟩ := h
    simp_all [QueuesFit, Sched.sliceOccupancy, Sched.reportOccupancy, Sched.offers]
  · split
    · exact queuesFit_offerFrom _ _ free h
    · exact h

/-- A frame put back in the queue it came from leaves the occupancies, its place as the offer being taken by an ABORT. -/
theorem queuesFit_displaceByAbort {q : Sched} (h : QueuesFit q) : QueuesFit (displaceByAbort q) := by
  obtain ⟨aborts, beacons, slices, reports, sliceRoom, reportRoom⟩ := h
  unfold displaceByAbort
  split
  · rename_i f o hf ho
    have abort : classOf f.kind = .abort := aborts f hf
    unfold returnOffer
    cases c : classOf o.frame.kind <;>
      simp_all [QueuesFit, Sched.sliceOccupancy, Sched.reportOccupancy, Sched.offers]
    cases hb : q.beaconQ <;> simp_all
  · exact ⟨aborts, beacons, slices, reports, sliceRoom, reportRoom⟩

theorem queuesFit_placeAbort {f : Frame} {attempted : Bool} {q : Sched} (c : classOf f.kind = .abort) (h : QueuesFit q) :
    QueuesFit (q.placeAbort f attempted) := by
  have waits : QueuesFit { q with abortQ := some f } := by
    obtain ⟨-, rest⟩ := h
    exact ⟨by simp [c], rest⟩
  unfold Sched.placeAbort
  split
  · exact waits
  · exact queuesFit_displaceByAbort waits

/-- The offered frame changed for one of the same class. -/
theorem queuesFit_offered {q : Sched} {o : Option Offer} (h : QueuesFit q)
    (c : ∀ c, ({ q with offered := o } : Sched).offers c = q.offers c) : QueuesFit { q with offered := o } := by
  obtain ⟨aborts, beacons, slices, reports, sliceRoom, reportRoom⟩ := h
  exact ⟨aborts, beacons, slices, reports, by simpa [Sched.sliceOccupancy, c] using sliceRoom,
    by simpa [Sched.reportOccupancy, c] using reportRoom⟩

theorem queuesFit_beaconQ {q : Sched} {b : Option Frame} (h : QueuesFit q) (c : ∀ f ∈ b, classOf f.kind = .beacon) :
    QueuesFit { q with beaconQ := b } := by
  obtain ⟨aborts, -, rest⟩ := h
  exact ⟨aborts, c, rest⟩

theorem queuesFit_placeBeacon {f : Frame} {attempted : Bool} {q : Sched} (c : classOf f.kind = .beacon)
    (h : QueuesFit q) : QueuesFit (q.placeBeacon f attempted) := by
  unfold Sched.placeBeacon
  split
  case isTrue offers =>
    refine queuesFit_offered h fun d => ?_
    cases ho : q.offered <;> simp_all [Sched.offers]
  case isFalse => exact queuesFit_beaconQ h (by simp [c])

theorem queuesFit_rebuilt {f : Frame} {attempted : Bool} {q : Sched} (c : f.kind = .beacon) (h : QueuesFit q) :
    QueuesFit (q.rebuilt f attempted) := by
  have beacons : ∀ g ∈ (if q.waitsBeacon then some f else q.beaconQ), classOf g.kind = .beacon := by
    obtain ⟨-, beacons, -⟩ := h
    split
    · simp [c, classOf]
    · exact beacons
  have offer : QueuesFit { q with
      offered := if q.offersBeacon && !attempted then q.offered.map fun o => { o with frame := f } else q.offered } := by
    refine queuesFit_offered h fun d => ?_
    split
    · cases ho : q.offered <;> simp_all [Sched.offers, Sched.offersBeacon]
    · rfl
  exact queuesFit_beaconQ offer beacons

/-- A write of the queues of a station on the line, which keeps the offer of an attempt under way. -/
theorem lineFits_sched {onLine : Bool} {q v : Sched} {l : Line} (on : onLine = true)
    (offer : l.attempt.isSome = true → q.offered.isSome = true → v.offered.isSome = true)
    (h : LineFits onLine q l) : LineFits onLine v l := by
  obtain ⟨attempt, -, errors⟩ := h
  exact ⟨fun driven => by obtain ⟨a, b, c, d⟩ := attempt driven; exact ⟨a, b, offer driven c, d⟩,
    fun off => by simp [on] at off, errors⟩

theorem lineFits_begun {onLine : Bool} {q : Sched} {l : Line} (on : onLine = true) (h : LineFits onLine q l) :
    LineFits onLine q (l.begun q.offered) := by
  obtain ⟨attempt, off, errors⟩ := h
  unfold Line.begun
  split
  · rename_i o ho
    exact ⟨fun _ => ⟨on, rfl, by simp [ho], rfl⟩, off, errors⟩
  · exact ⟨attempt, off, errors⟩

theorem displaceByAbort_offered {q : Sched} (h : q.offered.isSome = true) : (displaceByAbort q).offered.isSome = true := by
  unfold displaceByAbort; split <;> simp_all

theorem placeAbort_offered {f : Frame} {attempted : Bool} {q : Sched} (h : q.offered.isSome = true) :
    (q.placeAbort f attempted).offered.isSome = true := by
  unfold Sched.placeAbort
  cases attempted
  · exact displaceByAbort_offered (q := { q with abortQ := some f }) h
  · exact h

/-- An attempt begins, or nothing does. -/
theorem acts_tryBegin (h : Acts bs clears s k t) (sched : .sched ∈ bs) (line : .line ∈ bs) :
    Acts bs clears s k (tryBegin t) := by
  rcases tryBegin_cases t with e | ⟨may, e⟩ <;> rw [e]
  · exact h
  · obtain ⟨on, -, free⟩ := (mayBegin_iff t).1 may
    refine .line _ (.sched _ h sched (fun fits => ?_) (lineFits_sched on (by simp [free]))) line (lineFits_begun on)
    split
    case isTrue none => exact queuesFit_chosen (by simpa using none) fits
    case isFalse => exact fits

theorem acts_handAbort {f : Frame} (h : Acts bs clears s k t) (c : classOf f.kind = .abort) (sched : .sched ∈ bs)
    (line : .line ∈ bs) : Acts bs clears s k (handAbort f t) := by
  unfold handAbort
  split
  case isTrue on =>
    exact acts_tryBegin (.sched _ h sched (queuesFit_placeAbort c) (lineFits_sched on fun _ => placeAbort_offered)) sched line
  case isFalse => exact h

theorem acts_placeBeacon {f : Frame} (h : Acts bs clears s k t) (c : classOf f.kind = .beacon) (sched : .sched ∈ bs)
    (line : .line ∈ bs) : Acts bs clears s k (placeBeacon f t) := by
  unfold placeBeacon
  split
  case isTrue on =>
    refine acts_tryBegin (.sched _ h sched (queuesFit_placeBeacon c) (lineFits_sched on fun _ offered => ?_)) sched line
    unfold Sched.placeBeacon
    split <;> simpa using offered
  case isFalse => exact h

theorem reportOccupancy_append (f : Frame) (q : Sched) :
    ({ q with reportQ := q.reportQ ++ [f] } : Sched).reportOccupancy = q.reportOccupancy + 1 := by
  simp only [Sched.reportOccupancy, List.length_append, List.length_singleton, Nat.add_right_comm]
  rfl

theorem sliceOccupancy_append (f : Frame) (q : Sched) :
    ({ q with sliceQ := q.sliceQ ++ [f] } : Sched).sliceOccupancy = q.sliceOccupancy + 1 := by
  simp only [Sched.sliceOccupancy, List.length_append, List.length_singleton, Nat.add_right_comm]
  rfl

theorem acts_pushReport {f : Frame} (h : Acts bs clears s k t) (c : classOf f.kind = .report) (on : t.onLine = true)
    (room : t.sched.reportOccupancy < Config.reportCapacity) (sched : .sched ∈ bs) (line : .line ∈ bs) :
    Acts bs clears s k (pushReport f t) := by
  refine acts_tryBegin (.sched _ h sched (fun fits => ?_) (lineFits_sched on fun _ offered => offered)) sched line
  obtain ⟨aborts, beacons, slices, reports, sliceRoom, -⟩ := fits
  refine ⟨aborts, beacons, slices, ?_, sliceRoom, ?_⟩
  · simp only [List.mem_append, List.mem_singleton]
    rintro g (old | rfl)
    · exact reports g old
    · exact c
  · rw [reportOccupancy_append]; exact room

theorem acts_pushSlice {f : Frame} (h : Acts bs clears s k t) (c : classOf f.kind = .slice) (on : t.onLine = true)
    (room : t.sched.sliceOccupancy < Config.sliceCapacity) (sched : .sched ∈ bs) (line : .line ∈ bs) :
    Acts bs clears s k (pushSlice f t) := by
  refine acts_tryBegin (.sched _ h sched (fun fits => ?_) (lineFits_sched on fun _ offered => offered)) sched line
  obtain ⟨aborts, beacons, slices, reports, -, reportRoom⟩ := fits
  refine ⟨aborts, beacons, ?_, reports, ?_, reportRoom⟩
  · simp only [List.mem_append, List.mem_singleton]
    rintro g (old | rfl)
    · exact slices g old
    · exact c
  · rw [sliceOccupancy_append]; exact room

/-- A write of the scheduler that leaves queues and offer. -/
theorem acts_sched_same (h : Acts bs clears s k t) (sched : .sched ∈ bs) (v : Sched)
    (same : v = { v with abortQ := t.sched.abortQ, beaconQ := t.sched.beaconQ, sliceQ := t.sched.sliceQ,
                         reportQ := t.sched.reportQ, offered := t.sched.offered }) :
    Acts bs clears s k (t.setSched v) := by
  refine .sched v h sched (fun fits => ?_) (fun fits => ?_) <;> rw [same] <;> exact fits

theorem acts_countDrop (h : Acts bs clears s k t) (sched : .sched ∈ bs) : Acts bs clears s k (countDrop t) :=
  acts_sched_same h sched _ rfl

theorem acts_placeReport {f : Frame} (h : Acts bs clears s k t) (c : classOf f.kind = .report) (sched : .sched ∈ bs)
    (line : .line ∈ bs) : Acts bs clears s k (placeReport f t) := by
  unfold placeReport
  split
  case isTrue => exact h
  case isFalse on =>
    split
    case isTrue room => exact acts_pushReport h c (by simpa using on) room sched line
    case isFalse => exact acts_countDrop h sched

/-- A beacon that can be refreshed is, and a refresh that cannot be made yet is noted. -/
theorem acts_refreshBeacon (h : Acts bs clears s k t) (sched : .sched ∈ bs) (interlock : .interlock ∈ bs) :
    Acts bs clears s k (refreshBeacon t) := by
  have noted := acts_sched_same h sched (t.sched.noteRefresh t.line.attempt.isSome) rfl
  unfold refreshBeacon
  dsimp only
  split
  case isTrue =>
    refine .interlock _ (.sched _ noted sched (queuesFit_rebuilt rfl) fun fits => ?_) interlock rfl
    obtain ⟨attempt, off, errors⟩ := fits
    refine ⟨fun driven => ?_, fun offLine => ?_, errors⟩
    · obtain ⟨on, busy, offered, rx⟩ := attempt driven
      refine ⟨on, busy, ?_, rx⟩
      dsimp only [Sched.rebuilt]
      split
      · simpa using offered
      · exact offered
    · obtain ⟨noAbort, noBeacon, noSlice, noReport, noOffer⟩ := off offLine
      simp_all [Sched.rebuilt, Sched.waitsBeacon, Sched.offersBeacon]
  case isFalse => exact noted

/-- The end of a command that may change what beacons show. -/
theorem acts_settled (old : State) (h : Acts bs clears s k t) (sched : .sched ∈ bs) (interlock : .interlock ∈ bs) :
    Acts bs clears s k (settled old t) := by
  unfold settled
  split
  · exact h
  · exact acts_refreshBeacon h sched interlock

/-! ## Power, spindle and the Fault Unit -/

theorem acts_zeroPower (h : Acts bs clears s k t) (power : .power ∈ bs) : Acts bs clears s k (zeroPower t) := by
  unfold zeroPower
  split
  · exact .power _ h power (.inr rfl)
  · exact h

theorem acts_sendSetpoint (h : Acts bs clears s k t) (power : .power ∈ bs) : Acts bs clears s k (sendSetpoint t) :=
  .power _ h power (.inl rfl)

/-- Spindle hold is released in a TRAVEL station; in another role it never began. -/
theorem acts_testSpindleHold (h : Acts bs clears s k t) (travel : .travel ∈ bs) :
    Acts bs clears s k (testSpindleHold t) := by
  refine .travel _ h travel fun fits => ?_
  obtain ⟨command, rest, move, half, rise, idle⟩ := fits
  refine ⟨command, rest, move, half, rise, fun role => ?_⟩
  have never : t.travel.spindleHold = false := by rw [idle role]; rfl
  rw [never, Bool.false_and, ← never]
  exact idle role

theorem acts_recomputeTarget (h : Acts bs clears s k t) (travel : .travel ∈ bs) :
    Acts bs clears s k (recomputeTarget t) := by
  unfold recomputeTarget
  split
  case isTrue runs =>
    refine .travel _ h travel fun fits => ?_
    obtain ⟨command, rest, move, half, rise, -⟩ := fits
    exact ⟨command, rest, move, half, rise, fun role => absurd ((runs_iff t .travel).1 runs).1 role⟩
  case isFalse => exact h

theorem faultKept_latch {r : Report} (free : t.latchable r.kind = true) : FaultKept t (latch r t).fault := by
  obtain ⟨unmasked, -⟩ := (latchable_iff t r.kind).1 free
  have latched (k) : (latch r t).fault.latches.getLsbD (faultCode k) = (t.isLatched k || decide (r.kind = k)) :=
    latch_isLatched r t k
  refine ⟨fun k was => ?_, fun record filled => ?_, Nat.min_le_left _ _, fun k masked clear => ?_⟩
  · rw [latched k, was, Bool.true_or]
  · simp [latch, filled]
  · have other : r.kind ≠ k := fun e => by simp [e, masked] at unmasked
    rw [latched k, clear, decide_eq_false other, Bool.or_false]

theorem acts_latch {r : Report} (h : Acts bs clears s k t) (free : t.latchable r.kind = true) (fault : .fault ∈ bs) :
    Acts bs clears s k (latch r t) :=
  .fault _ h fault fun _ => faultKept_latch free

/-! ## Reports -/

theorem acts_actOnFatal (f : FaultKind) (h : Acts bs clears s k t) (w : reportBlocks ⊆ bs) :
    Acts bs clears s k (actOnFatal f t) := by
  have silent (on : t.onLine = true) := Acts.silenced f h w on
  have aborted (state) := Acts.aborted (.fault f) h w state
  unfold actOnFatal
  unfold State.onLine at silent
  unfold State.inCycle at aborted
  cases e : t.cycle.state <;> dsimp only <;> rw [e] at silent aborted
  case offline | silent => exact h
  case joining | aborted =>
    split
    · exact silent rfl
    · exact h
  case idle | armed =>
    split
    · exact silent rfl
    · exact aborted (by simp)
  case starting | scanning | done =>
    split
    · exact silent rfl
    · exact acts_handAbort (aborted (by simp [StationState.inCycle])) rfl (w (by decide)) (w (by decide))

theorem acts_tellCycle (f : FaultKind) (h : Acts bs clears s k t) (w : reportBlocks ⊆ bs) :
    Acts bs clears s k (tellCycle f t) := by
  unfold tellCycle
  split
  · exact acts_actOnFatal f h w
  · exact h

theorem acts_reportOverflow (c : Captured) (h : Acts bs clears s k t) (w : reportBlocks ⊆ bs) :
    Acts bs clears s k (reportOverflow c t) := by
  unfold reportOverflow
  split
  case isTrue free =>
    exact acts_tellCycle _ (acts_placeReport (acts_latch h free (w (by decide))) rfl (w (by decide)) (w (by decide))) w
  case isFalse => exact h

theorem acts_report (r : Report) (h : Acts bs clears s k t) (w : reportBlocks ⊆ bs) :
    Acts bs clears s k (report r t) := by
  cases free : t.latchable r.kind with
  | false => rw [report_of_not free]; exact h
  | true =>
    have taken : Acts bs clears s k (takeReport r t) :=
      acts_tellCycle _ (acts_placeReport (acts_latch h free (w (by decide))) rfl (w (by decide)) (w (by decide))) w
    rw [report_of free]
    split
    · exact acts_reportOverflow _ taken w
    · exact taken

theorem acts_reportPlain (f : FaultKind) (h : Acts bs clears s k t) (w : reportBlocks ⊆ bs) :
    Acts bs clears s k (reportPlain f t) := acts_report _ h w

theorem acts_handReport {f : Frame} (h : Acts bs clears s k t) (c : classOf f.kind = .report) (w : reportBlocks ⊆ bs) :
    Acts bs clears s k (handReport f t) := by
  have placed := acts_placeReport h c (w (by decide)) (w (by decide))
  unfold handReport
  split
  · exact acts_reportOverflow _ placed w
  · exact placed

theorem acts_handSlice {f : Frame} (h : Acts bs clears s k t) (c : classOf f.kind = .slice) (w : reportBlocks ⊆ bs) :
    Acts bs clears s k (handSlice f t) := by
  unfold handSlice
  split
  case isTrue => exact h
  case isFalse on =>
    split
    case isTrue room => exact acts_pushSlice h c (by simpa using on) room (w (by decide)) (w (by decide))
    case isFalse => exact acts_reportOverflow _ (acts_countDrop h (w (by decide))) w

/-! ## Changes of the station state -/

theorem acts_testBarrier (h : Acts bs clears s k t) (cycle : .cycle ∈ bs) : Acts bs clears s k (testBarrier t) := by
  unfold testBarrier
  split
  case isTrue complete => exact .scanning h cycle complete.1
  case isFalse => exact h

theorem acts_enterDone (e : EndKind) (h : Acts bs clears s k t) (w : reportBlocks ⊆ bs)
    (scanning : t.cycle.state = .scanning) : Acts bs clears s k (enterDone e t) :=
  acts_handReport (.done e h w scanning) rfl w

theorem acts_startBeaconTimer (h : Acts bs clears s k t) (sched : .sched ∈ bs) :
    Acts bs clears s k (startBeaconTimer t) :=
  acts_sched_same h sched _ rfl

theorem acts_setResult (kind : Kind) (c : ResultCode) (h : Acts bs clears s k t) (cycle : .cycle ∈ bs) :
    Acts bs clears s k (setResult kind c t) :=
  .cycle _ h cycle rfl rfl rfl (.inl rfl) (.inl rfl)

end Sys2Proof.Machine
end

section
/-! What a report leaves of Cycle Control and the role engines, and the role engines' own operations as chains of writes. -/

namespace Sys2Proof.Machine

variable {bs : List Block} {clears : Bool} {s t : State} {k : Nat}

/-! ## What a report leaves of Cycle Control and the role engines -/

/-- Cycle Control and the role engines are as they were, or the station has been taken to ABORTED or SILENT. -/
def StandOrHalt (s t : State) : Prop :=
  (t.cycle = s.cycle ∧ t.power = s.power ∧ t.travel = s.travel ∧ t.quench = s.quench) ∨
  t.cycle.state = .aborted ∨ t.cycle.state = .silent

theorem standOrHalt_refl (s : State) : StandOrHalt s s := .inl ⟨rfl, rfl, rfl, rfl⟩

theorem standOrHalt_trans {u : State} (h : StandOrHalt s t) (g : StandOrHalt t u) : StandOrHalt s u := by
  rcases g with ⟨cycle, power, travel, quench⟩ | halted
  · rcases h with ⟨cycle', power', travel', quench'⟩ | halted
    · exact .inl ⟨cycle.trans cycle', power.trans power', travel.trans travel', quench.trans quench'⟩
    · exact .inr (by rw [cycle]; exact halted)
  · exact .inr halted

theorem standOrHalt_actOnFatal (f : FaultKind) (s : State) : StandOrHalt s (actOnFatal f s) := by
  rcases actOnFatal_cases f s with e | e | e | e <;> rw [e]
  · exact standOrHalt_refl s
  · exact .inr (.inr (enterSilent_state f s))
  · exact .inr (.inl (enterAborted_state _ s))
  · exact .inr (.inl (by rw [handAbort_cycle, enterAborted_state]))

theorem standOrHalt_tellCycle (f : FaultKind) (s : State) : StandOrHalt s (tellCycle f s) := by
  unfold tellCycle
  split
  · exact standOrHalt_actOnFatal f s
  · exact standOrHalt_refl s

theorem standOrHalt_placeReport (f : Frame) (s : State) : StandOrHalt s (placeReport f s) := .inl (by simp)

theorem standOrHalt_reportOverflow (c : Captured) (s : State) : StandOrHalt s (reportOverflow c s) := by
  unfold reportOverflow
  split
  · exact standOrHalt_trans (.inl (by simp)) (standOrHalt_tellCycle _ _)
  · exact standOrHalt_refl s

theorem standOrHalt_takeReport (r : Report) (s : State) : StandOrHalt s (takeReport r s) :=
  standOrHalt_trans (.inl (by simp)) (standOrHalt_tellCycle _ _)

theorem standOrHalt_report (r : Report) (s : State) : StandOrHalt s (report r s) := by
  unfold report
  split
  · split
    · exact standOrHalt_trans (standOrHalt_takeReport r s) (standOrHalt_reportOverflow _ _)
    · exact standOrHalt_takeReport r s
  · exact standOrHalt_refl s

theorem standOrHalt_handReport (f : Frame) (s : State) : StandOrHalt s (handReport f s) := by
  unfold handReport
  split
  · exact standOrHalt_trans (standOrHalt_placeReport f s) (standOrHalt_reportOverflow _ _)
  · exact standOrHalt_placeReport f s

/-- A station that is still in the state `st`, neither ABORTED nor SILENT, has its engines as they were. -/
theorem standOrHalt_of_state {st : StationState} (h : StandOrHalt s t) (state : t.cycle.state = st)
    (aborted : st ≠ .aborted := by decide) (silent : st ≠ .silent := by decide) :
    t.cycle = s.cycle ∧ t.power = s.power ∧ t.travel = s.travel ∧ t.quench = s.quench := by
  rcases h with stand | halted | halted
  · exact stand
  · exact absurd (state.symm.trans halted) aborted
  · exact absurd (state.symm.trans halted) silent

/-! ## The Power Engine -/

theorem acts_handNotice (slice share : Nat) (h : Acts bs clears s k t) (w : reportBlocks ⊆ bs) :
    Acts bs clears s k (handNotice slice share t) :=
  .power _ (acts_handSlice h rfl w) (w (by decide)) (.inl rfl)

theorem acts_closeSlices (l : List (Nat × Nat)) (h : Acts bs clears s k t) (w : reportBlocks ⊆ bs) :
    Acts bs clears s k (closeSlices l t) := by
  induction l generalizing t with
  | nil => exact h
  | cons p rest ih =>
    unfold closeSlices
    split
    · exact ih (acts_handNotice _ _ h w)
    · exact h

theorem acts_takeRecord (c : Crossing) (h : Acts bs clears s k t) (w : reportBlocks ⊆ bs) :
    Acts bs clears s k (takeRecord c t) := by
  have closed := acts_closeSlices (sharesOf t.power.acc c.left) h w
  unfold takeRecord
  dsimp only
  split
  · exact .power _ closed (w (by decide)) (.inl rfl)
  · exact closed

theorem acts_takeRecords (l : List Crossing) (h : Acts bs clears s k t) (w : reportBlocks ⊆ bs) :
    Acts bs clears s k (takeRecords l t) := by
  induction l generalizing t with
  | nil => exact h
  | cons c rest ih =>
    unfold takeRecords
    split
    · exact ih (acts_takeRecord c h w)
    · exact h

theorem acts_takeInbox (h : Acts bs clears s k t) (w : reportBlocks ⊆ bs) : Acts bs clears s k (takeInbox t) :=
  acts_takeRecords _ (.power _ h (w (by decide)) (.inl rfl)) w

theorem acts_creditSample (h : Acts bs clears s k t) (power : .power ∈ bs) : Acts bs clears s k (creditSample t) := by
  unfold creditSample
  split
  · exact .power _ h power (.inl rfl)
  · exact h

theorem acts_powerRoleEnd (h : Acts bs clears s k t) (w : reportBlocks ⊆ bs) :
    Acts bs clears s k (powerRoleEnd t) := by
  unfold powerRoleEnd
  split
  case isTrue ends => exact acts_enterDone .normal h w ends.1
  case isFalse => exact h

theorem acts_powerStep (limit : Bool) (h : Acts bs clears s k t) (w : .pins :: reportBlocks ⊆ bs) :
    Acts bs clears s k (powerStep limit t) := by
  have wr : reportBlocks ⊆ bs := (List.cons_subset.1 w).2
  have read : Acts bs clears s k (t.setPins { t.pins with limit := limit }) :=
    .pins _ h (w (by decide)) (by simp [State.actuatorGood])
  have power : .power ∈ bs := w (by decide)
  exact acts_sendSetpoint (acts_powerRoleEnd (.compute (acts_creditSample (acts_takeInbox read wr) power) power) wr) power

theorem acts_closeCurrent (h : Acts bs clears s k t) (w : reportBlocks ⊆ bs) : Acts bs clears s k (closeCurrent t) := by
  unfold closeCurrent
  split
  · exact .power _ (acts_handNotice _ _ h w) (w (by decide)) (.inl rfl)
  · exact h

theorem acts_shortTravelPower (h : Acts bs clears s k t) (w : reportBlocks ⊆ bs) :
    Acts bs clears s k (shortTravelPower t) := by
  have taken := acts_takeInbox h w
  unfold shortTravelPower
  dsimp only
  split
  case isTrue =>
    have closed := acts_closeCurrent taken w
    split
    case isTrue scanning => exact acts_enterDone .shortTravel closed w scanning
    case isFalse => exact closed
  case isFalse => exact taken

/-! ## The Travel Engine -/

/-- A whole half-period stands with every pulse, and the command is within the rated speed, as a control step leaves them. -/
theorem travelFits_loadSteps {v : Travel} (role : t.role = some .travel) (h : TravelFits t v) :
    TravelFits t (loadSteps v) := by
  obtain ⟨command, rest, move, half, rise, -⟩ := h
  unfold loadSteps
  split
  · exact ⟨command, rest, move, half, by simp, fun other => absurd role other⟩
  · split
    case isTrue => exact ⟨command, rest, move, half, rise, fun other => absurd role other⟩
    case isFalse =>
      unfold Travel.risen
      split
      case isTrue pulse => exact ⟨command, rest, move, half, fun _ => ⟨pulse.2, pulse.1⟩, fun other => absurd role other⟩
      case isFalse => exact ⟨command, rest, move, by simp, by simp, fun other => absurd role other⟩

theorem moveToward_le {rate goal command bound : Nat} (g : goal ≤ bound) (c : command ≤ bound) :
    moveToward rate goal command ≤ bound :=
  (moveToward_between rate goal command).2.trans (max_le c g)

theorem foldl_min_le (l : List Nat) (a : Nat) : l.foldl min a ≤ a := by
  induction l generalizing a with
  | nil => exact le_refl a
  | cons x rest ih => exact (ih _).trans (min_le_left a x)

theorem travelTarget_le (t : State) : travelTarget t ≤ t.settings.ratedSpeed := by
  unfold travelTarget
  split
  · exact (foldl_min_le _ _).trans (min_le_right _ _)
  · exact Nat.zero_le _

/-- The half-period, STEP and the delay of a first toggle are not touched by a control step's drive. -/
theorem travelFits_of_drive {v u : Travel} (role : t.role = some .travel) (h : TravelFits t v)
    (command : u.command ≤ t.settings.ratedSpeed)
    (rest : t.cycle.state = .offline ∨ t.cycle.state = .joining ∨ t.cycle.state = .armed → u.command = 0)
    (move : ∀ m ∈ u.move, t.cycle.state = .idle ∧ m.speed ≤ t.settings.ratedSpeed)
    (half : u.half = v.half) (step : u.step = v.step) (rise : u.rise = v.rise) : TravelFits t u := by
  obtain ⟨-, -, -, halfFits, riseFits, -⟩ := h
  refine ⟨command, rest, fun m mem => ?_, half ▸ step ▸ halfFits, ?_, fun other => absurd role other⟩
  · obtain ⟨idle, speed⟩ := move m mem
    exact ⟨idle, role, speed⟩
  · rw [rise, step, half]
    exact riseFits

theorem travelFits_drive {v : Travel} (role : t.role = some .travel) (h : TravelFits t v)
    (target : v.target ≤ t.settings.ratedSpeed) : TravelFits t (drive t v) := by
  have fits := h
  obtain ⟨command, rest, move, -⟩ := fits
  have still (m) (mem : m ∈ v.move) : t.cycle.state = .idle ∧ m.speed ≤ t.settings.ratedSpeed := by
    obtain ⟨idle, -, speed⟩ := move m mem
    exact ⟨idle, speed⟩
  unfold drive
  split
  case h_1 | h_2 | h_3 => exact travelFits_of_drive role h (Nat.zero_le _) (fun _ => rfl) still rfl rfl rfl
  case h_4 idle =>
    split
    case h_1 m moving =>
      obtain ⟨-, speed⟩ := still m moving
      unfold moveDrive
      split
      · exact travelFits_of_drive role h (Nat.zero_le _) (fun _ => rfl) (by simp) rfl rfl rfl
      · refine travelFits_of_drive role h ?_ (by simp [idle]) ?_ rfl rfl rfl
        · have goal : moveGoal t m v ≤ t.settings.ratedSpeed := by
            unfold moveGoal
            split
            · exact Nat.zero_le _
            · exact (min_le_left _ _).trans speed
          dsimp only
          split
          · exact moveToward_le goal command
          · exact Nat.zero_le _
        · simpa using ⟨idle, speed⟩
    case h_2 => exact travelFits_of_drive role h (Nat.zero_le _) (fun _ => rfl) still rfl rfl rfl
  case h_5 state | h_6 state | h_7 state =>
    refine travelFits_of_drive role h ?_ (by simp [state]) still rfl rfl rfl
    unfold cycleDrive
    dsimp only
    split
    · exact moveToward_le target command
    · exact Nat.zero_le _
  case h_8 state | h_9 state =>
    refine travelFits_of_drive role h ?_ (by simp [state]) still rfl rfl rfl
    unfold abortDrive
    dsimp only
    split
    · exact (Nat.sub_le _ _).trans command
    · exact Nat.zero_le _

theorem acts_travelStep (h : Acts bs clears s k t) (role : t.role = some .travel) (w : reportBlocks ⊆ bs) :
    Acts bs clears s k (travelStep t) := by
  have driven : Acts bs clears s k (t.setTravel (loadSteps (drive t { t.travel with target := travelTarget t }))) := by
    refine .travel _ h (w (by decide)) fun fits => travelFits_loadSteps role (travelFits_drive role ?_ (travelTarget_le t))
    obtain ⟨command, rest, move, half, rise, -⟩ := fits
    exact ⟨command, rest, move, half, rise, fun other => absurd role other⟩
  unfold travelStep travelRoleEnd
  dsimp only
  split
  case isTrue ends => exact acts_enterDone .normal driven w ends.1
  case isFalse => exact driven

/-- STEP toggles or comes to rest as a half-period runs out, which runs in a TRAVEL station alone. -/
theorem travelFits_toggle (due : Timer.due t.travel.half = true) (h : TravelFits t t.travel) :
    TravelFits t (toggle t.travel) := by
  obtain ⟨command, rest, move, -, -, idle⟩ := h
  have role : ¬ t.role ≠ some .travel := fun other => by simp [idle other, Travel.powerOn, Timer.due] at due
  unfold toggle
  split
  · exact ⟨command, rest, move, by simp, by simp_all, fun other => absurd other role⟩
  · exact ⟨command, rest, move, by simp, by simp, fun other => absurd other role⟩
  · exact ⟨command, rest, move, by simp, by simp, fun other => absurd other role⟩

/-- A write of the engine of a TRAVEL station that leaves command, move and the step generator. -/
theorem acts_travel_same (h : Acts bs clears s k t) (role : t.role = some .travel) (travel : .travel ∈ bs) (v : Travel)
    (same : v = { v with command := t.travel.command, move := t.travel.move, half := t.travel.half,
                         rise := t.travel.rise, step := t.travel.step }) : Acts bs clears s k (t.setTravel v) := by
  refine .travel v h travel fun fits => ?_
  obtain ⟨command, rest, move, half, rise, -⟩ := fits
  rw [same]
  exact ⟨command, rest, move, half, rise, fun other => absurd role other⟩

theorem acts_tachWindow (h : Acts bs clears s k t) (role : t.role = some .travel) (w : reportBlocks ⊆ bs) :
    Acts bs clears s k (tachWindow t) := by
  have ended : Acts bs clears s k (endTachWindow t) := acts_travel_same h role (w (by decide)) _ rfl
  unfold tachWindow
  dsimp only
  split
  · exact acts_reportPlain _ ended w
  · exact ended

/-- The command at 0 with the move abandoned. -/
theorem travelFits_stop (h : TravelFits t t.travel) : TravelFits t { t.travel.stop with move := none } := by
  obtain ⟨-, -, -, half, -, idle⟩ := h
  exact ⟨Nat.zero_le _, fun _ => rfl, by simp, half, by simp [Travel.stop], fun other => by rw [idle other]; rfl⟩

theorem travelFits_moveAtHome (home : Nat) (h : TravelFits t t.travel) : TravelFits t (moveAtHome home t.travel) := by
  unfold moveAtHome
  split
  · split
    · exact travelFits_stop h
    · exact h
  · exact h

/-! ## The Quench Engine -/

/-- A write of the Quench Engine that leaves the list, its counts, the valves and the pulse phase. -/
theorem acts_quench_same (h : Acts bs clears s k t) (quench : .quench ∈ bs) (v : Quench)
    (same : v = { v with entries := t.quench.entries, nCreated := t.quench.nCreated, nJudged := t.quench.nJudged,
                         nFlushed := t.quench.nFlushed, spray := t.quench.spray, flood := t.quench.flood,
                         pulse := t.quench.pulse }) : Acts bs clears s k (t.setQuench v) := by
  refine .quench v h quench (fun fits => ?_) (fun fits => ?_) <;> rw [same] <;> exact fits

/-- A write of valves and pulse phase alone. -/
theorem acts_quench_valves (h : Acts bs clears s k t) (quench : .quench ∈ bs) (v : Quench)
    (same : v = { v with entries := t.quench.entries, nCreated := t.quench.nCreated, nJudged := t.quench.nJudged,
                         nFlushed := t.quench.nFlushed })
    (valves : ValvesFit t t.quench → ValvesFit t v) : Acts bs clears s k (t.setQuench v) :=
  .quench v h quench (fun fits => by rw [same]; exact fits) valves

theorem acts_restartSoak (h : Acts bs clears s k t) (quench : .quench ∈ bs) : Acts bs clears s k (restartSoak t) := by
  unfold restartSoak
  split
  · exact acts_quench_same h quench _ rfl
  · exact h

theorem acts_countVerdict (good : Bool) (h : Acts bs clears s k t) (w : reportBlocks ⊆ bs) :
    Acts bs clears s k (countVerdict good t) := by
  unfold countVerdict
  split
  · exact acts_quench_same h (w (by decide)) _ rfl
  · exact acts_reportPlain _ (acts_quench_same h (w (by decide)) _ rfl) w

/-- An entry that has left the list is counted as judged. -/
theorem acts_countJudged_true (h : Acts bs clears s (k + 1) t) (quench : .quench ∈ bs) :
    Acts bs clears s k (countJudged true t) := by
  refine .quench _ h quench (fun fits => ?_) fun fits => fits
  obtain ⟨sorted, room, balance⟩ := fits
  exact ⟨sorted, room, by dsimp only; omega⟩

theorem acts_deliver_entry (r : SliceResult) (h : Acts bs clears s (k + 1) t) (w : reportBlocks ⊆ bs) :
    Acts bs clears s k (deliver true r t) :=
  acts_restartSoak (acts_countJudged_true (acts_countVerdict _ (acts_handReport h rfl w) w) (w (by decide))) (w (by decide))

theorem acts_deliver_untracked (r : SliceResult) (h : Acts bs clears s k t) (w : reportBlocks ⊆ bs) :
    Acts bs clears s k (deliver false r t) :=
  acts_restartSoak (acts_countVerdict _ (acts_handReport h rfl w) w) (w (by decide))

theorem findEntryOf_some {slice : Nat} {l : List Entry} {e : Entry} (h : findEntryOf slice l = some e) :
    e ∈ l ∧ e.slice = slice :=
  ⟨List.mem_of_find?_eq_some h, by simpa using List.find?_some h⟩

theorem findEntryOf_none {slice : Nat} {l : List Entry} : findEntryOf slice l = none ↔ ∀ e ∈ l, e.slice ≠ slice := by
  simp [findEntryOf]

theorem removeEntry_length {l : List Entry} {e : Entry} (mem : e ∈ l) :
    (removeEntry e.slice l).length + 1 = l.length := by
  have pos := List.length_pos_of_mem mem
  have := List.length_eraseP_of_mem (p := fun x : Entry => x.slice == e.slice) mem (by simp)
  unfold removeEntry
  omega

/-- An entry of the list leaves it, and is counted as judged once its result has been handed. -/
theorem acts_judgeEntry (unquenched : Bool) {e : Entry} (h : Acts bs clears s k t) (mem : e ∈ t.quench.entries)
    (w : reportBlocks ⊆ bs) : Acts bs clears s k (judgeEntry unquenched e t) := by
  refine acts_deliver_entry _ (.quench _ h (w (by decide)) (fun fits => ?_) fun fits => fits) w
  obtain ⟨sorted, room, balance⟩ := fits
  have shorter := removeEntry_length mem
  exact ⟨removeEntry_sorted sorted, by dsimp only; omega, by dsimp only; omega⟩

theorem acts_judgeSlice (slice : Nat) (h : Acts bs clears s k t) (w : reportBlocks ⊆ bs) :
    Acts bs clears s k (judgeSlice slice t) := by
  unfold judgeSlice
  split
  case h_1 e found => exact acts_judgeEntry false h (findEntryOf_some found).1 w
  case h_2 =>
    have passed : Acts bs clears s k (t.setQuench { t.quench with judged := some slice }) :=
      acts_quench_same h (w (by decide)) _ rfl
    dsimp only
    split
    · exact acts_deliver_untracked _ passed w
    · exact passed

theorem acts_judgeSlices (l : List Nat) (h : Acts bs clears s k t) (w : reportBlocks ⊆ bs) :
    Acts bs clears s k (judgeSlices l t) := by
  induction l generalizing t with
  | nil => exact h
  | cons i rest ih =>
    unfold judgeSlices
    split
    · exact ih (acts_judgeSlice i h w)
    · exact h

theorem acts_judgeReached (h : Acts bs clears s k t) (w : reportBlocks ⊆ bs) :
    Acts bs clears s k (judgeReached t) := by
  unfold judgeReached
  split
  · exact acts_judgeSlices _ h w
  · exact h

/-- While the station stays SCANNING a result leaves the list as it is. -/
theorem deliver_entries {fromEntry : Bool} {r : SliceResult} {t : State}
    (scanning : (deliver fromEntry r t).cycle.state = .scanning) :
    (deliver fromEntry r t).quench.entries = t.quench.entries := by
  have soak (u : State) : (restartSoak u).cycle = u.cycle ∧ (restartSoak u).quench.entries = u.quench.entries := by
    unfold restartSoak; split <;> simp
  have judged (u : State) :
      (countJudged fromEntry u).cycle = u.cycle ∧ (countJudged fromEntry u).quench.entries = u.quench.entries := by
    unfold countJudged; split <;> simp
  have verdict (good : Bool) (u : State) (still : (countVerdict good u).cycle.state = .scanning) :
      u.cycle.state = .scanning ∧ (countVerdict good u).quench.entries = u.quench.entries := by
    unfold countVerdict reportPlain at still ⊢
    split at still
    case isTrue g => rw [if_pos g]; exact ⟨still, rfl⟩
    case isFalse g =>
      rw [if_neg g]
      obtain ⟨cycle, -, -, quench⟩ := standOrHalt_of_state (standOrHalt_report _ _) still
      exact ⟨by rw [cycle] at still; exact still, by rw [quench]; rfl⟩
  unfold deliver at scanning ⊢
  rw [(soak _).1, (judged _).1] at scanning
  obtain ⟨handed, kept⟩ := verdict _ _ scanning
  obtain ⟨-, -, -, quench⟩ := standOrHalt_of_state (standOrHalt_handReport _ _) handed
  rw [(soak _).2, (judged _).2, kept, quench]

/-- The whole list is judged in its order, each entry being the head as its turn comes. -/
theorem acts_judgeAll (l : List Entry) (h : Acts bs clears s k t) (all : t.cycle.state = .scanning → t.quench.entries = l)
    (w : reportBlocks ⊆ bs) : Acts bs clears s k (judgeAll l t) := by
  induction l generalizing t with
  | nil => exact h
  | cons e rest ih =>
    unfold judgeAll
    split
    case isTrue scanning =>
      have head := all scanning
      refine ih (acts_judgeEntry true h (by simp [head]) w) fun still => ?_
      rw [judgeEntry, deliver_entries still]
      simp [head, removeEntry]
    case isFalse => exact h

theorem acts_shortTravelQuench (h : Acts bs clears s k t) (scanning : t.cycle.state = .scanning)
    (w : reportBlocks ⊆ bs) : Acts bs clears s k (shortTravelQuench t) := by
  unfold shortTravelQuench
  split
  · exact h
  · split
    · exact acts_enterDone .shortTravel h w scanning
    · exact acts_judgeAll _ (acts_quench_same h (w (by decide)) _ rfl) (fun _ => rfl) w

theorem acts_judgeInRunout (slice : Nat) (h : Acts bs clears s k t) (w : reportBlocks ⊆ bs) :
    Acts bs clears s k (judgeInRunout slice t) := by
  unfold judgeInRunout
  split
  · split
    case h_1 e found => exact acts_judgeEntry true h (findEntryOf_some found).1 w
    case h_2 => exact h
  · exact h

/-- Entries changed in what is not their slice keep the list fit. -/
theorem listFits_changeEntry {slice : Nat} {f : Entry → Entry} {q : Quench} (same : ∀ e, (f e).slice = e.slice)
    (h : ListFits k q) : ListFits k { q with entries := changeEntry slice f q.entries } := by
  obtain ⟨sorted, room, balance⟩ := h
  have slices (e : Entry) : (if e.slice = slice then f e else e).slice = e.slice := by split <;> simp [same]
  exact ⟨by simpa [changeEntry, List.pairwise_map, slices] using sorted, by simpa [changeEntry] using room,
    by simpa [changeEntry] using balance⟩

theorem listFits_create {slice : Nat} {q : Quench} (absent : findEntryOf slice q.entries = none)
    (room : q.entries.length < Config.listCapacity) (h : ListFits k q) : ListFits k (q.create slice) := by
  obtain ⟨sorted, -, balance⟩ := h
  refine ⟨insertEntry_sorted sorted (findEntryOf_none.1 absent), ?_, ?_⟩ <;>
    simp only [Quench.create, insertEntry_length] <;> omega

theorem acts_markLost (from_ : NoticeSource) (slice : Nat) (h : Acts bs clears s k t) (w : reportBlocks ⊆ bs) :
    Acts bs clears s k (markLost from_ slice t) := by
  unfold markLost
  split
  · split
    · exact .quench _ h (w (by decide)) (listFits_changeEntry fun _ => rfl) fun fits => fits
    · rename_i absent
      split
      case isTrue room =>
        exact acts_judgeInRunout slice (.quench _ h (w (by decide))
          (fun fits => listFits_changeEntry (fun _ => rfl) (listFits_create absent room fits)) fun fits => fits) w
      case isFalse => exact acts_report _ h w
  · exact h

theorem acts_checkChain (from_ : NoticeSource) (n : NoticeFields) (h : Acts bs clears s k t) (w : reportBlocks ⊆ bs) :
    Acts bs clears s k (checkChain from_ n t) := by
  unfold checkChain
  split
  · exact h
  · split
    · exact h
    · have reported := acts_report ⟨.noticeLost, some from_.sender, some from_.captured⟩ h w
      dsimp only
      split
      · exact acts_markLost from_ _ reported w
      · exact reported

theorem addNotice_slice (finalStage : Option Nat) (now : LocalTime) (stage energy : Nat) (e : Entry) :
    (addNotice finalStage now stage energy e).slice = e.slice := by
  unfold addNotice; dsimp only; split <;> rfl

theorem acts_addToEntry (n : NoticeFields) (h : Acts bs clears s k t) (w : .freeDraws :: reportBlocks ⊆ bs) :
    Acts bs clears s k (addToEntry n t) := by
  have added : Acts bs clears s k _ := .quench _ h (w (by decide))
    (listFits_changeEntry (slice := n.slice)
      (addNotice_slice t.quench.finalStage t.clock.time (stageTaken n.stage t) n.energy)) fun fits => fits
  unfold addToEntry countDraw
  split
  · exact .freeDraws _ added (w (by decide))
  · exact added

theorem acts_applyNotice (from_ : NoticeSource) (n : NoticeFields) (h : Acts bs clears s k t)
    (w : .freeDraws :: reportBlocks ⊆ bs) : Acts bs clears s k (applyNotice from_ n t) := by
  have wr : reportBlocks ⊆ bs := (List.cons_subset.1 w).2
  unfold applyNotice
  split
  · exact acts_quench_same h (w (by decide)) _ rfl
  · split
    · exact acts_report _ h wr
    · split
      · exact acts_judgeInRunout _ (acts_addToEntry n h w) wr
      · rename_i absent
        split
        case isTrue room =>
          have created : Acts bs clears s k (t.setQuench (t.quench.create n.slice)) :=
            .quench _ h (w (by decide)) (listFits_create absent room) fun fits => fits
          exact acts_judgeInRunout _ (acts_addToEntry n created w) wr
        case isFalse => exact acts_report _ h wr

theorem acts_takeNotice (from_ : NoticeSource) (n : NoticeFields) (h : Acts bs clears s k t)
    (w : .freeDraws :: reportBlocks ⊆ bs) : Acts bs clears s k (takeNotice from_ n t) := by
  have wr : reportBlocks ⊆ bs := (List.cons_subset.1 w).2
  unfold takeNotice
  split
  · exact h
  · have linked : Acts bs clears s k (setLastNotice from_.sender n.slice (checkChain from_ n t)) :=
      acts_quench_same (acts_checkChain from_ n h wr) (w (by decide)) _ rfl
    dsimp only
    split
    · exact acts_applyNotice from_ n linked w
    · split
      · exact acts_quench_same linked (w (by decide)) _ rfl
      · exact linked

/-! ## Valves -/

/-- In a cycle SPRAY and the pulse phase of a QUENCH station may be anything that the limit of the state lets through. -/
theorem valvesFit_limitSpray {q v : Quench} (role : t.role = some .quench) (cycle : t.inCycle = true)
    (flood : v.flood = q.flood) (h : ValvesFit t q) : ValvesFit t (limitSpray t.cycle.state v) := by
  obtain ⟨-, floodFits, -, -⟩ := h
  rcases limitSpray_cases t.cycle.state v with ⟨open_, e⟩ | ⟨-, e⟩ <;> rw [e]
  · have states := (inCycle_iff t).1 cycle
    exact ⟨fun _ => by tauto, flood ▸ floodFits, fun _ => cycle, fun other => absurd role other⟩
  · exact ⟨by simp, by simpa [flood] using floodFits, fun _ => cycle, fun other => absurd role other⟩

theorem driveSpray_keeps (t : State) :
    (driveSpray t).flood = t.quench.flood ∧ (driveSpray t).entries = t.quench.entries ∧
    (driveSpray t).nCreated = t.quench.nCreated ∧ (driveSpray t).nJudged = t.quench.nJudged ∧
    (driveSpray t).nFlushed = t.quench.nFlushed := by
  unfold driveSpray continuousStep pulsedStep offStep
  repeat' split
  all_goals exact ⟨rfl, rfl, rfl, rfl, rfl⟩

theorem limitSpray_keeps (state : StationState) (q : Quench) :
    (limitSpray state q).entries = q.entries ∧ (limitSpray state q).nCreated = q.nCreated ∧
    (limitSpray state q).nJudged = q.nJudged ∧ (limitSpray state q).nFlushed = q.nFlushed := by
  unfold limitSpray
  split <;> exact ⟨rfl, rfl, rfl, rfl⟩

/-- A write that leaves the list and its counts keeps the list fit. -/
theorem listFits_of_same {q v : Quench} (entries : v.entries = q.entries) (created : v.nCreated = q.nCreated)
    (judged : v.nJudged = q.nJudged) (flushed : v.nFlushed = q.nFlushed) (h : ListFits k q) : ListFits k v := by
  unfold ListFits
  rw [entries, created, judged, flushed]
  exact h

theorem acts_setValves (h : Acts bs clears s k t) (role : t.role = some .quench) (quench : .quench ∈ bs) :
    Acts bs clears s k (setValves t) := by
  have sprays (cycle : t.inCycle = true) :
      Acts bs clears s k (t.setQuench (limitSpray t.cycle.state (driveSpray t))) := by
    obtain ⟨flood, entries, created, judged, flushed⟩ := driveSpray_keeps t
    obtain ⟨entries', created', judged', flushed'⟩ := limitSpray_keeps t.cycle.state (driveSpray t)
    exact .quench _ h quench (listFits_of_same (entries'.trans entries) (created'.trans created) (judged'.trans judged)
      (flushed'.trans flushed)) (valvesFit_limitSpray role cycle flood)
  have closes : Acts bs clears s k (t.setQuench { t.quench.closeSpray with flood := false }) := by
    refine acts_quench_valves h quench _ rfl fun fits => ?_
    obtain ⟨-, -, pulse, -⟩ := fits
    exact ⟨by simp [Quench.closeSpray], by simp, pulse, fun other => absurd role other⟩
  unfold setValves
  unfold State.inCycle at sprays
  cases e : t.cycle.state <;> dsimp only <;> rw [e] at sprays
  case starting | scanning | done => exact sprays rfl
  case aborted | silent => exact h
  case offline | joining | idle | armed => exact closes

theorem acts_quenchRoleEnd (h : Acts bs clears s k t) (w : reportBlocks ⊆ bs) :
    Acts bs clears s k (quenchRoleEnd t) := by
  unfold quenchRoleEnd
  split
  case isTrue ends =>
    split
    · exact acts_enterDone .shortTravel h w ends.1
    · split
      · exact acts_enterDone .normal h w ends.1
      · exact h
  case isFalse => exact h

theorem acts_quenchStep (h : Acts bs clears s k t) (role : t.role = some .quench) (w : reportBlocks ⊆ bs) :
    Acts bs clears s k (quenchStep t) := by
  have judged := acts_judgeReached h w
  have still : (judgeReached t).role = some .quench :=
    (role_of_acts (acts_judgeReached (clears := true) .refl (List.Subset.refl _)) (by decide)).trans role
  have valves := acts_setValves judged still (w (by decide))
  exact acts_quenchRoleEnd (acts_quench_same valves (w (by decide)) _ rfl) w

/-- A pulse phase runs in the cycle of a QUENCH station alone, and gives way within the limit of the state. -/
theorem valvesFit_endPulsePhase (h : ValvesFit t t.quench) : ValvesFit t (endPulsePhase t) := by
  have fits := h
  obtain ⟨-, flood, pulse, other⟩ := fits
  have rests : ValvesFit t (limitSpray t.cycle.state { t.quench.closeSpray with pulse := .idle, pulseTimer := none }) := by
    rcases limitSpray_cases t.cycle.state { t.quench.closeSpray with pulse := .idle, pulseTimer := none } with
      ⟨-, e⟩ | ⟨-, e⟩ <;> rw [e]
    all_goals exact ⟨by simp [Quench.closeSpray], flood, by simp, fun role => ⟨rfl, (other role).2.1, rfl⟩⟩
  have runs (going : t.quench.pulse ≠ .idle) : t.role = some .quench ∧ t.inCycle = true :=
    ⟨by_contra fun role => going (other role).2.2, pulse going⟩
  unfold endPulsePhase nextPhase
  dsimp only
  split
  case h_1 on _ =>
    obtain ⟨role, cycle⟩ := runs (by simp [on])
    exact valvesFit_limitSpray (q := t.quench) role cycle rfl h
  case h_2 off _ =>
    obtain ⟨role, cycle⟩ := runs (by simp [off])
    exact valvesFit_limitSpray (q := t.quench) role cycle rfl h
  case h_3 => exact rests

theorem endPulsePhase_keeps (t : State) :
    (endPulsePhase t).entries = t.quench.entries ∧ (endPulsePhase t).nCreated = t.quench.nCreated ∧
    (endPulsePhase t).nJudged = t.quench.nJudged ∧ (endPulsePhase t).nFlushed = t.quench.nFlushed := by
  obtain ⟨entries, created, judged, flushed⟩ := limitSpray_keeps t.cycle.state (nextPhase t)
  have next : (nextPhase t).entries = t.quench.entries ∧ (nextPhase t).nCreated = t.quench.nCreated ∧
      (nextPhase t).nJudged = t.quench.nJudged ∧ (nextPhase t).nFlushed = t.quench.nFlushed := by
    unfold nextPhase
    dsimp only
    split <;> exact ⟨rfl, rfl, rfl, rfl⟩
  obtain ⟨entries', created', judged', flushed'⟩ := next
  exact ⟨entries.trans entries', created.trans created', judged.trans judged', flushed.trans flushed'⟩

theorem acts_endFlowWindow (h : Acts bs clears s k t) (w : reportBlocks ⊆ bs) :
    Acts bs clears s k (endFlowWindow t) := by
  have ended : Acts bs clears s k (t.setQuench { t.quench with flowCount := 0, flowWindow := some Config.windowTicks }) :=
    acts_quench_same h (w (by decide)) _ rfl
  unfold endFlowWindow
  dsimp only
  split
  · exact acts_reportPlain _ ended w
  · exact ended

end Sys2Proof.Machine
end

section
/-! Peers, receptions and Cycle Control as chains of writes, and so every command: what it can do is a chain that writes the
blocks its rules name. -/

namespace Sys2Proof.Machine

variable {bs : List Block} {clears : Bool} {s t : State} {k : Nat}

/-! ## The Peer Table -/

theorem find?_putPeer (p : Peer) (l : List Peer) (n : StationNo) :
    (putPeer p l).find? (·.number == n) = if p.number = n then some p else l.find? (·.number == n) := by
  induction l with
  | nil => by_cases e : p.number = n <;> simp [putPeer, e]
  | cons q rest ih =>
    unfold putPeer
    split
    · by_cases e : p.number = n <;> simp [e]
    · split
      · rename_i same
        by_cases e : p.number = n
        · simp [e]
        · simp [e, same ▸ e]
      · rename_i other
        by_cases e : q.number = n
        · have : ¬ p.number = n := fun c => other (c.trans e.symm)
          simp [e, this]
        · simp [e, ih]

/-- The entry put in the table is found under its number; the entries of other numbers are as they were. -/
theorem peer_putPeer (p : Peer) (t : State) (n : StationNo) :
    (t.setPeers (putPeer p t.peers)).peer n = if p.number = n then some p else t.peer n :=
  find?_putPeer p t.peers n

theorem peer_some {n : StationNo} {p : Peer} (h : t.peer n = some p) : p ∈ t.peers ∧ p.number = n :=
  ⟨List.mem_of_find?_eq_some h, by simpa using List.find?_some h⟩

theorem tablesNumber_iff (t : State) (n : StationNo) :
    t.tablesNumber n = true ↔ t.cycle.state ≠ .offline ∧ n ≠ 0 ∧ n ≠ 15 ∧ t.ownNumber ≠ some n := by
  simp [State.tablesNumber, and_assoc]

/-- An entry that fits, put in the table, keeps it fit. -/
theorem peersFit_putPeer {p : Peer} {l : List Peer}
    (number : p.number ≠ 0 ∧ p.number ≠ 15 ∧ t.ownNumber ≠ some p.number) (lost : p.live = false → p.stale = none)
    (data : p.role = .travel → p.data = none) (h : PeersFit t l) : PeersFit t (putPeer p l) := by
  obtain ⟨sorted, numbers, timers, datas⟩ := h
  refine ⟨putPeer_sorted sorted, fun q mem => ?_, fun q mem => ?_, fun q mem => ?_⟩ <;>
    rcases putPeer_mem mem with rfl | old
  exacts [number, numbers q old, lost, timers q old, data, datas q old]

/-- A LIVE entry put in the table leaves no peer less LIVE. -/
theorem trackedLive_putPeer {p : Peer} (live : p.live = true) (h : t.trackedLive = true) :
    (t.setPeers (putPeer p t.peers)).trackedLive = true := by
  unfold State.trackedLive at h ⊢
  simp only [State.setPeers_tracker, peer_putPeer]
  split
  case h_1 n tracked =>
    rw [tracked] at h
    by_cases e : p.number = n
    · simp [e, live]
    · simpa [e] using h
  case h_2 none => simp [none] at h

theorem acts_heard {p : Peer} (h : Acts bs clears s k t) (mem : p ∈ t.peers) (peers : .peers ∈ bs) :
    Acts bs clears s k (t.setPeers (putPeer (returned t p) t.peers)) := by
  refine .peers _ h peers (fun fits => ?_) (trackedLive_putPeer rfl)
  have fits' := fits
  obtain ⟨-, numbers, -, datas⟩ := fits'
  exact peersFit_putPeer (numbers p mem) (by simp [returned, heardNow]) (datas p mem) fits

theorem acts_peerAborts (p : Peer) (h : Acts bs clears s k t) (w : reportBlocks ⊆ bs) :
    Acts bs clears s k (peerAborts p t) := by
  unfold peerAborts
  split
  case isTrue aborts => exact .aborted _ h w (.inr (.inr (.inr aborts.1)))
  case isFalse => exact h

theorem acts_peerDone (p : Peer) (h : Acts bs clears s k t) (w : reportBlocks ⊆ bs) :
    Acts bs clears s k (peerDone p t) := by
  unfold peerDone
  split
  case isTrue ends =>
    split
    · exact acts_shortTravelPower h w
    · exact acts_shortTravelQuench h ends.1 w
    · exact h
  case isFalse => exact h

theorem acts_notifyCycle (p : Peer) (beacon : Bool) (h : Acts bs clears s k t) (w : reportBlocks ⊆ bs) :
    Acts bs clears s k (notifyCycle p beacon t) := by
  have barrier := acts_testBarrier h (w (by decide))
  unfold notifyCycle
  dsimp only
  split
  · split
    · exact acts_peerDone p (acts_peerAborts p barrier w) w
    · exact barrier
  · exact h

theorem acts_notifyTravel (p : Peer) (h : Acts bs clears s k t) (travel : .travel ∈ bs) :
    Acts bs clears s k (notifyTravel p t) := by
  unfold notifyTravel
  split
  · exact acts_testSpindleHold (acts_recomputeTarget h travel) travel
  · exact h

theorem acts_notifyPower (p : Peer) (h : Acts bs clears s k t) (power : .power ∈ bs) :
    Acts bs clears s k (notifyPower p t) := by
  unfold notifyPower
  split
  · exact acts_zeroPower h power
  · exact h

theorem acts_notifyPeer (p : Peer) (beacon : Bool) (h : Acts bs clears s k t) (w : reportBlocks ⊆ bs) :
    Acts bs clears s k (notifyPeer p beacon t) :=
  acts_notifyPower p (acts_notifyTravel p (acts_notifyCycle p beacon h w) (w (by decide))) (w (by decide))

theorem acts_receipt (n : StationNo) (h : Acts bs clears s k t) (w : .peers :: reportBlocks ⊆ bs) :
    Acts bs clears s k (receipt n t) := by
  unfold receipt
  split
  · split
    case h_1 p found =>
      have put := acts_heard h (peer_some found).1 (w (by decide))
      dsimp only
      split
      · exact put
      · exact acts_notifyPeer _ _ put (List.cons_subset.1 w).2
    case h_2 => exact h
  · exact h

theorem acts_testConflict (kind : Kind) (n : StationNo) (role : Role) (stage : Nat) (h : Acts bs clears s k t)
    (w : reportBlocks ⊆ bs) : Acts bs clears s k (testConflict kind n role stage t) := by
  unfold testConflict
  split
  · exact acts_report _ h w
  · exact h

theorem acts_takeJoin (n : StationNo) (f : JoinFields) (h : Acts bs clears s k t) (w : .peers :: reportBlocks ⊆ bs) :
    Acts bs clears s k (takeJoin n f t) := by
  have wr : reportBlocks ⊆ bs := (List.cons_subset.1 w).2
  unfold takeJoin
  split
  case isTrue tables =>
    obtain ⟨-, number⟩ := (tablesNumber_iff t n).1 tables
    have put : Acts bs clears s k (t.setPeers (putPeer (joinEntry t n f) t.peers)) :=
      .peers _ h (w (by decide)) (peersFit_putPeer number (by simp [joinEntry]) fun _ => rfl) (trackedLive_putPeer rfl)
    exact acts_notifyPeer _ _ (acts_testConflict _ _ _ _ put wr) wr
  case isFalse => exact h

theorem acts_trackTravel (n : StationNo) (f : BeaconFields) (h : Acts bs clears s k t) (tracker : .tracker ∈ bs) :
    Acts bs clears s k (trackTravel n f t) := by
  unfold trackTravel
  split
  case isTrue tracks => exact .track n f h tracker tracks.2.2
  case isFalse => exact h

theorem acts_takeBeacon (n : StationNo) (f : BeaconFields) (h : Acts bs clears s k t)
    (data : f.role = .travel → f.data = none) (w : [.peers, .tracker] ++ reportBlocks ⊆ bs) :
    Acts bs clears s k (takeBeacon n f t) := by
  have wr : reportBlocks ⊆ bs := fun b mem => w (List.mem_append_right _ mem)
  unfold takeBeacon
  split
  case isTrue tables =>
    obtain ⟨-, number⟩ := (tablesNumber_iff t n).1 tables
    have put : Acts bs clears s k (t.setPeers (putPeer (beaconEntry t n f) t.peers)) :=
      .peers _ h (w (by decide)) (peersFit_putPeer number (by simp [beaconEntry]) data) (trackedLive_putPeer rfl)
    exact acts_notifyPeer _ _ (acts_trackTravel n f (acts_testConflict _ _ _ _ put wr) (w (by decide))) wr
  case isFalse => exact h

/-- A TRAVEL beacon brings no role data. -/
theorem beaconOf_travel_data {ws : List Word} {b : BeaconFields} (read : beaconOf ws = some b)
    (role : b.role = .travel) : b.data = none := by
  unfold beaconOf at read
  split at read
  · cases read
    dsimp only at role ⊢
    rw [role]
  · cases read

theorem acts_reportLost (n : StationNo) (h : Acts bs clears s k t) (w : reportBlocks ⊆ bs) :
    Acts bs clears s k (reportLost n t) := by
  unfold reportLost
  split
  · exact acts_report _ h w
  · exact h

theorem acts_losePeer {p : Peer} (h : Acts bs clears s k t) (mem : p ∈ t.peers) (w : .peers :: reportBlocks ⊆ bs) :
    Acts bs clears s k (losePeer p t) :=
  acts_reportLost _ (.loses p h w mem) (List.cons_subset.1 w).2

/-! ## Reception -/

/-- A write of the error count or the duplicate mark leaves the line fit. -/
theorem acts_line_marks (h : Acts bs clears s k t) (line : .line ∈ bs) (rxErr : Nat) (dupSeen : Bool) (le : rxErr ≤ 255) :
    Acts bs clears s k (t.setLine { t.line with rxErr := rxErr, dupSeen := dupSeen }) := by
  refine .line _ h line fun fits => ?_
  obtain ⟨attempt, off, tx, -⟩ := fits
  exact ⟨attempt, off, tx, le⟩

theorem acts_discard (h : Acts bs clears s k t) (w : reportBlocks ⊆ bs) : Acts bs clears s k (discard t) := by
  unfold discard
  split
  · exact h
  · have counted : Acts bs clears s k (t.setLine { t.line with rxErr := satAdd 255 t.line.rxErr 1 }) :=
      acts_line_marks h (w (by decide)) _ t.line.dupSeen (satAdd_le _ _ _)
    dsimp only
    split
    · exact acts_reportPlain _ counted w
    · exact counted

theorem acts_duplicateSeen (h : Acts bs clears s k t) (w : reportBlocks ⊆ bs) :
    Acts bs clears s k (duplicateSeen t) := by
  unfold duplicateSeen
  split
  · exact h
  · exact acts_handReport (.line _ h (w (by decide)) fun fits => fits) rfl w

theorem acts_duplicate (kind : Kind) (h : Acts bs clears s k t) (w : reportBlocks ⊆ bs) :
    Acts bs clears s k (duplicate kind t) := by
  unfold duplicate
  split
  case h_1 | h_2 => exact h
  case h_3 => exact acts_report _ h w
  all_goals
    split
    · exact acts_duplicateSeen h w
    · exact acts_report _ h w

/-- The receiver lets go of a frame it was receiving: no attempt of its own is under way then. -/
theorem acts_endReception (h : Acts bs clears s k t) (hears : t.line.hears = true) (line : .line ∈ bs) :
    Acts bs clears s k (endReception t) := by
  refine .line _ h line fun fits => ?_
  obtain ⟨attempt, off, errors⟩ := fits
  refine ⟨fun driven => ?_, off, errors⟩
  obtain ⟨-, -, -, rx⟩ := attempt driven
  simp [Line.hears, rx] at hears

theorem acts_hear {act : State → State} (acts : ∀ {u}, Acts bs clears s k u → Acts bs clears s k (act u))
    (h : Acts bs clears s k t) (line : .line ∈ bs) : Acts bs clears s k (hear act t) := by
  unfold hear
  split
  case isTrue hears => exact acts (acts_endReception h hears line)
  case isFalse => exact h

theorem acts_unaccepted (kind : Kind) (f : Rx) (h : Acts bs clears s k t) (w : .peers :: reportBlocks ⊆ bs) :
    Acts bs clears s k (unaccepted kind f t) := by
  have wr : reportBlocks ⊆ bs := (List.cons_subset.1 w).2
  unfold unaccepted
  split
  · exact acts_discard h wr
  · split
    · exact acts_duplicate kind h wr
    · exact acts_receipt _ h w

/-- A received frame does what its block does with it, or what a frame that no block takes does. -/
theorem acts_receive {kind : Kind} {f : Rx} {act : State → State}
    (acts : ∀ {u}, Acts bs clears s k u → Acts bs clears s k (act u)) (h : Acts bs clears s k t)
    (w : .peers :: reportBlocks ⊆ bs) : Acts bs clears s k (receive kind f act t) := by
  have wr : reportBlocks ⊆ bs := (List.cons_subset.1 w).2
  refine acts_hear (fun heard => ?_) h (w (by decide))
  split
  · exact acts_discard heard wr
  · split
    · exact acts_duplicate kind heard wr
    · split
      · split
        · exact acts heard
        · exact acts (acts_receipt _ heard w)
      · exact acts_receipt _ heard w

/-! ## Cycle Control -/

/-- A write of the Fault Unit that leaves latches and record, and counts no fewer aborts. -/
theorem acts_countAbort (h : Acts bs clears s k t) (fault : .fault ∈ bs) : Acts bs clears s k (countAbort t) := by
  unfold countAbort
  split
  · exact h
  · refine .fault _ h fault fun _ => ⟨fun _ latched => latched, fun _ filled => filled, ?_, fun _ _ clear => clear⟩
    simp only [satAdd]
    omega

theorem acts_takeAbort (source : StationNo) (number : Nat) (h : Acts bs clears s k t) (w : reportBlocks ⊆ bs) :
    Acts bs clears s k (takeAbort source number t) := by
  unfold takeAbort
  split
  case isTrue names =>
    have cycle : t.inCycle = true := by
      unfold namesCycle at names
      exact (Bool.and_eq_true_iff.1 names).1
    exact .aborted _ h w (.inr (.inr (.inr cycle)))
  case isFalse => exact acts_countAbort h (w (by decide))

theorem firstFailure_none {l : List (Bool × ResultCode)} : firstFailure l = none ↔ ∀ c ∈ l, c.1 = true := by
  induction l with
  | nil => simp [firstFailure]
  | cons c rest ih =>
    unfold firstFailure
    split
    · simp [*]
    · simp [*]

theorem acts_armStore (h : Acts bs clears s k t) (w : [.store, .tracker] ⊆ bs) : Acts bs clears s k (armStore t) := by
  unfold armStore
  dsimp only
  split
  · exact .copies _ h w
  · exact .tracker _ (.copies _ h w) (w (by decide)) rfl rfl rfl

theorem armStore_cycle (t : State) : (armStore t).cycle = t.cycle := by
  unfold armStore
  dsimp only
  split <;> rfl

theorem acts_takeArm (recipe : Nat) (h : Acts bs clears s 0 t) (w : [.peers, .tracker, .store] ++ reportBlocks ⊆ bs) :
    Acts bs clears s 0 (takeArm recipe t) := by
  have wr : reportBlocks ⊆ bs := fun b mem => w (List.mem_append_right _ mem)
  unfold takeArm
  split
  case h_1 => exact acts_setResult _ _ h (w (by decide))
  case h_2 passed =>
    have stored : Acts bs clears s 0 (armStore t) := acts_armStore h fun b mem => w (by revert mem; revert b; decide)
    have first := firstFailure_none.1 passed _ (List.mem_cons_self ..)
    refine acts_setResult _ _ (.armed stored wr ?_) (w (by decide))
    rw [armStore_cycle]
    simp only [Bool.and_eq_true, Bool.or_eq_true, beq_iff_eq] at first
    exact first.1

theorem acts_enterStarting (number : Nat) (roster : Marks16) (h : Acts bs clears s k t) (w : .tracker :: reportBlocks ⊆ bs)
    (armed : t.cycle.state = .armed) (low : 1 ≤ number) (high : number ≤ 255) :
    Acts bs clears s k (enterStarting number roster t) := by
  rw [enterStarting_eq]
  exact acts_testBarrier (.started number roster h w armed low high) (w (by decide))

theorem acts_takeCycleStart (number : Nat) (roster : Marks16) (h : Acts bs clears s k t)
    (w : .tracker :: reportBlocks ⊆ bs) : Acts bs clears s k (takeCycleStart number roster t) := by
  unfold takeCycleStart
  split
  · split
    case h_1 => exact acts_setResult _ _ h (w (by decide))
    case h_2 passed =>
      have armed := firstFailure_none.1 passed _ (List.mem_cons_self ..)
      have range := firstFailure_none.1 passed _ (List.mem_cons_of_mem _ (List.mem_cons_self ..))
      simp only [beq_iff_eq, Bool.and_eq_true, decide_eq_true_eq] at armed range
      exact acts_enterStarting number roster (acts_setResult _ _ h (w (by decide))) w armed range.1 range.2
  · exact h

theorem acts_startTimeout (h : Acts bs clears s k t) (w : reportBlocks ⊆ bs) :
    Acts bs clears s k (startTimeout t) :=
  acts_report _ (.cycle _ h (w (by decide)) rfl rfl rfl (.inr rfl) (.inl rfl)) w

theorem acts_takeCycleEnd (number : Nat) (h : Acts bs clears s k t) (w : reportBlocks ⊆ bs) :
    Acts bs clears s k (takeCycleEnd number t) := by
  unfold takeCycleEnd
  split
  case isTrue accepted =>
    refine acts_setResult _ _ (.idle h w ?_) (w (by decide))
    unfold cycleEndAccepted at accepted
    split at accepted
    · exact .inl ‹_›
    · exact .inr (.inl ‹_›)
    · simp at accepted
  case isFalse => exact acts_setResult _ _ h (w (by decide))

theorem acts_clearFaults (h : Acts bs clears s k t) (c : clears = true) (w : reportBlocks ⊆ bs) :
    Acts bs clears s k (clearFaults t) :=
  acts_line_marks (.fault _ h (w (by decide)) fun keeps => by simp [c] at keeps) (w (by decide)) 0 false (Nat.zero_le _)

theorem acts_takeClear (h : Acts bs clears s k t) (c : clears = true) (w : reportBlocks ⊆ bs) :
    Acts bs clears s k (takeClear t) := by
  have cleared := acts_clearFaults h c w
  have cycle : .cycle ∈ bs := w (by decide)
  unfold takeClear
  split
  case h_1 | h_2 => exact acts_setResult _ _ h cycle
  case h_3 aborted =>
    split
    case isTrue clear =>
      refine acts_setResult _ _ (.idle cleared w (.inr (.inr (.inl ⟨aborted, ?_⟩)))) cycle
      simp only [clearable, Bool.and_eq_true, Bool.not_eq_true'] at clear
      exact clear.1
    case isFalse => exact acts_setResult _ _ h cycle
  all_goals exact acts_setResult _ _ cleared cycle

theorem acts_takeStationReset (h : Acts bs clears s 0 t) (c : clears = true)
    (w : [.tracker, .store] ++ reportBlocks ⊆ bs) : Acts bs clears s 0 (takeStationReset t) := by
  unfold takeStationReset
  split
  case h_1 => exact acts_setResult _ _ h (w (by decide))
  case h_2 silent => exact acts_placeBeacon (.resetToJoining h c w silent) rfl (w (by decide)) (w (by decide))
  all_goals exact .resetToIdle h c w (by simp [*])

/-! ## The other blocks' frames -/

theorem acts_storeStaging (kind : Kind) (g : Staging) (c : ResultCode) (h : Acts bs clears s k t) (store : .store ∈ bs)
    (cycle : .cycle ∈ bs) : Acts bs clears s k (storeStaging kind g c t) :=
  acts_setResult _ _ (.staging g h store) cycle

theorem acts_takeHeader (ws : List Word) (h : Acts bs clears s k t) (store : .store ∈ bs) (cycle : .cycle ∈ bs) :
    Acts bs clears s k (takeHeader ws t) := by
  unfold takeHeader
  split
  · exact acts_storeStaging _ _ _ h store cycle
  · exact acts_setResult _ _ h cycle

theorem acts_takeSegment (ws : List Word) (h : Acts bs clears s k t) (store : .store ∈ bs) (cycle : .cycle ∈ bs) :
    Acts bs clears s k (takeSegment ws t) := by
  unfold takeSegment
  split
  · split
    · exact h
    · split
      · exact acts_storeStaging _ _ _ h store cycle
      · exact acts_setResult _ _ h cycle
  · exact h

theorem acts_takeCommit (recipe sum : Nat) (h : Acts bs clears s k t) (store : .store ∈ bs) (cycle : .cycle ∈ bs) :
    Acts bs clears s k (takeCommit recipe sum t) := by
  unfold takeCommit
  split
  · exact acts_storeStaging _ _ _ h store cycle
  · exact acts_setResult _ _ h cycle

/-- A move accepted in an IDLE TRAVEL station, its speed within the rated speed. -/
theorem acts_takePosition (target speed : Nat) (h : Acts bs clears s k t) (cycle : .cycle ∈ bs) (travel : .travel ∈ bs) :
    Acts bs clears s k (takePosition target speed t) := by
  unfold takePosition
  split
  · exact acts_setResult _ _ h cycle
  case isFalse may =>
    split
    · exact acts_setResult _ _ h cycle
    · refine acts_setResult _ _ (.travel _ h travel fun fits => ?_) cycle
      simp only [ne_eq, not_or, Decidable.not_not] at may
      obtain ⟨command, rest, -, half, rise, -⟩ := fits
      refine ⟨command, rest, fun m mem => ?_, half, rise, fun other => absurd may.1 other⟩
      obtain rfl := Option.some.inj mem
      exact ⟨may.2, may.1, Nat.min_le_right _ _⟩

theorem acts_takeFaultQuery (h : Acts bs clears s k t) (w : reportBlocks ⊆ bs) :
    Acts bs clears s k (takeFaultQuery t) := by
  unfold takeFaultQuery
  split
  · exact acts_handReport (acts_setResult _ _ h (w (by decide))) rfl w
  · exact acts_setResult _ _ h (w (by decide))

theorem acts_takeBeaconWords (source : StationNo) (ws : List Word) (h : Acts bs clears s k t)
    (w : [.peers, .tracker] ++ reportBlocks ⊆ bs) : Acts bs clears s k (takeBeaconWords source ws t) := by
  unfold takeBeaconWords
  split
  case h_1 b read => exact acts_takeBeacon _ _ h (beaconOf_travel_data read) w
  case h_2 => exact h

theorem acts_takeJoinWords (source : StationNo) (ws : List Word) (h : Acts bs clears s k t)
    (w : .peers :: reportBlocks ⊆ bs) : Acts bs clears s k (takeJoinWords source ws t) := by
  unfold takeJoinWords
  split
  · exact acts_takeJoin _ _ h w
  · exact h

/-! ## Inputs -/

theorem acts_actuatorTrips (h : Acts bs clears s k t) (w : .pins :: reportBlocks ⊆ bs) :
    Acts bs clears s k (actuatorTrips t) := by
  have dropped : Acts bs clears s k (actuatorDrops t.enable (t.setPins { t.pins with actFault := true })) :=
    .actuator _ h fun b mem => w (by revert mem; revert b; decide)
  unfold actuatorTrips
  dsimp only
  split
  · exact dropped
  · exact acts_reportPlain _ dropped (List.cons_subset.1 w).2

theorem acts_actuatorUnready (h : Acts bs clears s k t) (w : .pins :: reportBlocks ⊆ bs) :
    Acts bs clears s k (actuatorUnready t) := by
  have dropped : Acts bs clears s k (actuatorDrops t.enable (t.setPins { t.pins with actReady := false })) :=
    .actuator _ h fun b mem => w (by revert mem; revert b; decide)
  unfold actuatorUnready
  dsimp only
  split
  · exact acts_reportPlain _ dropped (List.cons_subset.1 w).2
  · exact dropped

theorem acts_interlockSample (pins : Marks8) (h : Acts bs clears s k t) (w : reportBlocks ⊆ bs) :
    Acts bs clears s k (interlockSample pins t) := by
  unfold interlockSample
  split
  · exact h
  · have sampled (v : Interlock) : Acts bs clears s k (holdBegins t.hold (t.setInterlock v)) :=
      .sample v h fun b mem => w (by revert mem; revert b; decide)
    unfold groupATrips
    dsimp only
    split
    · exact acts_reportPlain _ (sampled _) w
    · exact sampled _

theorem acts_coastExpires (h : Acts bs clears s k t) (w : .tracker :: reportBlocks ⊆ bs) :
    Acts bs clears s k (coastExpires t) := by
  have expired : Acts bs clears s k
      (zeroPower (t.setTracker { t.tracker with coastTimer := none, coastExpired := true })) :=
    .coast h fun b mem => w (by revert mem; revert b; decide)
  unfold coastExpires
  dsimp only
  split
  · exact acts_report _ expired (List.cons_subset.1 w).2
  · exact expired

/-! ## Start-up -/

theorem acts_loadBad (h : Acts bs clears s k t) (loading : t.loader.status = .loading) (loader : .loader ∈ bs)
    (w : reportBlocks ⊆ bs) : Acts bs clears s k (loadBad t) :=
  acts_reportPlain _ (.loader _ h loader (by simp [loading]) (by simp) rfl rfl) w

theorem acts_endLoad (memory : List Word) (h : Acts bs clears s k t) (loading : t.loader.status = .loading)
    (w : [.loader, .settings, .tracker] ++ reportBlocks ⊆ bs) : Acts bs clears s k (endLoad memory t) := by
  have wr : reportBlocks ⊆ bs := fun b mem => w (List.mem_append_right _ mem)
  have loader : .loader ∈ bs := w (by decide)
  have image : Acts bs clears s k (t.setLoader { t.loader with image := memory.take imageWords }) :=
    .loader _ h loader (by simp [loading]) (by simp [loading]) rfl rfl
  unfold endLoad
  dsimp only
  split
  case h_1 r role =>
    split
    · rw [loadGood_eq]
      exact acts_placeBeacon (.configured r _ image w loading role) rfl (w (by decide)) (w (by decide))
    · exact acts_loadBad image loading loader wr
  case h_2 => exact acts_loadBad image loading loader wr

theorem acts_powerOn (stn : StationNo) (roleCode : BitVec 2) (h : Acts bs clears s k t) (c : clears = true)
    (w : [.clock, .loader, .settings, .tracker, .store, .peers] ++ reportBlocks ⊆ bs) :
    Acts bs clears s 0 (powerOn stn roleCode t) := by
  have fresh := Acts.freshStart stn roleCode h c w
  rw [powerOn_eq]
  split
  · exact acts_loadBad fresh rfl (w (by decide)) fun b mem => w (List.mem_append_right _ mem)
  · exact fresh

/-! ## Sending -/

theorem acts_lineIdle (h : Acts bs clears s k t) (free : t.line.attempt.isNone = true) (sched : .sched ∈ bs)
    (line : .line ∈ bs) : Acts bs clears s k (tryBegin (t.setLine { t.line with idle := true, rx := .waiting })) := by
  refine acts_tryBegin (.line _ h line fun fits => ?_) sched line
  obtain ⟨-, off, errors⟩ := fits
  exact ⟨fun driven => by simp_all, off, errors⟩

/-- The attempt ended, the offer can go: a station that drives nothing needs none. -/
theorem lineFits_gone {onLine : Bool} {q : Sched} {l : Line} {txErr : Nat} (rx : Reception) (le : txErr ≤ Config.lineOffCount)
    (h : LineFits onLine q l) : LineFits onLine q { l with attempt := none, txErr := txErr, rx := rx } := by
  obtain ⟨-, off, -, rxErr⟩ := h
  exact ⟨by simp, off, le, rxErr⟩

theorem queuesFit_unoffered {q : Sched} (h : QueuesFit q) : QueuesFit { q with offered := none } := by
  obtain ⟨aborts, beacons, slices, reports, sliceRoom, reportRoom⟩ := h
  refine ⟨aborts, beacons, slices, reports, ?_, ?_⟩
  · exact (Nat.le_add_right _ _).trans sliceRoom
  · exact (Nat.le_add_right _ _).trans reportRoom

theorem lineFits_unoffered {onLine : Bool} {q v : Sched} {l : Line} (free : l.attempt = none)
    (abortQ : v.abortQ = q.abortQ) (beaconQ : q.beaconQ = none → v.beaconQ = none) (sliceQ : v.sliceQ = q.sliceQ)
    (reportQ : v.reportQ = q.reportQ) (offered : q.offered = none → v.offered = none) (h : LineFits onLine q l) :
    LineFits onLine v l := by
  obtain ⟨-, off, errors⟩ := h
  refine ⟨by simp [free], fun offLine => ?_, errors⟩
  obtain ⟨noAbort, noBeacon, noSlice, noReport, noOffer⟩ := off offLine
  exact ⟨abortQ.trans noAbort, beaconQ noBeacon, sliceQ.trans noSlice, reportQ.trans noReport, offered noOffer⟩

/-- An attempt ends with its offer gone. -/
theorem acts_attemptOver (h : Acts bs clears s k t) (txErr : Nat)
    (le : t.line.txErr ≤ Config.lineOffCount → txErr ≤ Config.lineOffCount) (sched : .sched ∈ bs) (line : .line ∈ bs) :
    Acts bs clears s k ((t.setSched { t.sched with offered := none, refreshDue := false }).setLine
      { t.line with attempt := none, txErr := txErr }) := by
  have ended : Acts bs clears s k (t.setLine { t.line with attempt := none, txErr := txErr }) := by
    refine .line _ h line fun fits => ?_
    have errors := fits
    obtain ⟨-, -, tx, -⟩ := errors
    exact lineFits_gone t.line.rx (le tx) fits
  exact .sched { t.sched with offered := none, refreshDue := false } ended sched queuesFit_unoffered
    (lineFits_unoffered rfl rfl id rfl rfl fun _ => rfl)

theorem acts_sentWhole (f : Frame) (h : Acts bs clears s k t) (sched : .sched ∈ bs) (line : .line ∈ bs)
    (interlock : .interlock ∈ bs) : Acts bs clears s k (sentWhole f t) := by
  have ended := acts_attemptOver h (t.line.txErr - 1) (fun le => (Nat.sub_le _ _).trans le) sched line
  unfold sentWhole clearCarried
  split
  · exact .interlock _ ended interlock rfl
  · exact ended

theorem queuesFit_takeNewerBeacon {q : Sched} (h : QueuesFit q) : QueuesFit (takeNewerBeacon q) := by
  unfold takeNewerBeacon
  split
  · rename_i o f offered waits
    split
    case isTrue c =>
      have beacon : classOf f.kind = .beacon := by
        obtain ⟨-, beacons, -⟩ := h
        exact beacons f waits
      have unqueued : QueuesFit { q with beaconQ := none } := queuesFit_beaconQ h (by simp)
      exact queuesFit_offered (o := some { o with frame := f }) unqueued
        fun d => by simp [Sched.offers, offered, c, beacon]
    case isFalse => exact h
  · exact h

theorem queuesFit_dropLateJoin (state : StationState) {q : Sched} (h : QueuesFit q) :
    QueuesFit (dropLateJoin state q) := by
  unfold dropLateJoin
  split
  · split
    · exact queuesFit_unoffered h
    · exact h
  · exact h

theorem keptQueues_same (state : StationState) (q : Sched) :
    (takeNewerBeacon (dropLateJoin state q)).abortQ = q.abortQ ∧
    (q.beaconQ = none → (takeNewerBeacon (dropLateJoin state q)).beaconQ = none) ∧
    (takeNewerBeacon (dropLateJoin state q)).sliceQ = q.sliceQ ∧
    (takeNewerBeacon (dropLateJoin state q)).reportQ = q.reportQ ∧
    (q.offered = none → (takeNewerBeacon (dropLateJoin state q)).offered = none) := by
  unfold takeNewerBeacon dropLateJoin
  cases offered : q.offered <;> dsimp only <;> repeat' split
  all_goals simp_all

theorem acts_keepOffer (h : Acts bs clears s k t) (sched : .sched ∈ bs) (line : .line ∈ bs)
    (interlock : .interlock ∈ bs) : Acts bs clears s k (keepOffer t) := by
  have ended : Acts bs clears s k (t.setLine { t.line with attempt := none, rx := .receiving }) := by
    refine .line _ h line fun fits => ?_
    have errors := fits
    obtain ⟨-, -, tx, -⟩ := errors
    exact lineFits_gone .receiving tx fits
  obtain ⟨abortQ, beaconQ, sliceQ, reportQ, offered⟩ := keptQueues_same t.cycle.state t.sched
  have kept : Acts bs clears s k
      ((t.setSched { takeNewerBeacon (dropLateJoin t.cycle.state t.sched) with refreshDue := false }).setLine
        { t.line with attempt := none, rx := .receiving }) :=
    .sched { takeNewerBeacon (dropLateJoin t.cycle.state t.sched) with refreshDue := false } ended sched
      (fun fits => queuesFit_takeNewerBeacon (queuesFit_dropLateJoin _ fits))
      (lineFits_unoffered rfl abortQ beaconQ sliceQ reportQ offered)
  unfold keepOffer
  dsimp only
  split
  · exact acts_refreshBeacon kept sched interlock
  · exact kept

theorem displaceByAbort_of_unoffered {q : Sched} (h : q.offered = none) : displaceByAbort q = q := by
  unfold displaceByAbort
  simp [h]

theorem keepOffer_line (t : State) : (keepOffer t).line = { t.line with attempt := none, rx := .receiving } := by
  unfold keepOffer
  dsimp only
  split <;> simp

theorem acts_lostContention (h : Acts bs clears s k t) (sched : .sched ∈ bs) (line : .line ∈ bs)
    (interlock : .interlock ∈ bs) : Acts bs clears s k (lostContention t) := by
  refine .sched _ (acts_keepOffer h sched line interlock) sched queuesFit_displaceByAbort fun fits => ?_
  obtain ⟨-, off, errors⟩ := fits
  refine ⟨by simp [keepOffer_line], fun offLine => ?_, errors⟩
  obtain ⟨noAbort, noBeacon, noSlice, noReport, noOffer⟩ := off offLine
  rw [displaceByAbort_of_unoffered noOffer]
  exact ⟨noAbort, noBeacon, noSlice, noReport, noOffer⟩

theorem acts_abandon (f : Frame) (h : Acts bs clears s k t) (w : reportBlocks ⊆ bs) :
    Acts bs clears s k (abandon f t) := by
  have ended := acts_attemptOver h (satAdd Config.lineOffCount t.line.txErr 1) (fun _ => satAdd_le _ _ _)
    (w (by decide)) (w (by decide))
  unfold abandon
  dsimp only
  split
  · exact acts_report _ ended w
  · exact ended

theorem acts_beaconDue (h : Acts bs clears s k t) (sched : .sched ∈ bs) (line : .line ∈ bs)
    (interlock : .interlock ∈ bs) : Acts bs clears s k (beaconDue t) :=
  acts_placeBeacon (.interlock _ (acts_sched_same h sched
    { t.sched with beaconTimer := timerBeacon t.settings.beaconPeriod } rfl) interlock rfl) rfl sched line

theorem acts_joinDue (h : Acts bs clears s k t) (sched : .sched ∈ bs) (line : .line ∈ bs) :
    Acts bs clears s k (joinDue t) :=
  acts_placeBeacon (acts_sched_same h sched { t.sched with joinTimer := timerBeacon t.settings.beaconPeriod } rfl)
    rfl sched line

theorem acts_discardJoins (h : Acts bs clears s k t) (sched : .sched ∈ bs) :
    Acts bs clears s k (t.setSched (discardJoins t.line.attempt.isSome t.sched)) := by
  refine .sched _ h sched (fun fits => ?_) fun fits => ?_
  · have queue : QueuesFit { t.sched with beaconQ := t.sched.beaconQ.filter fun f => f.kind != .join } := by
      refine queuesFit_beaconQ fits fun f mem => ?_
      obtain ⟨-, beacons, -⟩ := fits
      simp only [Option.mem_def, Option.filter_eq_some_iff] at mem
      exact beacons f mem.1
    by_cases gone : (t.sched.offered.filter fun o => t.line.attempt.isSome || o.frame.kind != .join) = none
    · simpa [discardJoins, gone] using queuesFit_unoffered queue
    · obtain ⟨o, kept⟩ := Option.ne_none_iff_exists'.1 gone
      have same : t.sched.offered = some o := (Option.filter_eq_some_iff.1 kept).1
      simpa [discardJoins, kept, ← same] using queue
  · obtain ⟨attempt, off, errors⟩ := fits
    refine ⟨fun driven => ?_, fun offLine => ?_, errors⟩
    · simpa [discardJoins, driven] using attempt driven
    · obtain ⟨noAbort, noBeacon, noSlice, noReport, noOffer⟩ := off offLine
      simp [discardJoins, noAbort, noBeacon, noSlice, noReport, noOffer]

theorem acts_leaveJoining (h : Acts bs clears s k t) (joining : t.cycle.state = .joining) (w : reportBlocks ⊆ bs) :
    Acts bs clears s k (leaveJoining t) := by
  unfold leaveJoining
  split
  · exact .aborted _ h w (.inl joining)
  · exact .idle (.cycle _ h (w (by decide)) rfl rfl rfl (.inl rfl) (.inr rfl)) w (.inr (.inr (.inr ⟨joining, rfl⟩)))

theorem acts_endJoinWindow (h : Acts bs clears s k t) (joining : t.cycle.state = .joining) (w : reportBlocks ⊆ bs) :
    Acts bs clears s k (endJoinWindow t) := by
  have sched : .sched ∈ bs := w (by decide)
  exact acts_tryBegin (acts_startBeaconTimer (acts_leaveJoining (acts_discardJoins h sched) joining w) sched) sched
    (w (by decide))

end Sys2Proof.Machine
end

section
/-! Every command as a chain of writes, and what follows from the chain alone: it completes, writes the blocks its rules name,
and leaves latches and profile copies to the commands they belong to. -/

namespace Sys2Proof.Machine

variable {bs : List Block} {clears : Bool} {s t u : State} {k : Nat}

/-! ## Every command -/

/-- The commands that may clear latches and record (file 11). -/
def clearsFaults : Instr → Bool
  | .powerOnReset _ _ _ | .clear _ _ | .stationReset _ _ => true
  | _ => false

/-- Every command takes `s` to a settled state. -/
theorem exec_completes (c : Instr) (s : State) : ∃ u, exec c s = .next (settled s u) := by
  cases c <;> exact ⟨_, rfl⟩

theorem settle_inj (h : settle s u = .next t) : settled s u = t := by
  rw [settle_next] at h
  exact Host.Outcome.next.inj h

/-- The end of a command whose chain may write scheduler and carried marks. -/
theorem acts_settle (h : settle s u = .next t) (sched : .sched ∈ bs) (interlock : .interlock ∈ bs)
    (acts : Acts bs clears (advance k s) 0 u) : Acts bs clears (advance k s) 0 t :=
  settle_inj h ▸ acts_settled s acts sched interlock

/-- A command that writes neither Cycle Control nor the Profile Store has nothing to refresh. -/
theorem settled_of_writes (w : Writes bs (advance k s) t) (cycle : .cycle ∉ bs) (store : .store ∉ bs) :
    settled s t = t := by
  have sameCycle : t.cycle = (advance k s).cycle := w.2 _ cycle
  have sameStore : t.store = s.store := w.2 _ store
  exact settled_of_same (by simp [sameFields, sameCycle, sameStore])

theorem acts_settle_same (h : settle s u = .next t) (cycle : .cycle ∉ bs) (store : .store ∉ bs)
    (acts : Acts bs clears (advance k s) 0 u) : Acts bs clears (advance k s) 0 t := by
  rw [← settle_inj h, settled_of_writes (writes_of_acts acts) cycle store]
  exact acts

theorem valvesFit_floodOver {q : Quench} (h : ValvesFit t q) :
    ValvesFit t { q.closeSpray with flood := false, floodTimer := none } := by
  obtain ⟨-, -, pulse, other⟩ := h
  exact ⟨by simp [Quench.closeSpray], by simp, pulse, fun role => ⟨rfl, rfl, (other role).2.2⟩⟩

theorem acts_ite {p : Prop} [Decidable p] {a b : State} (yes : p → Acts bs clears s k a) (no : Acts bs clears s k b) :
    Acts bs clears s k (if p then a else b) := by
  split
  · exact yes ‹_›
  · exact no

/-- What a command can do is a chain of writes that begins as time has passed. -/
theorem exec_acts {c : Instr} (h : exec c s = .next t) :
    Acts (mayWrite c) (clearsFaults c) (advance c.ticks s) 0 t := by
  cases c <;> dsimp only [mayWrite, clearsFaults, Instr.ticks]
  case powerOnReset ticks stn roleCode =>
    exact acts_settle h (by decide) (by decide) (acts_powerOn stn roleCode .refl rfl (by decide))
  case configurationLoad ticks memory =>
    exact acts_settle h (by decide) (by decide) (acts_ite (fun loading => acts_endLoad memory .refl loading (by decide)) .refl)
  case positionUpdate ticks => exact acts_settle_same h (by decide) (by decide) (.position .refl (by decide))
  case encoderEdge ticks rising encB =>
    have edge : Acts [.pins, .tracker] false (advance ticks s) 0
        ((advance ticks s).setPins { (advance ticks s).pins with encA := rising, encB := encB }) :=
      .pins _ .refl (by decide) (by simp [State.actuatorGood])
    exact acts_settle_same h (by decide) (by decide)
      (acts_ite (fun _ => .tracker (countEdge rising encB _) edge (by decide) rfl rfl rfl) edge)
  case homeCapture ticks =>
    exact acts_settle_same h (by decide) (by decide) (acts_ite (fun _ =>
      .travel _ (.tracker { (advance ticks s).tracker with count := 0, referenced := true } .refl (by decide) rfl rfl rfl)
        (by decide) (travelFits_moveAtHome _)) .refl)
  case coastTimerExpiry ticks =>
    exact acts_settle h (by decide) (by decide) (acts_ite (fun _ => acts_coastExpires .refl (by decide)) .refl)
  case powerControlStep ticks limit =>
    exact acts_settle h (by decide) (by decide) (acts_ite (fun _ => acts_powerStep limit .refl (by decide)) .refl)
  case feedbackWord ticks value good =>
    exact acts_settle_same h (by decide) (by decide) (acts_ite (fun _ => .power _ .refl (by decide) (.inl rfl)) .refl)
  case travelControlStep ticks =>
    exact acts_settle h (by decide) (by decide)
      (acts_ite (fun runs => acts_travelStep .refl ((runs_iff _ _).1 runs).1 (by decide)) .refl)
  case stepToggle ticks =>
    exact acts_settle_same h (by decide) (by decide)
      (acts_ite (fun due => .travel _ .refl (by decide) (travelFits_toggle due)) .refl)
  case tachPulse ticks =>
    exact acts_settle_same h (by decide) (by decide)
      (acts_ite (fun runs => acts_travel_same .refl ((runs_iff _ _).1 runs).1 (by decide) _ rfl) .refl)
  case tachWindowEnd ticks =>
    refine acts_settle h (by decide) (by decide) (acts_ite (fun due => ?_) .refl)
    exact acts_tachWindow .refl ((runs_iff _ _).1 (Bool.and_eq_true_iff.1 due).1).1 (by decide)
  case quenchControlStep ticks =>
    exact acts_settle h (by decide) (by decide)
      (acts_ite (fun runs => acts_quenchStep .refl ((runs_iff _ _).1 runs).1 (by decide)) .refl)
  case soakExpiry ticks =>
    exact acts_settle_same h (by decide) (by decide)
      (acts_ite (fun _ => acts_quench_same .refl (by decide) _ rfl) .refl)
  case pulsePhaseExpiry ticks =>
    obtain ⟨entries, created, judged, flushed⟩ := endPulsePhase_keeps (advance ticks s)
    exact acts_settle_same h (by decide) (by decide) (acts_ite (fun _ =>
      .quench _ .refl (by decide) (listFits_of_same entries created judged flushed) valvesFit_endPulsePhase) .refl)
  case flowPulse ticks =>
    exact acts_settle_same h (by decide) (by decide)
      (acts_ite (fun _ => acts_quench_same .refl (by decide) _ rfl) .refl)
  case flowWindowEnd ticks =>
    exact acts_settle h (by decide) (by decide) (acts_ite (fun _ => acts_endFlowWindow .refl (by decide)) .refl)
  case floodTimerExpiry ticks =>
    exact acts_settle_same h (by decide) (by decide) (acts_ite (fun _ =>
      acts_quench_valves .refl (by decide) _ rfl valvesFit_floodOver) .refl)
  case actFaultActive ticks =>
    refine acts_settle h (by decide) (by decide) ?_
    exact acts_ite (fun _ => .refl) (acts_actuatorTrips .refl (by decide))
  case actReadyInactive ticks =>
    exact acts_settle h (by decide) (by decide) (acts_ite (fun _ => acts_actuatorUnready .refl (by decide)) .refl)
  case actuatorInputRecovery ticks input =>
    refine acts_settle_same h (by decide) (by decide) (.pins _ .refl (by decide) fun good => ?_)
    obtain ⟨ready, fault⟩ : s.pins.actReady = true ∧ s.pins.actFault = false := by
      simpa [State.actuatorGood] using good
    cases input
    · exact ⟨ready, rfl⟩
    · exact ⟨rfl, fault⟩
  case interlockSample ticks pins =>
    exact acts_settle h (by decide) (by decide) (acts_interlockSample pins .refl (by decide))
  case abort ticks f =>
    exact acts_settle h (by decide) (by decide)
      (acts_receive (fun heard => acts_takeAbort _ _ heard (by decide)) .refl (by decide))
  case arm ticks f =>
    exact acts_settle h (by decide) (by decide)
      (acts_receive (fun heard => acts_takeArm _ heard (by decide)) .refl (by decide))
  case cycleStart ticks f =>
    exact acts_settle h (by decide) (by decide)
      (acts_receive (fun heard => acts_takeCycleStart _ _ heard (by decide)) .refl (by decide))
  case startTimerExpiry ticks =>
    exact acts_settle h (by decide) (by decide) (acts_ite (fun _ => acts_startTimeout .refl (by decide)) .refl)
  case cycleEnd ticks f =>
    exact acts_settle h (by decide) (by decide)
      (acts_receive (fun heard => acts_takeCycleEnd _ heard (by decide)) .refl (by decide))
  case clear ticks f =>
    exact acts_settle h (by decide) (by decide)
      (acts_receive (fun heard => acts_takeClear heard rfl (by decide)) .refl (by decide))
  case stationReset ticks f =>
    exact acts_settle h (by decide) (by decide)
      (acts_receive (fun heard => acts_takeStationReset heard rfl (by decide)) .refl (by decide))
  case recipeHeader ticks f =>
    exact acts_settle h (by decide) (by decide)
      (acts_receive (fun heard => acts_takeHeader _ heard (by decide) (by decide)) .refl (by decide))
  case segment ticks f =>
    exact acts_settle h (by decide) (by decide)
      (acts_receive (fun heard => acts_takeSegment _ heard (by decide) (by decide)) .refl (by decide))
  case commit ticks f =>
    exact acts_settle h (by decide) (by decide)
      (acts_receive (fun heard => acts_takeCommit _ _ heard (by decide) (by decide)) .refl (by decide))
  case position ticks f =>
    exact acts_settle h (by decide) (by decide)
      (acts_receive (fun heard => acts_takePosition _ _ heard (by decide) (by decide)) .refl (by decide))
  case faultQuery ticks f =>
    exact acts_settle h (by decide) (by decide)
      (acts_receive (fun heard => acts_takeFaultQuery heard (by decide)) .refl (by decide))
  case beacon ticks f =>
    exact acts_settle h (by decide) (by decide)
      (acts_receive (fun heard => acts_takeBeaconWords _ _ heard (by decide)) .refl (by decide))
  case join ticks f =>
    exact acts_settle h (by decide) (by decide)
      (acts_receive (fun heard => acts_takeJoinWords _ _ heard (by decide)) .refl (by decide))
  case sliceNotice ticks f =>
    exact acts_settle h (by decide) (by decide)
      (acts_receive (fun heard => acts_takeNotice _ _ heard (by decide)) .refl (by decide))
  case frameNotAccepted ticks kind f =>
    exact acts_settle h (by decide) (by decide)
      (acts_hear (fun heard => acts_unaccepted kind f heard (by decide)) .refl (by decide))
  case discardedFrame ticks failed =>
    exact acts_settle h (by decide) (by decide)
      (acts_hear (fun heard => acts_discard heard (by decide)) .refl (by decide))
  case duplicateFrame ticks kind =>
    exact acts_settle h (by decide) (by decide)
      (acts_hear (fun heard => acts_duplicate kind heard (by decide)) .refl (by decide))
  case lineIdle ticks =>
    exact acts_settle_same h (by decide) (by decide)
      (acts_ite (fun free => acts_lineIdle .refl free (by decide) (by decide)) .refl)
  case sentWhole ticks =>
    refine acts_settle_same h (by decide) (by decide) ?_
    split
    · exact acts_sentWhole _ .refl (by decide) (by decide) (by decide)
    · exact .refl
  case lostContention ticks =>
    exact acts_settle_same h (by decide) (by decide)
      (acts_ite (fun _ => acts_lostContention .refl (by decide) (by decide) (by decide)) .refl)
  case abandoned ticks =>
    refine acts_settle h (by decide) (by decide) ?_
    split
    · exact acts_abandon _ .refl (by decide)
    · exact .refl
  case beaconTimerExpiry ticks =>
    exact acts_settle_same h (by decide) (by decide)
      (acts_ite (fun _ => acts_beaconDue .refl (by decide) (by decide) (by decide)) .refl)
  case joinTimerExpiry ticks =>
    exact acts_settle_same h (by decide) (by decide)
      (acts_ite (fun _ => acts_joinDue .refl (by decide) (by decide)) .refl)
  case joinWindowEnd ticks =>
    exact acts_settle h (by decide) (by decide)
      (acts_ite (fun ends => acts_endJoinWindow .refl ends.1 (by decide)) .refl)
  case stalenessTimerExpiry ticks n =>
    refine acts_settle h (by decide) (by decide) ?_
    split
    · rename_i p found
      exact acts_ite (fun _ => acts_losePeer .refl (peer_some found).1 (by decide)) .refl
    · exact .refl
  case receptionStart ticks =>
    refine acts_settle_same h (by decide) (by decide) (acts_ite (fun idle => .line _ .refl (by decide) fun fits => ?_) .refl)
    obtain ⟨attempt, off, errors⟩ := fits
    refine ⟨fun driven => ?_, off, errors⟩
    obtain ⟨-, busy, -⟩ := attempt driven
    rw [busy] at idle
    cases idle

/-! ## Blocks, profile copies, latches -/

theorem pending_of_exec {c : Instr} (h : exec c s = .next t) : t.pending = s.pending :=
  (writes_of_acts (exec_acts h)).1

/-- Settles O3. -/
theorem everyCommandCompletes : Obligations.EveryCommandCompletes := by
  intro c s
  obtain ⟨u, completes⟩ := exec_completes c s
  exact ⟨settled s u, completes, pending_of_exec completes⟩

/-- Settles O13. -/
theorem eachCommandWritesItsBlocks : Obligations.EachCommandWritesItsBlocks :=
  fun _ _ _ _ h out => (writes_of_acts (exec_acts h)).2 _ out

/-- Without the reach of the tracker's reset or of an ARM a chain writes the staging copy alone. -/
theorem active_of_acts (h : Acts bs false s k t) (tracker : .store ∈ bs → .tracker ∉ bs) :
    t.store.active = s.store.active := by
  by_cases store : .store ∈ bs
  case neg =>
    have same : t.store = s.store := (writes_of_acts h).2 _ store
    rw [same]
  case pos =>
    have out := tracker store
    induction h with
    | refl => rfl
    | pins | loader | cycle | tracker | track | staging | power | compute | travel | quench | peers | sched | line | fault
    | interlock | freeDraws => assumption
    | actuator _ _ _ ih => exact (congrArg Store.active ((writes_actuatorDrops _ _).2 .store (by decide))).trans ih
    | freshStart _ _ _ c => cases c
    | configured _ _ _ sub => exact absurd (sub (by decide)) out
    | position _ sub => exact absurd (sub (by decide)) out
    | coast _ sub => exact absurd (sub (by decide)) out
    | copies _ _ sub => exact absurd (sub (by decide)) out
    | loses p _ _ _ ih => exact (congrArg Store.active ((writes_notifyPeer_of_not_beacon _ _).2 .store (by decide))).trans ih
    | sample _ _ _ ih => exact (congrArg Store.active ((writes_holdBegins _ _).2 .store (by decide))).trans ih
    | aborted _ _ _ _ ih => simpa using ih
    | silenced _ _ _ _ ih => simpa using ih
    | idle _ _ _ ih => simpa using ih
    | armed _ _ _ ih => exact (congrArg Store.active ((writes_enterArmed _).2 .store (by decide))).trans ih
    | started _ _ _ sub => exact absurd (sub (by decide)) out
    | scanning _ _ _ ih => simpa using ih
    | done _ _ _ _ ih => simpa using ih
    | resetToIdle _ c => cases c
    | resetToJoining _ c => cases c

/-- Settles O15. -/
theorem profileCopiesStand : Obligations.ProfileCopiesStand := by
  intro c s t h notReset notArm notStationReset
  have acts := exec_acts h
  have noStore (out : .store ∉ mayWrite c) : t.store = s.store := (writes_of_acts acts).2 .store out
  cases c
  case powerOnReset => exact absurd rfl (notReset _ _ _)
  case arm => exact absurd rfl (notArm _ _)
  case stationReset => exact absurd rfl (notStationReset _ _)
  case recipeHeader ticks f => exact ⟨active_of_acts (s := advance ticks s) acts fun _ => by simp [mayWrite, reportBlocks], fun no => absurd rfl (no _ _)⟩
  case segment ticks f => exact ⟨active_of_acts (s := advance ticks s) acts fun _ => by simp [mayWrite, reportBlocks], fun _ no => absurd rfl (no _ _)⟩
  case commit ticks f => exact ⟨active_of_acts (s := advance ticks s) acts fun _ => by simp [mayWrite, reportBlocks], fun _ _ no => absurd rfl (no _ _)⟩
  all_goals
    have same := noStore (by simp [mayWrite, reportBlocks])
    exact ⟨congrArg Store.active same, fun _ _ _ => same⟩

/-- Latches, record and abort count stand, or grow; where the mask stands no masked kind is latched. -/
def FaultStands (bs : List Block) (s t : State) : Prop :=
  (∀ k, s.isLatched k = true → t.isLatched k = true) ∧
  (∀ r, s.fault.record = some r → t.fault.record = some r) ∧
  min s.fault.abortSeen Config.max16 ≤ t.fault.abortSeen ∧
  (.settings ∉ bs → ∀ k, s.isMasked k = true → s.isLatched k = false → t.isLatched k = false)

theorem faultStands_kept {v : FaultUnit} (h : FaultStands bs s t) (settings : .settings ∉ bs → t.settings = s.settings)
    (kept : FaultKept t v) : FaultStands bs s (t.setFault v) := by
  obtain ⟨latches, record, seen, masks⟩ := h
  obtain ⟨latches', record', seen', masks'⟩ := kept
  refine ⟨fun k was => latches' k (latches k was), fun r was => record' r (record r was), ?_, fun out k masked clear => ?_⟩
  · exact le_trans (by omega) seen'
  · refine masks' k ?_ (masks out k masked clear)
    rwa [State.isMasked, settings out]

/-- A write of the abort cause alone. -/
theorem faultStands_cause (h : FaultStands bs s t) (cause : Option AbortCause)
    (e : u.fault = { t.fault with cause := cause }) : FaultStands bs s u := by
  unfold FaultStands State.isLatched at h ⊢
  rw [e]
  exact h

theorem faultStands_same (h : FaultStands bs s t) (e : u.fault = t.fault) : FaultStands bs s u :=
  faultStands_cause h t.fault.cause e

theorem enterAborted_fault (c : AbortCause) (t : State) : (enterAborted c t).fault = { t.fault with cause := some c } := by
  unfold enterAborted
  split <;> simp [markAborted]

theorem enterSilent_fault (f : FaultKind) (t : State) :
    ∃ cause, (enterSilent f t).fault = { t.fault with cause := cause } := by
  unfold enterSilent
  split
  · exact ⟨some (.fault f), by simp⟩
  · split <;> exact ⟨t.fault.cause, by simp⟩

theorem enterArmed_fault (t : State) : (enterArmed t).fault = t.fault := by
  unfold enterArmed
  dsimp only
  split <;> simp

theorem fault_of_acts (h : Acts bs clears s k t) (keeps : clears = false) : FaultStands bs s t := by
  induction h with
  | refl => exact ⟨fun _ was => was, fun _ was => was, Nat.min_le_left _ _, fun _ _ _ clear => clear⟩
  | fault v h mem kept ih =>
    exact faultStands_kept ih (fun out => (writes_of_acts h).2 .settings out) (kept keeps)
  | pins | loader | cycle | tracker | track | staging | copies | power | compute | travel | quench | peers | sched | line
  | interlock | freeDraws => assumption
  | actuator _ _ _ ih => exact faultStands_same ih ((writes_actuatorDrops _ _).2 .fault (by decide))
  | position _ _ ih => exact faultStands_same ih ((writes_positionUpdate _).2 .fault (by decide))
  | coast _ _ ih => exact faultStands_same ih (by simp)
  | loses p _ _ _ ih => exact faultStands_same ih ((writes_notifyPeer_of_not_beacon _ _).2 .fault (by decide))
  | sample _ _ _ ih => exact faultStands_same ih ((writes_holdBegins _ _).2 .fault (by decide))
  | aborted c _ _ _ ih => exact faultStands_cause ih _ (enterAborted_fault c _)
  | silenced f _ _ _ ih =>
    obtain ⟨cause, e⟩ := enterSilent_fault f _
    exact faultStands_cause ih cause e
  | idle _ _ _ ih => exact faultStands_same ih (by simp)
  | armed _ _ _ ih => exact faultStands_same ih (enterArmed_fault _)
  | started number roster _ _ _ _ _ ih => exact faultStands_same ih rfl
  | scanning _ _ _ ih => exact faultStands_same ih (by simp)
  | done e _ _ _ ih => exact faultStands_same ih (by simp)
  | configured r g _ _ _ _ ih => exact faultStands_same ih rfl
  | freshStart _ _ _ c => cases keeps.symm.trans c
  | resetToIdle _ c => cases keeps.symm.trans c
  | resetToJoining _ c => cases keeps.symm.trans c

/-- Settles O14. -/
theorem latchesStand : Obligations.LatchesStand := by
  intro c s t h notReset notClear notStationReset
  have keeps : clearsFaults c = false := by
    cases c
    case powerOnReset => exact absurd rfl (notReset _ _ _)
    case clear => exact absurd rfl (notClear _ _)
    case stationReset => exact absurd rfl (notStationReset _ _)
    all_goals rfl
  obtain ⟨latches, record, seen, masks⟩ := fault_of_acts (exec_acts h) keeps
  refine ⟨latches, record, seen, fun notLoad => masks ?_⟩
  cases c
  case powerOnReset => exact absurd rfl (notReset _ _ _)
  case configurationLoad => exact absurd rfl (notLoad _ _)
  all_goals simp [mayWrite, reportBlocks]

end Sys2Proof.Machine
end

section
/-! The invariants. Each is kept as time passes and by every write of a chain, and so by every step. -/

namespace Sys2Proof.Machine

variable {bs : List Block} {clears : Bool} {s t u : State} {k : Nat}

/-! ## From chains to steps -/

/-- What the chain of a command, time and a change of the command queue keep, every step keeps. -/
theorem step_keeps {P : State → Prop} (pending : ∀ l s, P s → P (s.setPending l)) (time : ∀ n s, P s → P (advance n s))
    (acts : ∀ {bs clears s t}, Acts bs clears s 0 t → P s → P t) (holds : P s) (h : step s = .next t) : P t := by
  unfold step at h
  split at h
  · exact Host.Outcome.next.inj h ▸ holds
  · exact acts (exec_acts h) (time _ _ (pending _ _ holds))

/-! ## The blocks after an entry to another state -/

/-- The quench block of a QUENCH station that leaves a cycle for ABORTED or SILENT is flooded and flushed; out of a cycle soak
and pulse phase stop. -/
def QuenchHalted (t u : State) : Prop :=
  (t.inCycle = true ∧ t.role = some .quench ∧ u.quench = t.quench.flushAndFlood t.settings.floodTime) ∨
  (t.inCycle = true ∧ t.role ≠ some .quench ∧ u.quench = t.quench) ∨
  (t.inCycle = false ∧ u.quench = t.quench.standDown) ∨
  (t.cycle.state = .aborted ∧ u.quench = t.quench)

theorem abortFromCycle_quench (t : State) :
    (t.role = some .quench ∧ (abortFromCycle t).quench = t.quench.flushAndFlood t.settings.floodTime) ∨
    (t.role ≠ some .quench ∧ (abortFromCycle t).quench = t.quench) := by
  unfold abortFromCycle floodRing
  split
  case isTrue role => exact .inl ⟨by simpa [State.role] using role, by simp⟩
  case isFalse role => exact .inr ⟨by simpa [State.role] using role, by simp⟩

theorem enterAborted_quench (c : AbortCause) (t : State) : QuenchHalted t (enterAborted c t) := by
  unfold enterAborted
  split
  case isTrue cycle =>
    rcases abortFromCycle_quench (markAborted c t) with ⟨role, e⟩ | ⟨role, e⟩
    · exact .inl ⟨cycle, role, e⟩
    · exact .inr (.inl ⟨cycle, role, e⟩)
  case isFalse rest => exact .inr (.inr (.inl ⟨by simpa using rest, rfl⟩))

theorem enterSilent_quench (f : FaultKind) (t : State) : QuenchHalted t (enterSilent f t) := by
  unfold enterSilent
  split
  case isTrue cycle =>
    rcases abortFromCycle_quench (markSilent t |>.setFault { t.fault with cause := some (.fault f) }
      |>.setTravel { t.travel with move := none }) with ⟨role, e⟩ | ⟨role, e⟩
    · exact .inl ⟨cycle, role, e⟩
    · exact .inr (.inl ⟨cycle, role, e⟩)
  case isFalse rest =>
    split
    case isTrue aborted => exact .inr (.inr (.inr ⟨aborted, rfl⟩))
    case isFalse => exact .inr (.inr (.inl ⟨by simpa using rest, rfl⟩))

theorem enterArmed_quench (t : State) :
    (t.role = some .quench ∧ ∃ stage, (enterArmed t).quench = t.quench.armed stage) ∨
    (t.role ≠ some .quench ∧ (enterArmed t).quench = t.quench) := by
  unfold enterArmed
  dsimp only
  split
  case isTrue role => exact .inl ⟨role, finalStageOf t, by simp⟩
  case isFalse role => exact .inr ⟨role, by simp⟩

theorem resetBlocks_quench (t : State) : (resetBlocks t).quench = t.quench.stationReset := by
  unfold resetBlocks
  dsimp only
  split <;> simp

theorem markDone_quench (e : EndKind) (t : State) :
    (markDone e t).quench = { limitSpray .done t.quench with runout := false } := by
  simp [markDone]

/-! ## O5: the pending quench list -/

theorem listFits_reset {q : Quench} (entries : q.entries = []) (created : q.nCreated = 0) (judged : q.nJudged = 0)
    (flushed : q.nFlushed = 0) : ListFits 0 q := by
  simp [ListFits, entries, created, judged, flushed]

theorem listFits_same (h : ListFits k t.quench) (e : u.quench = t.quench) : ListFits k u.quench := by rwa [e]

theorem listFits_flush (floodTime : Nat) {q : Quench} (h : ListFits k q) : ListFits k (q.flushAndFlood floodTime) := by
  obtain ⟨-, -, balance⟩ := h
  exact ⟨List.Pairwise.nil, Nat.zero_le _, by simp only [Quench.flushAndFlood, List.length_nil]; omega⟩

theorem listFits_halted (h : ListFits k t.quench) (halted : QuenchHalted t u) : ListFits k u.quench := by
  rcases halted with ⟨-, -, e⟩ | ⟨-, -, e⟩ | ⟨-, e⟩ | ⟨-, e⟩ <;> rw [e]
  exacts [listFits_flush _ h, h, h, h]

theorem list_of_acts (h : Acts bs clears s k t) (fits : ListFits 0 s.quench) : ListFits k t.quench := by
  induction h with
  | refl => exact fits
  | pins | loader | cycle | tracker | track | staging | copies | power | compute | travel | peers | sched | line | fault
  | interlock | freeDraws => assumption
  | quench v _ _ list _ ih => exact list ih
  | actuator _ _ _ ih => exact listFits_same ih ((writes_actuatorDrops _ _).2 .quench (by decide))
  | position _ _ ih => exact listFits_same ih ((writes_positionUpdate _).2 .quench (by decide))
  | coast _ _ ih => simpa using ih
  | loses p _ _ _ ih => exact listFits_same ih ((writes_notifyPeer_of_not_beacon _ _).2 .quench (by decide))
  | sample _ _ _ ih => exact listFits_same ih ((writes_holdBegins _ _).2 .quench (by decide))
  | freshStart => exact listFits_reset rfl rfl rfl rfl
  | resetToIdle | resetToJoining => exact listFits_reset rfl rfl rfl rfl
  | configured r g _ _ _ _ ih => exact ih
  | aborted c _ _ _ ih => exact listFits_halted ih (enterAborted_quench c _)
  | silenced f _ _ _ ih => exact listFits_halted ih (enterSilent_quench f _)
  | idle _ _ _ ih => exact ih
  | armed _ _ _ ih =>
    rcases enterArmed_quench _ with ⟨-, stage, e⟩ | ⟨-, e⟩ <;> rw [e]
    · exact listFits_reset rfl rfl rfl rfl
    · exact ih
  | started _ _ _ _ _ _ _ ih => exact ih
  | scanning _ _ _ ih => simpa using ih
  | done e _ _ _ ih =>
    rw [markDone_quench]
    exact ih

/-- Settles O5. -/
theorem stepKeepsQuenchList : Obligations.StepKeepsQuenchList := fun _ _ =>
  step_keeps (fun _ _ holds => holds) (fun _ _ holds => holds) fun acts holds => list_of_acts acts holds

end Sys2Proof.Machine
end

section
/-! The other invariants: queues, line, Cycle Control, valves, Peer Table. -/

namespace Sys2Proof.Machine

variable {bs : List Block} {clears : Bool} {s t u : State} {k : Nat}

/-! ## O6: the class queues -/

theorem queuesFit_powerOn : QueuesFit Sched.powerOn := by simp [QueuesFit, Sched.powerOn, Sched.sliceOccupancy,
  Sched.reportOccupancy, Sched.offers]

theorem queuesFit_silenced (q : Sched) : QueuesFit q.silenced := by simp [QueuesFit, Sched.silenced, Sched.sliceOccupancy,
  Sched.reportOccupancy, Sched.offers]

theorem queuesFit_same (h : QueuesFit t.sched) (e : u.sched = t.sched) : QueuesFit u.sched := by rwa [e]

theorem resetBlocks_sched (t : State) : (resetBlocks t).sched = Sched.powerOn := by
  unfold resetBlocks
  dsimp only
  split <;> simp

theorem enterArmed_sched (t : State) : (enterArmed t).sched = t.sched := by
  unfold enterArmed
  dsimp only
  split <;> simp

theorem queues_of_acts (h : Acts bs clears s k t) (fits : QueuesFit s.sched) : QueuesFit t.sched := by
  induction h with
  | refl => exact fits
  | pins | loader | cycle | tracker | track | staging | copies | power | compute | travel | quench | peers | line | fault
  | interlock | freeDraws => assumption
  | sched v _ _ queues _ ih => exact queues ih
  | actuator _ _ _ ih => exact queuesFit_same ih ((writes_actuatorDrops _ _).2 .sched (by decide))
  | position _ _ ih => exact queuesFit_same ih ((writes_positionUpdate _).2 .sched (by decide))
  | coast _ _ ih => simpa using ih
  | loses p _ _ _ ih => exact queuesFit_same ih ((writes_notifyPeer_of_not_beacon _ _).2 .sched (by decide))
  | sample _ _ _ ih => exact queuesFit_same ih ((writes_holdBegins _ _).2 .sched (by decide))
  | freshStart => exact queuesFit_powerOn
  | resetToIdle | resetToJoining => exact queuesFit_powerOn
  | configured r g _ _ _ _ ih => exact ih
  | aborted c _ _ _ ih => simpa using ih
  | silenced f _ _ _ ih => simpa using queuesFit_silenced _
  | idle _ _ _ ih => simpa using ih
  | armed _ _ _ ih => exact queuesFit_same ih (enterArmed_sched _)
  | started _ _ _ _ _ _ _ ih => exact ih
  | scanning _ _ _ ih => simpa using ih
  | done e _ _ _ ih => simpa using ih

/-- Settles O6. -/
theorem stepKeepsQueues : Obligations.StepKeepsQueues := fun _ _ =>
  step_keeps (P := QueuesSafe) (fun _ _ holds => holds) (fun _ _ holds => holds) fun acts holds => queues_of_acts acts holds

/-! ## The station state and the loader -/

/-- A LOST peer can at most complete the start barrier. -/
theorem notifyPeer_cycle (p : Peer) (t : State) :
    (notifyPeer p false t).cycle = t.cycle ∨
    (t.cycle.state = .starting ∧ (notifyPeer p false t).cycle = (enterScanning t).cycle) := by
  have same : (notifyPeer p false t).cycle = (notifyCycle p false t).cycle := by
    unfold notifyPeer notifyPower notifyTravel recomputeTarget testSpindleHold
    repeat' split
    all_goals simp
  rw [same]
  by_cases marked : t.inRoster p.number = true
  · by_cases barrier : t.cycle.state = .starting ∧ t.barrierComplete = true
    · exact .inr ⟨barrier.1, by simp [notifyCycle, marked, testBarrier, barrier]⟩
    · exact .inl (by simp [notifyCycle, marked, testBarrier, barrier])
  · exact .inl (by simp [notifyCycle, marked])

theorem loaded_of_ne_offline (h : LoaderSafe t) (state : t.cycle.state ≠ .offline) : t.loader.status = .good := by
  by_contra bad
  exact state (h bad)

theorem loaderSafe_same (h : LoaderSafe t) (loader : u.loader = t.loader) (state : u.cycle.state = t.cycle.state) :
    LoaderSafe u := by
  unfold LoaderSafe
  rw [loader, state]
  exact h

/-- A station with a good load may be in any state. -/
theorem loaderSafe_of_ne_offline (h : LoaderSafe t) (state : t.cycle.state ≠ .offline) (loader : u.loader = t.loader) :
    LoaderSafe u := fun bad => absurd (loader ▸ loaded_of_ne_offline h state) bad

theorem onLine_iff (t : State) : t.onLine = true ↔ t.cycle.state ≠ .offline ∧ t.cycle.state ≠ .silent := by
  simp [State.onLine]

theorem onLine_of_inCycle (h : t.inCycle = true) : t.onLine = true := by
  rw [onLine_iff]
  rcases (inCycle_iff t).1 h with e | e | e <;> simp [e]

/-- The states from which a station goes to ABORTED are on the line. -/
theorem onLine_of_aborts (h : t.cycle.state = .joining ∨ t.cycle.state = .idle ∨ t.cycle.state = .armed ∨ t.inCycle = true) :
    t.onLine = true := by
  rcases h with e | e | e | cycle
  · simp [onLine_iff, e]
  · simp [onLine_iff, e]
  · simp [onLine_iff, e]
  · exact onLine_of_inCycle cycle

/-- So are those from which it goes to IDLE. -/
theorem onLine_of_idles (h : t.cycle.state = .done ∨ t.cycle.state = .armed ∨
    (t.cycle.state = .aborted ∧ t.quench.flood = false) ∨ (t.cycle.state = .joining ∧ t.cycle.joinWindow = none)) :
    t.onLine = true := by
  rcases h with e | e | ⟨e, -⟩ | ⟨e, -⟩ <;> simp [onLine_iff, e]

theorem ne_offline_of_onLine (h : t.onLine = true) : t.cycle.state ≠ .offline := ((onLine_iff t).1 h).1

theorem resetBlocks_loader (t : State) : (resetBlocks t).loader = t.loader :=
  (writes_resetBlocks t).2 .loader (by decide)

theorem started_loader (number : Nat) (roster : Marks16) (t : State) : (started number roster t).loader = t.loader := rfl

theorem configured_status (r : Role) (g : Settings) (t : State) :
    (markJoining (configured r g t)).loader.status = .good := rfl

theorem loader_of_acts (h : Acts bs clears s k t) (safe : LoaderSafe s) : LoaderSafe t := by
  induction h with
  | refl => exact safe
  | pins | tracker | track | staging | copies | power | compute | travel | quench | peers | sched | line | fault
  | interlock | freeDraws => assumption
  | cycle v _ _ state _ _ _ _ ih => exact loaderSafe_same ih rfl state
  | loader v _ _ was _ _ _ ih => exact fun _ => ih was
  | actuator _ _ _ ih =>
    exact loaderSafe_same ih ((writes_actuatorDrops _ _).2 .loader (by decide))
      (congrArg Cycle.state ((writes_actuatorDrops _ _).2 .cycle (by decide)))
  | position _ _ ih =>
    exact loaderSafe_same ih ((writes_positionUpdate _).2 .loader (by decide))
      (congrArg Cycle.state ((writes_positionUpdate _).2 .cycle (by decide)))
  | coast _ _ ih => exact loaderSafe_same ih (by simp) (by simp)
  | @loses _ v p _ _ _ ih =>
    have loader := (writes_notifyPeer_of_not_beacon (lose p) (v.setPeers (putPeer (lose p) v.peers))).2 .loader (by decide)
    rcases notifyPeer_cycle (lose p) (v.setPeers (putPeer (lose p) v.peers)) with e | ⟨starting, -⟩
    · exact loaderSafe_same ih loader (congrArg Cycle.state e)
    · exact loaderSafe_of_ne_offline ih (by simp_all) loader
  | sample _ _ _ ih =>
    exact loaderSafe_same ih ((writes_holdBegins _ _).2 .loader (by decide))
      (congrArg Cycle.state ((writes_holdBegins _ _).2 .cycle (by decide)))
  | freshStart => exact fun _ => rfl
  | configured r g => exact fun bad => absurd (configured_status r g _) bad
  | aborted c _ _ state ih =>
    exact loaderSafe_of_ne_offline ih (ne_offline_of_onLine (onLine_of_aborts state)) (by simp)
  | silenced f _ _ on ih => exact loaderSafe_of_ne_offline ih (ne_offline_of_onLine on) (by simp)
  | idle _ _ state ih => exact loaderSafe_of_ne_offline ih (ne_offline_of_onLine (onLine_of_idles state)) (by simp)
  | armed _ _ state ih =>
    exact loaderSafe_of_ne_offline ih (by rcases state with e | e <;> simp [e])
      ((writes_enterArmed _).2 .loader (by decide))
  | started number roster _ _ state _ _ ih =>
    exact loaderSafe_of_ne_offline ih (by simp [state]) (started_loader number roster _)
  | scanning _ _ state ih => exact loaderSafe_of_ne_offline ih (by simp [state]) (by simp)
  | done e _ _ state ih => exact loaderSafe_of_ne_offline ih (by simp [state]) (by simp)
  | resetToIdle _ _ _ state ih =>
    exact loaderSafe_of_ne_offline ih state (by simp [resetBlocks_loader])
  | resetToJoining _ _ _ state ih =>
    exact loaderSafe_of_ne_offline ih (by simp [state]) (by simp [resetBlocks_loader])

/-! ## O7: the line -/

theorem lineFits_same (h : LineFits t.onLine t.sched t.line) (on : u.onLine = t.onLine) (sched : u.sched = t.sched)
    (line : u.line = t.line) : LineFits u.onLine u.sched u.line := by
  rwa [on, sched, line]

theorem lineFits_of_writes {ws : List Block} (w : Writes ws t u) (h : LineFits t.onLine t.sched t.line)
    (cycle : .cycle ∉ ws) (sched : .sched ∉ ws) (line : .line ∉ ws) : LineFits u.onLine u.sched u.line := by
  have state : u.cycle = t.cycle := w.2 .cycle cycle
  exact lineFits_same h (by rw [State.onLine, state, State.onLine]) (w.2 .sched sched) (w.2 .line line)

/-- A station whose line and scheduler are reset drives and offers nothing. -/
theorem lineFits_reset {onLine : Bool} {q : Sched} {l : Line} (attempt : l.attempt = none) (tx : l.txErr = 0)
    (rx : l.rxErr = 0) (queues : q.abortQ = none ∧ q.beaconQ = none ∧ q.sliceQ = [] ∧ q.reportQ = [] ∧ q.offered = none) :
    LineFits onLine q l :=
  ⟨by simp [attempt], fun _ => queues, by simp [tx], by simp [rx]⟩

theorem resetBlocks_line (t : State) : (resetBlocks t).line = t.line.stationReset := by
  unfold resetBlocks
  dsimp only
  split <;> simp

theorem enterSilent_line (f : FaultKind) (t : State) : (enterSilent f t).line = { t.line with attempt := none } := by
  unfold enterSilent
  split
  · simp [markSilent]
  · split <;> simp [markSilent]

theorem enterIdle_cycle (t : State) :
    (enterIdle t).cycle = { t.cycle with state := .idle, number := 0, roster := 0, endKind := none } := by
  simp [enterIdle]

theorem markDone_cycle (e : EndKind) (t : State) :
    (markDone e t).cycle = { t.cycle with state := .done, endKind := some e } := by
  simp [markDone]

/-- Entry to STARTING clears the drop count alone. -/
theorem lineFits_begins {number : Nat} {roster : Marks16} (h : LineFits t.onLine t.sched t.line) (on : t.onLine = true) :
    LineFits (started number roster t).onLine (started number roster t).sched (started number roster t).line := by
  rw [on] at h
  exact h

theorem enterArmed_line (t : State) : (enterArmed t).line = t.line := by
  unfold enterArmed
  dsimp only
  split <;> simp

theorem enterArmed_cycle (t : State) :
    (enterArmed t).cycle = { t.cycle with state := .armed, number := 0, roster := 0, endKind := none } := by
  unfold enterArmed
  dsimp only
  split <;> simp

theorem line_of_acts (h : Acts bs clears s k t) (safe : LoaderSafe s) (fits : LineFits s.onLine s.sched s.line) :
    LineFits t.onLine t.sched t.line := by
  induction h with
  | refl => exact fits
  | pins | loader | tracker | track | staging | copies | power | compute | travel | quench | peers | fault
  | interlock | freeDraws => assumption
  | cycle v _ _ state _ _ _ _ ih => exact lineFits_same ih (by simp [State.onLine, state]) rfl rfl
  | sched v _ _ _ line ih => exact line ih
  | line v _ _ line ih => exact line ih
  | @actuator _ u v _ _ ih =>
    exact lineFits_of_writes (writes_actuatorDrops u.enable (u.setPins v)) ih (by decide) (by decide) (by decide)
  | position _ _ ih => exact lineFits_of_writes (writes_positionUpdate _) ih (by decide) (by decide) (by decide)
  | coast _ _ ih => exact lineFits_same ih (by simp [State.onLine]) (by simp) (by simp)
  | @loses _ u p _ _ _ ih =>
    have wrote := writes_notifyPeer_of_not_beacon (lose p) (u.setPeers (putPeer (lose p) u.peers))
    refine lineFits_same ih ?_ (wrote.2 .sched (by decide)) (wrote.2 .line (by decide))
    rcases notifyPeer_cycle (lose p) (u.setPeers (putPeer (lose p) u.peers)) with e | ⟨starting, e⟩
    · simp [State.onLine, e]
    · have from_ : u.cycle.state = .starting := starting
      simp only [State.onLine, e, from_]
      rfl
  | @sample _ u v _ _ ih =>
    exact lineFits_of_writes (writes_holdBegins u.hold (u.setInterlock v)) ih (by decide) (by decide) (by decide)
  | freshStart => exact lineFits_reset rfl rfl rfl ⟨rfl, rfl, rfl, rfl, rfl⟩
  | resetToIdle | resetToJoining =>
    exact lineFits_reset (by simp [resetBlocks_line, Line.stationReset]) (by simp [resetBlocks_line, Line.stationReset])
      (by simp [resetBlocks_line, Line.stationReset]) ⟨rfl, rfl, rfl, rfl, rfl⟩
  | @configured _ u r g before _ loading _ ih =>
    have off : u.cycle.state = .offline := loader_of_acts before safe (by simp [loading])
    obtain ⟨attempt, queues, tx, rx⟩ := ih
    have on : (markJoining (configured r g u)).onLine = true := rfl
    have undriven : ¬ u.line.attempt.isSome = true := fun driven => by
      obtain ⟨onLine, -⟩ := attempt driven
      simp [State.onLine, off] at onLine
    exact ⟨fun driven => absurd driven undriven, by simp [on], tx, rx⟩
  | aborted c _ _ state ih =>
    exact lineFits_same ih (by rw [onLine_of_aborts state]; simp [State.onLine]) (by simp) (by simp)
  | silenced f _ _ on ih =>
    obtain ⟨-, -, tx, rx⟩ := ih
    rw [enterSilent_line]
    exact ⟨by simp, fun _ => by simp [Sched.silenced], tx, rx⟩
  | idle _ _ state ih =>
    exact lineFits_same ih (by rw [onLine_of_idles state]; simp [onLine_iff, enterIdle_cycle]) (by simp) (by simp)
  | armed _ _ state ih =>
    refine lineFits_same ih ?_ (enterArmed_sched _) (enterArmed_line _)
    rcases state with e | e <;> (rw [State.onLine, State.onLine, enterArmed_cycle, e]; rfl)
  | started number roster _ _ state _ _ ih => exact lineFits_begins ih (by simp [onLine_iff, state])
  | scanning _ _ state ih => exact lineFits_same ih (by simp only [State.onLine, state]; rfl) (by simp) (by simp)
  | done e _ _ state ih => exact lineFits_same ih (by rw [State.onLine, State.onLine, markDone_cycle, state]; rfl) (by simp) (by simp)

/-- Settles O7. -/
theorem stepKeepsLine : Obligations.StepKeepsLine := fun _ _ =>
  step_keeps (P := LineSafe) (fun _ _ holds => holds) (fun _ _ holds => holds) fun acts ⟨safe, fits⟩ =>
    ⟨loader_of_acts acts safe, line_of_acts acts safe fits⟩

end Sys2Proof.Machine
end

section
/-! The invariants of Cycle Control, of the valves and of the Peer Table. -/

namespace Sys2Proof.Machine

variable {bs : List Block} {clears : Bool} {s t u : State} {k : Nat}

/-! ## O9: cycle number, roster and timers -/

/-- Number, roster and timers of a Cycle Control are what its state allows. -/
def CycleFits (c : Cycle) : Prop :=
  ((c.state = .offline ∨ c.state = .joining ∨ c.state = .idle ∨ c.state = .armed) → c.number = 0 ∧ c.roster = 0) ∧
  (c.state.inCycle = true → 1 ≤ c.number ∧ c.number ≤ 255) ∧
  (c.startTimer.isSome = true → c.state = .starting) ∧ (c.joinWindow.isSome = true → c.state = .joining)

theorem cycleFits_same (h : CycleFits t.cycle) (e : u.cycle = t.cycle) : CycleFits u.cycle := by rwa [e]

/-- Out of STARTING no start timer runs, and out of JOINING no join window. -/
theorem timers_of_cycleFits {c : Cycle} (h : CycleFits c) :
    (c.state ≠ .starting → c.startTimer = none) ∧ (c.state ≠ .joining → c.joinWindow = none) := by
  obtain ⟨-, -, start, join⟩ := h
  constructor <;> intro other <;> by_contra runs
  · exact other (start (Option.isSome_iff_ne_none.2 runs))
  · exact other (join (Option.isSome_iff_ne_none.2 runs))

theorem cycleFits_timersLess {c v : Cycle} (state : v.state = c.state) (number : v.number = c.number) (roster : v.roster = c.roster)
    (start : v.startTimer.isSome = true → c.startTimer.isSome = true)
    (join : v.joinWindow.isSome = true → c.joinWindow.isSome = true) (h : CycleFits c) : CycleFits v := by
  obtain ⟨rest, range, startTimer, joinWindow⟩ := h
  rw [CycleFits, state, number, roster]
  exact ⟨rest, range, fun runs => startTimer (start runs), fun runs => joinWindow (join runs)⟩

/-- Entry to ABORTED or SILENT stops both timers. -/
theorem cycleFits_halted {v : Cycle} (state : v.state = .aborted ∨ v.state = .silent) (start : v.startTimer = none)
    (join : v.joinWindow = none) : CycleFits v := by
  refine ⟨fun rest => ?_, fun cycle => ?_, by simp [start], by simp [join]⟩ <;> rcases state with e | e <;>
    simp [e, StationState.inCycle] at *

theorem enterAborted_cycle (c : AbortCause) (t : State) :
    (enterAborted c t).cycle = { t.cycle with state := .aborted, startTimer := none, joinWindow := none } := by
  unfold enterAborted
  split <;> simp [markAborted]

theorem enterSilent_cycle (f : FaultKind) (t : State) :
    (enterSilent f t).cycle = { t.cycle with state := .silent, startTimer := none, joinWindow := none } := by
  unfold enterSilent
  split
  · simp [markSilent]
  · split <;> simp [markSilent]

theorem enterScanning_cycle (t : State) :
    (enterScanning t).cycle = { t.cycle with state := .scanning, startTimer := none, scanTenths := 0, scanTicks := 0 } := rfl

theorem cycleFits_scanning (h : CycleFits t.cycle) (state : t.cycle.state = .starting) : CycleFits (enterScanning t).cycle := by
  obtain ⟨-, join⟩ := timers_of_cycleFits h
  obtain ⟨-, range, -⟩ := h
  rw [enterScanning_cycle]
  exact ⟨by simp, fun _ => range (by rw [state]; rfl), by simp, by simp [join (by simp [state])]⟩

/-- A state before a cycle has number 0, an empty roster and no start timer. -/
theorem cycleFits_rest {v : Cycle} (state : v.state = .offline ∨ v.state = .joining ∨ v.state = .idle ∨ v.state = .armed)
    (number : v.number = 0) (roster : v.roster = 0) (start : v.startTimer = none)
    (join : v.joinWindow.isSome = true → v.state = .joining) : CycleFits v := by
  refine ⟨fun _ => ⟨number, roster⟩, fun cycle => ?_, by simp [start], join⟩
  rcases state with e | e | e | e <;> simp [e, StationState.inCycle] at cycle

theorem resetBlocks_cycle (t : State) : (resetBlocks t).cycle = t.cycle.stationReset := by
  unfold resetBlocks
  dsimp only
  split <;> simp

theorem cycle_of_acts (h : Acts bs clears s k t) (safe : LoaderSafe s) (fits : CycleFits s.cycle) : CycleFits t.cycle := by
  induction h with
  | refl => exact fits
  | pins | loader | tracker | track | staging | copies | power | compute | travel | quench | peers | sched | line | fault
  | interlock | freeDraws => assumption
  | cycle v _ _ state number roster start join ih =>
    refine cycleFits_timersLess state number roster (fun runs => ?_) (fun runs => ?_) ih
    · rcases start with e | e <;> simp_all
    · rcases join with e | e <;> simp_all
  | actuator _ _ _ ih => exact cycleFits_same ih ((writes_actuatorDrops _ _).2 .cycle (by decide))
  | position _ _ ih => exact cycleFits_same ih ((writes_positionUpdate _).2 .cycle (by decide))
  | coast _ _ ih => simpa using ih
  | @loses _ u p _ _ _ ih =>
    rcases notifyPeer_cycle (lose p) (u.setPeers (putPeer (lose p) u.peers)) with e | ⟨starting, e⟩ <;> rw [e]
    · exact ih
    · exact cycleFits_scanning (t := u) ih starting
  | sample _ _ _ ih => exact cycleFits_same ih ((writes_holdBegins _ _).2 .cycle (by decide))
  | freshStart => exact cycleFits_rest (.inl rfl) rfl rfl rfl fun runs => by cases runs
  | @configured _ u r g before _ loading _ ih =>
    have off : u.cycle.state = .offline := loader_of_acts before safe (by simp [loading])
    have start := (timers_of_cycleFits ih).1 (by simp [off])
    obtain ⟨rest, -⟩ := ih
    obtain ⟨number, roster⟩ := rest (.inl off)
    exact cycleFits_rest (.inr (.inl rfl)) number roster start fun _ => rfl
  | aborted c _ _ _ ih => exact cycleFits_halted (.inl (by simp)) (by simp [enterAborted_cycle]) (by simp [enterAborted_cycle])
  | silenced f _ _ _ ih => exact cycleFits_halted (.inr (by simp)) (by simp [enterSilent_cycle]) (by simp [enterSilent_cycle])
  | @idle _ u _ _ state ih =>
    obtain ⟨start, join⟩ := timers_of_cycleFits ih
    rw [enterIdle_cycle]
    have noStart := start (by rcases state with e | e | ⟨e, -⟩ | ⟨e, -⟩ <;> simp [e])
    have noJoin : u.cycle.joinWindow = none := by
      rcases state with e | e | ⟨e, -⟩ | ⟨-, e⟩
      exacts [join (by simp [e]), join (by simp [e]), join (by simp [e]), e]
    exact cycleFits_rest (.inr (.inr (.inl rfl))) rfl rfl noStart (by simp [noJoin])
  | armed _ _ state ih =>
    obtain ⟨start, join⟩ := timers_of_cycleFits ih
    rw [enterArmed_cycle]
    have noStart := start (by rcases state with e | e <;> simp [e])
    have noJoin := join (by rcases state with e | e <;> simp [e])
    exact cycleFits_rest (.inr (.inr (.inr rfl))) rfl rfl noStart (by simp [noJoin])
  | started number roster _ _ state low high ih =>
    have join := (timers_of_cycleFits ih).2 (by simp [state])
    exact ⟨by simp [started], fun _ => ⟨low, high⟩, fun _ => rfl, fun runs => absurd (join ▸ runs) (by simp)⟩
  | scanning _ _ state ih => exact cycleFits_scanning ih state
  | done e _ _ state ih =>
    obtain ⟨start, join⟩ := timers_of_cycleFits ih
    obtain ⟨-, range, -⟩ := ih
    rw [markDone_cycle]
    exact ⟨by simp, fun _ => range (by rw [state]; rfl), by simp [start, state], by simp [join, state]⟩
  | resetToIdle =>
    refine cycleFits_rest (.inr (.inr (.inl rfl))) ?_ ?_ ?_ ?_ <;> simp [resetBlocks_cycle, Cycle.stationReset]
  | resetToJoining =>
    refine cycleFits_rest (.inr (.inl rfl)) ?_ ?_ ?_ fun _ => rfl <;> simp [markJoining, resetBlocks_cycle, Cycle.stationReset]

theorem pass_isSome (n : Nat) (timer : Timer) : (Timer.pass n timer).isSome = timer.isSome := by
  cases timer <;> rfl

theorem cycleFits_advance (n : Nat) (h : CycleFits t.cycle) : CycleFits (advance n t).cycle :=
  cycleFits_timersLess (c := t.cycle) rfl rfl rfl (fun runs => (pass_isSome n _).symm.trans runs)
    (fun runs => (pass_isSome n _).symm.trans runs) h

/-- Settles O9. -/
theorem stepKeepsCycle : Obligations.StepKeepsCycle := fun _ _ =>
  step_keeps (P := CycleSafe) (fun _ _ holds => holds) (fun n _ ⟨safe, fits⟩ => ⟨safe, cycleFits_advance n fits⟩)
    fun acts ⟨safe, fits⟩ => ⟨loader_of_acts acts safe, cycle_of_acts acts safe fits⟩

/-! ## O10: the valves -/

theorem valvesFit_closed {q : Quench} (spray : q.spray = false) (flood : q.flood = false) (pulse : q.pulse = .idle) :
    ValvesFit t q := by
  simp [ValvesFit, spray, flood, pulse]

/-- Where neither state nor role changes, valves that stand fit. -/
theorem valvesFit_same (h : ValvesFit t t.quench) (state : u.cycle.state = t.cycle.state) (role : u.role = t.role)
    (quench : u.quench = t.quench) : ValvesFit u u.quench := by
  rw [quench, ValvesFit, State.inCycle, state, role]
  exact h

theorem role_of_loader (e : u.loader = t.loader) : u.role = t.role := by rw [State.role, State.role, e]

theorem valvesFit_of_writes {ws : List Block} (w : Writes ws t u) (h : ValvesFit t t.quench) (cycle : .cycle ∉ ws)
    (loader : .loader ∉ ws) (quench : .quench ∉ ws) : ValvesFit u u.quench :=
  valvesFit_same h (congrArg Cycle.state (w.2 .cycle cycle)) (role_of_loader (w.2 .loader loader)) (w.2 .quench quench)

/-- Before a cycle all valves are closed and no pulse phase runs. -/
theorem valves_closed_at_rest (h : ValvesFit t t.quench)
    (state : t.cycle.state = .offline ∨ t.cycle.state = .joining ∨ t.cycle.state = .idle ∨ t.cycle.state = .armed) :
    t.quench.spray = false ∧ t.quench.flood = false ∧ t.quench.pulse = .idle := by
  obtain ⟨spray, flood, pulse, -⟩ := h
  have still : t.inCycle = false := by rcases state with e | e | e | e <;> simp [State.inCycle, e, StationState.inCycle]
  refine ⟨Bool.eq_false_iff.2 fun opened => ?_, Bool.eq_false_iff.2 fun opened => ?_, by_contra fun runs => ?_⟩
  · have := spray opened
    rcases state with e | e | e | e <;> simp [e] at this
  · have := flood opened
    rcases state with e | e | e | e <;> simp [e] at this
  · exact absurd (pulse runs) (by simp [still])

/-- The valves of a station in ABORTED or SILENT: flooded out of a cycle, as they were in ABORTED, closed otherwise. -/
theorem valvesFit_halted (h : ValvesFit t t.quench) (halted : QuenchHalted t u)
    (state : u.cycle.state = .aborted ∨ u.cycle.state = .silent) (role : u.role = t.role)
    (closed : t.inCycle = false → t.cycle.state ≠ .aborted → t.quench.spray = false ∧ t.quench.flood = false) :
    ValvesFit u u.quench := by
  have still : u.inCycle = false := by rcases state with e | e <;> simp [State.inCycle, e, StationState.inCycle]
  have opens : u.cycle.state = .starting ∨ u.cycle.state = .scanning ∨ u.cycle.state = .aborted ∨ u.cycle.state = .silent :=
    .inr (.inr state)
  have fits := h
  obtain ⟨-, -, pulse, other⟩ := fits
  rcases halted with ⟨-, quench, e⟩ | ⟨-, notQuench, e⟩ | ⟨rest, e⟩ | ⟨aborted, e⟩ <;> rw [e]
  · exact ⟨fun _ => opens, fun _ => state, fun runs => absurd rfl runs, fun no => absurd (role ▸ quench) no⟩
  · obtain ⟨spray, flood, idle⟩ := other notQuench
    exact valvesFit_closed spray flood idle
  · by_cases aborted : t.cycle.state = .aborted
    · exact ⟨fun _ => opens, fun _ => state, fun runs => absurd rfl runs,
        fun no => ⟨(other (role ▸ no)).1, (other (role ▸ no)).2.1, rfl⟩⟩
    · obtain ⟨spray, flood⟩ := closed rest aborted
      exact valvesFit_closed spray flood rfl
  · have idle : t.quench.pulse = .idle := by_contra fun runs => by
      have := pulse runs
      simp [State.inCycle, aborted, StationState.inCycle] at this
    exact ⟨fun _ => opens, fun _ => state, fun runs => absurd idle runs, fun no => other (role ▸ no)⟩

/-- From STARTING to SCANNING the valves stay as they are. -/
theorem valvesFit_begun (h : ValvesFit t t.quench) (starting : t.cycle.state = .starting)
    (scanning : u.cycle.state = .scanning) (role : u.role = t.role) (quench : u.quench = t.quench) : ValvesFit u u.quench := by
  obtain ⟨-, flood, -, other⟩ := h
  rw [quench]
  refine ⟨fun _ => .inr (.inl scanning), fun opened => ?_, fun _ => by simp [State.inCycle, scanning, StationState.inCycle],
    fun no => other (role ▸ no)⟩
  rcases flood opened with e | e <;> rw [starting] at e <;> cases e

/-- A station on the line, neither in a cycle nor ABORTED, is before one. -/
theorem rests_of_onLine (on : t.onLine = true) (rest : t.inCycle = false) (other : t.cycle.state ≠ .aborted) :
    t.cycle.state = .offline ∨ t.cycle.state = .joining ∨ t.cycle.state = .idle ∨ t.cycle.state = .armed := by
  unfold State.onLine State.inCycle at *
  cases state : t.cycle.state <;> simp_all [StationState.inCycle]

theorem valves_of_acts (h : Acts bs clears s k t) (safe : LoaderSafe s) (fits : ValvesFit s s.quench) :
    ValvesFit t t.quench := by
  induction h with
  | refl => exact fits
  | pins | tracker | track | staging | copies | power | compute | travel | peers | sched | line | fault
  | interlock | freeDraws => assumption
  | quench v _ _ _ valves ih => exact valves ih
  | cycle v _ _ state _ _ _ _ ih => exact valvesFit_same ih state rfl rfl
  | loader v _ _ _ _ _ code ih => exact valvesFit_same ih rfl (by simp [State.role, code]) rfl
  | @actuator _ u v _ _ ih =>
    exact valvesFit_of_writes (writes_actuatorDrops u.enable (u.setPins v)) ih (by decide) (by decide) (by decide)
  | position _ _ ih => exact valvesFit_of_writes (writes_positionUpdate _) ih (by decide) (by decide) (by decide)
  | coast _ _ ih => exact valvesFit_same ih (by simp) (by simp [State.role]) (by simp)
  | @loses _ u p _ _ _ ih =>
    have wrote := writes_notifyPeer_of_not_beacon (lose p) (u.setPeers (putPeer (lose p) u.peers))
    have role : _ = u.role := role_of_loader (wrote.2 .loader (by decide))
    have quench : _ = u.quench := wrote.2 .quench (by decide)
    rcases notifyPeer_cycle (lose p) (u.setPeers (putPeer (lose p) u.peers)) with e | ⟨starting, e⟩
    · exact valvesFit_same ih (congrArg Cycle.state e) role quench
    · exact valvesFit_begun ih starting (congrArg Cycle.state e) role quench
  | @sample _ u v _ _ ih =>
    exact valvesFit_of_writes (writes_holdBegins u.hold (u.setInterlock v)) ih (by decide) (by decide) (by decide)
  | freshStart | resetToIdle | resetToJoining => exact valvesFit_closed rfl rfl rfl
  | @configured _ u r g before _ loading _ ih =>
    have off : u.cycle.state = .offline := loader_of_acts before safe (by simp [loading])
    obtain ⟨spray, flood, pulse⟩ := valves_closed_at_rest ih (.inl off)
    exact valvesFit_closed spray flood pulse
  | aborted c _ _ state ih =>
    refine valvesFit_halted ih (enterAborted_quench c _) (.inl (by simp)) (by simp [State.role]) fun rest other => ?_
    have closed := valves_closed_at_rest ih (rests_of_onLine (onLine_of_aborts state) rest other)
    exact ⟨closed.1, closed.2.1⟩
  | @silenced _ u f _ _ on ih =>
    refine valvesFit_halted ih (enterSilent_quench f _) (.inr (by simp)) (by simp [State.role]) fun rest other => ?_
    have closed := valves_closed_at_rest ih (rests_of_onLine on rest other)
    exact ⟨closed.1, closed.2.1⟩
  | @idle _ u _ _ state ih =>
    obtain ⟨-, flood, -⟩ := ih
    have shut : u.quench.flood = false := by
      rcases state with a | a | ⟨-, closed⟩ | ⟨a, -⟩
      case inr.inr.inl => exact closed
      all_goals
        refine Bool.eq_false_iff.2 fun opened => ?_
        rcases flood opened with e | e <;> simp [a] at e
    exact valvesFit_closed rfl shut rfl
  | armed _ _ state ih =>
    rcases enterArmed_quench _ with ⟨-, stage, e⟩ | ⟨role, e⟩ <;> rw [e]
    · exact valvesFit_closed rfl rfl rfl
    · obtain ⟨-, -, -, other⟩ := ih
      obtain ⟨spray, flood, pulse⟩ := other role
      exact valvesFit_closed spray flood pulse
  | started number roster _ _ state _ _ ih =>
    obtain ⟨spray, flood, pulse⟩ := valves_closed_at_rest ih (.inr (.inr (.inr state)))
    exact valvesFit_closed spray flood pulse
  | scanning _ _ state ih => exact valvesFit_begun ih state rfl rfl rfl
  | @done _ u e _ _ state ih =>
    obtain ⟨-, flood, pulse, other⟩ := ih
    have role : (markDone e u).role = u.role := role_of_loader (by simp)
    rw [markDone_quench]
    refine ⟨by simp [Quench.closeSpray], fun opened => ?_, fun _ => by simp [State.inCycle, markDone_cycle, StationState.inCycle],
      fun no => ?_⟩
    · rcases flood opened with a | a <;> rw [state] at a <;> cases a
    · obtain ⟨-, closed, idle⟩ := other (role ▸ no)
      exact ⟨rfl, closed, idle⟩

/-- Settles O10. -/
theorem stepKeepsValves : Obligations.StepKeepsValves := fun _ _ =>
  step_keeps (P := ValvesSafe) (fun _ _ holds => holds) (fun _ _ holds => holds)
    fun acts ⟨safe, fits⟩ => ⟨loader_of_acts acts safe, valves_of_acts acts safe fits⟩

/-! ## O12: the Peer Table -/

theorem peersFit_same (h : PeersFit t t.peers) (number : u.loader.number = t.loader.number) (peers : u.peers = t.peers) :
    PeersFit u u.peers := by
  rw [peers, PeersFit, State.ownNumber, number]
  exact h

theorem peersFit_of_writes {ws : List Block} (w : Writes ws t u) (h : PeersFit t t.peers) (loader : .loader ∉ ws)
    (peers : .peers ∉ ws) : PeersFit u u.peers :=
  peersFit_same h (congrArg Loader.number (w.2 .loader loader)) (w.2 .peers peers)

theorem peers_of_acts (h : Acts bs clears s k t) (fits : PeersFit s s.peers) : PeersFit t t.peers := by
  induction h with
  | refl => exact fits
  | pins | cycle | tracker | track | staging | copies | power | compute | travel | quench | sched | line | fault
  | interlock | freeDraws => assumption
  | peers v _ _ peers _ ih => exact peers ih
  | loader v _ _ _ _ number _ ih => exact peersFit_same ih number rfl
  | @actuator _ u v _ _ ih => exact peersFit_of_writes (writes_actuatorDrops u.enable (u.setPins v)) ih (by decide) (by decide)
  | position _ _ ih => exact peersFit_of_writes (writes_positionUpdate _) ih (by decide) (by decide)
  | coast _ _ ih => exact peersFit_same ih (by simp) (by simp)
  | @loses _ u p _ _ mem ih =>
    have lost : PeersFit (u.setPeers (putPeer (lose p) u.peers)) (putPeer (lose p) u.peers) := by
      have entries := ih
      obtain ⟨-, numbers, -, datas⟩ := entries
      exact peersFit_putPeer (t := u) (numbers p mem) (fun _ => rfl) (datas p mem) ih
    exact peersFit_of_writes (writes_notifyPeer_of_not_beacon (lose p) (u.setPeers (putPeer (lose p) u.peers))) lost
      (by decide) (by decide)
  | @sample _ u v _ _ ih => exact peersFit_of_writes (writes_holdBegins u.hold (u.setInterlock v)) ih (by decide) (by decide)
  | freshStart => simp [PeersFit, freshStart, State.reset]
  | configured r g _ _ _ _ ih => exact ih
  | aborted c _ _ _ ih => exact peersFit_same ih (by simp) (by simp)
  | silenced f _ _ _ ih => exact peersFit_same ih (by simp) (by simp)
  | idle _ _ _ ih => exact peersFit_same ih (by simp) (by simp)
  | armed _ _ _ ih => exact peersFit_of_writes (writes_enterArmed _) ih (by decide) (by decide)
  | started number roster _ _ _ _ _ ih => exact ih
  | scanning _ _ _ ih => exact peersFit_same ih (by simp) (by simp)
  | done e _ _ _ ih => exact peersFit_same ih (by simp) (by simp)
  | resetToIdle _ _ _ _ ih =>
    exact peersFit_same (t := resetBlocks _) (peersFit_of_writes (writes_resetBlocks _) ih (by decide) (by decide)) rfl rfl
  | resetToJoining _ _ _ _ ih =>
    exact peersFit_same (t := resetBlocks _) (peersFit_of_writes (writes_resetBlocks _) ih (by decide) (by decide)) rfl rfl

theorem peersFit_advance (n : Nat) (h : PeersFit t t.peers) : PeersFit (advance n t) (advance n t).peers := by
  obtain ⟨sorted, numbers, timers, datas⟩ := h
  have peers : (advance n t).peers = t.peers.map (Peer.pass n) := rfl
  rw [peers]
  refine ⟨List.pairwise_map.2 sorted, fun p mem => ?_, fun p mem => ?_, fun p mem => ?_⟩ <;>
    obtain ⟨q, was, rfl⟩ := List.mem_map.1 mem
  · exact numbers q was
  · intro lost
    have stopped : q.stale = none := timers q was lost
    simp [Peer.pass, stopped, Timer.pass]
  · exact datas q was

/-- Settles O12. -/
theorem stepKeepsPeers : Obligations.StepKeepsPeers := fun _ _ =>
  step_keeps (P := PeersSafe) (fun _ _ holds => holds) (fun n _ holds => peersFit_advance n holds)
    fun acts holds => peers_of_acts acts holds

end Sys2Proof.Machine
end

section
/-! The invariants of the speed command and of the power command. -/

namespace Sys2Proof.Machine

variable {bs : List Block} {clears : Bool} {s t u : State} {k : Nat}

/-! ## O11: command, move, STEP -/

theorem travelFits_powerOn (t : State) : TravelFits t Travel.powerOn := by simp [TravelFits, Travel.powerOn]

/-- Where state, role and rated speed stand, so does what the engine may hold. -/
theorem travelFits_same (h : TravelFits t t.travel) (state : u.cycle.state = t.cycle.state) (role : u.role = t.role)
    (settings : u.settings = t.settings) (travel : u.travel = t.travel) : TravelFits u u.travel := by
  rw [travel, TravelFits, state, role, settings]
  exact h

theorem travelFits_of_writes {ws : List Block} (w : Writes ws t u) (h : TravelFits t t.travel) (cycle : .cycle ∉ ws)
    (loader : .loader ∉ ws) (settings : .settings ∉ ws) (travel : .travel ∉ ws) : TravelFits u u.travel :=
  travelFits_same h (congrArg Cycle.state (w.2 .cycle cycle)) (role_of_loader (w.2 .loader loader)) (w.2 .settings settings)
    (w.2 .travel travel)

/-- A new state in which the command may be above 0 takes over an engine without its move. -/
theorem travelFits_unmoved {v : Travel} (h : TravelFits t v) (role : u.role = t.role) (settings : u.settings = t.settings)
    (rest : ¬ (u.cycle.state = .offline ∨ u.cycle.state = .joining ∨ u.cycle.state = .armed)) :
    TravelFits u { v with move := none } := by
  obtain ⟨command, -, -, half, rise, other⟩ := h
  refine ⟨settings ▸ command, fun state => absurd state rest, by simp, half, rise, fun no => ?_⟩
  rw [other (role ▸ no)]
  rfl

theorem travelFits_enters (h : TravelFits t t.travel) (role : u.role = t.role) (settings : u.settings = t.settings)
    (move : t.travel.move = none) (travel : u.travel = t.travel)
    (rest : ¬ (u.cycle.state = .offline ∨ u.cycle.state = .joining ∨ u.cycle.state = .armed)) : TravelFits u u.travel := by
  have unmoved := travelFits_unmoved h role settings rest
  rw [← move, ← travel] at unmoved
  exact unmoved

/-- A stopped engine without a move fits every state. -/
theorem travelFits_stopped {v : Travel} (h : TravelFits t v) (role : u.role = t.role) :
    TravelFits u { v.stop with move := none } := by
  obtain ⟨-, -, -, half, -, other⟩ := h
  refine ⟨Nat.zero_le _, fun _ => rfl, by simp, half, by simp [Travel.stop], fun no => ?_⟩
  rw [other (role ▸ no)]
  rfl

/-- A move stands in IDLE alone. -/
theorem no_move_of_ne_idle (h : TravelFits t t.travel) (state : t.cycle.state ≠ .idle) : t.travel.move = none := by
  obtain ⟨-, -, moves, -⟩ := h
  cases m : t.travel.move with
  | none => rfl
  | some m' => exact absurd (moves m' m).1 state

theorem writes_notifyCycle_lost (p : Peer) (t : State) : Writes [.cycle] t (notifyCycle p false t) := by
  unfold notifyCycle
  split
  · exact writes_testBarrier t
  · exact writes_refl _ t

/-- What a changed peer entry brings the engine: a target, and the release of spindle hold, in a TRAVEL station. -/
theorem travelFits_notifyTravel (p : Peer) (h : TravelFits t t.travel) : TravelFits t (notifyTravel p t).travel := by
  have released {v : State} (role : v.role = t.role) (fits : TravelFits t v.travel) : TravelFits t (testSpindleHold v).travel := by
    obtain ⟨command, rest, move, half, rise, idle⟩ := fits
    refine ⟨command, rest, move, half, rise, fun no => ?_⟩
    have never : v.travel.spindleHold = false := by rw [idle no]; rfl
    rw [testSpindleHold, State.setTravel_travel, never, Bool.false_and, ← never]
    exact idle no
  unfold notifyTravel recomputeTarget
  split
  · split
    case isTrue runs =>
      refine released rfl ?_
      obtain ⟨command, rest, move, half, rise, -⟩ := h
      exact ⟨command, rest, move, half, rise, fun no => absurd ((runs_iff _ _).1 runs).1 no⟩
    case isFalse => exact released rfl h
  · exact h

theorem notifyPeer_lost_cycle (p : Peer) (t : State) :
    (notifyPeer p false t).cycle = (notifyCycle p false t).cycle := by
  unfold notifyPeer notifyPower notifyTravel recomputeTarget testSpindleHold
  repeat' split
  all_goals simp

theorem notifyPeer_lost_travel (p : Peer) (t : State) :
    (notifyPeer p false t).travel = (notifyTravel p (notifyCycle p false t)).travel := by
  unfold notifyPeer notifyPower
  split <;> simp

/-- A LOST peer that completes the start barrier finds no move. -/
theorem travelFits_notifyPeer_lost (p : Peer) (h : TravelFits t t.travel) :
    TravelFits (notifyPeer p false t) (notifyPeer p false t).travel := by
  have wrote := writes_notifyPeer_of_not_beacon p t
  have cycled := writes_notifyCycle_lost p t
  have role : (notifyPeer p false t).role = t.role := role_of_loader (wrote.2 .loader (by decide))
  have settings : (notifyPeer p false t).settings = t.settings := wrote.2 .settings (by decide)
  have role' : (notifyCycle p false t).role = t.role := role_of_loader (cycled.2 .loader (by decide))
  have settings' : (notifyCycle p false t).settings = t.settings := cycled.2 .settings (by decide)
  have travel' : (notifyCycle p false t).travel = t.travel := cycled.2 .travel (by decide)
  have tested : TravelFits (notifyCycle p false t) (notifyCycle p false t).travel := by
    rcases notifyPeer_cycle p t with e | ⟨starting, e⟩ <;> rw [notifyPeer_lost_cycle] at e
    · exact travelFits_same h (congrArg Cycle.state e) role' settings' travel'
    · exact travelFits_enters h role' settings' (no_move_of_ne_idle h (by simp [starting])) travel'
        (by simp [e, enterScanning_cycle])
  have notified := travelFits_notifyTravel p tested
  rw [notifyPeer_lost_travel, TravelFits, notifyPeer_lost_cycle, role, settings, ← role', ← settings']
  exact notified

/-- Spindle hold begins in a TRAVEL station alone. -/
theorem beginSpindleHold_travel (t : State) :
    (t.role = some .travel ∧ ∃ hold, (beginSpindleHold t).travel = { t.travel with spindleHold := hold }) ∨
    (t.role ≠ some .travel ∧ (beginSpindleHold t).travel = t.travel) := by
  unfold beginSpindleHold
  split
  case isTrue role => exact .inl ⟨role, _, rfl⟩
  case isFalse role => exact .inr ⟨role, rfl⟩

/-- A spindle hold that begins leaves what the engine may hold. -/
theorem travelFits_spindle (h : TravelFits t t.travel) : TravelFits (beginSpindleHold t) (beginSpindleHold t).travel := by
  have role : (beginSpindleHold t).role = t.role := role_of_loader (by simp)
  rw [TravelFits, beginSpindleHold_cycle, role, beginSpindleHold_settings]
  rcases beginSpindleHold_travel t with ⟨travels, hold, e⟩ | ⟨-, e⟩ <;> rw [e]
  · obtain ⟨command, rest, move, half, rise, -⟩ := h
    exact ⟨command, rest, move, half, rise, fun no => absurd travels no⟩
  · exact h

/-- Power off, flood and flush do not touch the engine; spindle hold begins. -/
theorem travelFits_abortFromCycle (h : TravelFits t t.travel) : TravelFits (abortFromCycle t) (abortFromCycle t).travel :=
  travelFits_spindle (travelFits_same h (by simp) (role_of_loader (by simp)) (by simp) (by simp))

theorem travelFits_markDone (e : EndKind) (h : TravelFits t t.travel) (scanning : t.cycle.state = .scanning) :
    TravelFits (markDone e t) (markDone e t).travel :=
  travelFits_spindle (travelFits_enters h (role_of_loader (by simp)) (by simp)
    (no_move_of_ne_idle h (by simp [scanning])) (by simp) (by simp))

theorem travelFits_enterAborted (c : AbortCause) (h : TravelFits t t.travel) :
    TravelFits (enterAborted c t) (enterAborted c t).travel := by
  have marked : TravelFits (markAborted c t) (markAborted c t).travel :=
    travelFits_unmoved h rfl rfl (by simp [markAborted])
  unfold enterAborted
  split
  · exact travelFits_abortFromCycle marked
  · exact marked

theorem travelFits_enterSilent (f : FaultKind) (h : TravelFits t t.travel) :
    TravelFits (enterSilent f t) (enterSilent f t).travel := by
  unfold enterSilent
  split
  · exact travelFits_abortFromCycle (travelFits_unmoved h rfl rfl (by simp [markSilent]))
  · split
    case isTrue aborted => exact travelFits_enters h rfl rfl (no_move_of_ne_idle h (by simp [aborted])) rfl (by simp [markSilent])
    case isFalse => exact travelFits_stopped h rfl

theorem enterArmed_travel (t : State) : (enterArmed t).travel = { t.travel.stop with move := none } := by
  unfold enterArmed
  dsimp only
  split <;> simp

theorem resetBlocks_travel (t : State) : (resetBlocks t).travel = t.travel.stationReset := by
  unfold resetBlocks
  dsimp only
  split <;> simp

theorem travelFits_stationReset {v : Travel} (h : TravelFits t v) (role : u.role = t.role) :
    TravelFits u v.stationReset := by
  obtain ⟨-, -, -, half, -, other⟩ := h
  refine ⟨Nat.zero_le _, fun _ => rfl, by simp [Travel.stationReset], half, by simp [Travel.stationReset, Travel.stop], fun no => ?_⟩
  rw [other (role ▸ no)]
  rfl

theorem travelFits_started (number : Nat) (roster : Marks16) (h : TravelFits t t.travel) (noMove : t.travel.move = none) :
    TravelFits (started number roster t) (started number roster t).travel := by
  have travel : (started number roster t).travel = travelStarted t := rfl
  obtain ⟨-, -, -, half, -, other⟩ := h
  rw [travel]
  unfold travelStarted
  split
  case isTrue no =>
    rw [other no]
    exact travelFits_powerOn _
  case isFalse role =>
    exact ⟨Nat.zero_le _, fun _ => rfl, by simp [Travel.stop, noMove], half, by simp [Travel.stop],
      fun no => absurd (not_not.1 role) no⟩

theorem travel_of_acts (h : Acts bs clears s k t) (safe : LoaderSafe s) (fits : TravelFits s s.travel) :
    TravelFits t t.travel := by
  induction h with
  | refl => exact fits
  | pins | tracker | track | staging | copies | power | compute | quench | peers | sched | line | fault
  | interlock | freeDraws => assumption
  | travel v _ _ travel ih => exact travel ih
  | cycle v _ _ state _ _ _ _ ih => exact travelFits_same ih state rfl rfl rfl
  | loader v _ _ _ _ _ code ih => exact travelFits_same ih rfl (by simp [State.role, code]) rfl rfl
  | @actuator _ u v _ _ ih =>
    have read : TravelFits (u.setPins v) u.travel := ih
    unfold actuatorDrops
    split
    · exact travelFits_stopped read rfl
    · exact travelFits_same read (by split <;> simp) (role_of_loader (by split <;> simp)) (by split <;> simp) (by split <;> simp)
  | position _ _ ih =>
    exact travelFits_of_writes (writes_positionUpdate _) ih (by decide) (by decide) (by decide) (by decide)
  | coast _ _ ih => exact travelFits_same ih (by simp) (role_of_loader (by simp)) (by simp) (by simp)
  | @loses _ u p _ _ _ ih =>
    have lost : TravelFits (u.setPeers (putPeer (lose p) u.peers)) (u.setPeers (putPeer (lose p) u.peers)).travel := ih
    exact travelFits_notifyPeer_lost (lose p) lost
  | @sample _ u v _ _ ih =>
    exact travelFits_of_writes (writes_holdBegins u.hold (u.setInterlock v)) ih (by decide) (by decide) (by decide) (by decide)
  | freshStart => exact travelFits_powerOn _
  | @configured _ u r g before _ loading role ih =>
    have off : u.cycle.state = .offline := loader_of_acts before safe (by simp [loading])
    have noMove := no_move_of_ne_idle ih (by simp [off])
    obtain ⟨-, rest, -, half, rise, other⟩ := ih
    have halted : u.travel.command = 0 := rest (.inl off)
    have travel : (markJoining (configured r g u)).travel =
        { u.travel with tachWindow := if r = .travel then some Config.windowTicks else none } := rfl
    rw [travel]
    refine ⟨by simp [halted], fun _ => halted, by simp [noMove], half, rise, fun no => ?_⟩
    have notTravel : r ≠ .travel := fun e => no (e ▸ role)
    rw [other no, if_neg notTravel]
    rfl
  | aborted c _ _ _ ih => exact travelFits_enterAborted c ih
  | silenced f _ _ _ ih => exact travelFits_enterSilent f ih
  | @idle _ u _ _ state ih =>
    refine travelFits_enters ih (role_of_loader (by simp)) (by simp) (no_move_of_ne_idle ih ?_) (by simp)
      (by simp [enterIdle_cycle])
    rcases state with e | e | ⟨e, -⟩ | ⟨e, -⟩ <;> simp [e]
  | armed _ _ _ ih =>
    rw [enterArmed_travel]
    exact travelFits_stopped ih (role_of_loader ((writes_enterArmed _).2 .loader (by decide)))
  | started number roster _ _ state _ _ ih =>
    exact travelFits_started number roster ih (no_move_of_ne_idle ih (by simp [state]))
  | scanning _ _ state ih =>
    exact travelFits_enters ih rfl rfl (no_move_of_ne_idle ih (by simp [state])) rfl (by simp [enterScanning_cycle])
  | done e _ _ state ih => exact travelFits_markDone e ih state
  | @resetToIdle _ u _ _ _ _ ih =>
    have role : (resetBlocks u).role = u.role := role_of_loader (resetBlocks_loader u)
    have travel : (startBeaconTimer ((resetBlocks u).setCycle { (resetBlocks u).cycle with state := .idle })).travel =
        u.travel.stationReset := by simp [resetBlocks_travel]
    rw [travel]
    exact travelFits_stationReset ih role
  | @resetToJoining _ u _ _ _ _ ih =>
    have role : (resetBlocks u).role = u.role := role_of_loader (resetBlocks_loader u)
    have travel : (markJoining (resetBlocks u)).travel = u.travel.stationReset := by simp [resetBlocks_travel]
    rw [travel]
    exact travelFits_stationReset ih role

theorem pass_eq_none (n : Nat) (timer : Timer) : Timer.pass n timer = none ↔ timer = none := by
  cases timer <;> simp [Timer.pass]

theorem travelFits_advance (n : Nat) (h : TravelFits t t.travel) : TravelFits (advance n t) (advance n t).travel := by
  obtain ⟨command, rest, move, half, rise, other⟩ := h
  refine ⟨command, rest, move, fun stopped => half ((pass_eq_none n _).1 stopped), fun rises => ?_, fun no => ?_⟩
  · obtain ⟨step, runs⟩ := rise ((pass_isSome n _).symm.trans rises)
    exact ⟨step, (pass_isSome n _).trans runs⟩
  · have travel : (advance n t).travel = t.travel.pass n := rfl
    rw [travel, other no]
    rfl

/-- Settles O11. -/
theorem stepKeepsTravel : Obligations.StepKeepsTravel := fun _ _ =>
  step_keeps (P := TravelSafe) (fun _ _ holds => holds) (fun n _ ⟨safe, fits⟩ => ⟨safe, travelFits_advance n fits⟩)
    fun acts ⟨safe, fits⟩ => ⟨loader_of_acts acts safe, travel_of_acts acts safe fits⟩

end Sys2Proof.Machine
end

section
/-! The invariant of the power command (R77). -/

namespace Sys2Proof.Machine

variable {bs : List Block} {clears : Bool} {s t u : State} {k : Nat}

/-! ## O8: the power command -/

/-- A power command above 0 is within the rated power and has every condition of R77. -/
def PowerFits (t : State) : Prop :=
  t.power.command ≠ 0 →
    t.power.command ≤ t.settings.ratedPower ∧ t.role = some .power ∧ t.cycle.state = .scanning ∧ t.enable = true ∧
    t.hold = false ∧ t.tracker.zone.isInside = true ∧ t.trackedLive = true ∧ t.tracker.coastExpired = false

theorem powerFits_of_off (h : t.power.command = 0) : PowerFits t := fun on => absurd h on

theorem off_of_ne_scanning (h : PowerFits t) (state : t.cycle.state ≠ .scanning) : t.power.command = 0 := by
  by_contra on
  obtain ⟨-, -, scanning, -⟩ := h on
  exact state scanning

theorem off_of_ne_power (h : PowerFits t) (role : t.role ≠ some .power) : t.power.command = 0 := by
  by_contra on
  obtain ⟨-, power, -⟩ := h on
  exact role power

/-- With the command as it was, or at 0, and no condition of R77 lost, the command stands. -/
theorem powerFits_of_conditions (h : PowerFits t) (command : u.power.command = t.power.command ∨ u.power.command = 0)
    (settings : u.settings = t.settings) (role : u.role = t.role) (state : u.cycle.state = t.cycle.state)
    (enable : t.enable = true → u.enable = true) (hold : t.hold = false → u.hold = false)
    (zone : u.tracker.zone = t.tracker.zone) (live : t.trackedLive = true → u.trackedLive = true)
    (coast : t.tracker.coastExpired = false → u.tracker.coastExpired = false) : PowerFits u := by
  rcases command with e | e
  case inr => exact powerFits_of_off e
  case inl =>
    intro on
    obtain ⟨le, power, scanning, enabled, held, inside, tracked, fresh⟩ := h (e ▸ on)
    exact ⟨e ▸ settings ▸ le, role ▸ power, state ▸ scanning, enable enabled, hold held, zone ▸ inside, live tracked, coast fresh⟩

/-- Power off in a POWER station; in another the command was 0. -/
theorem zeroPower_off (h : u.power.command ≠ 0 → u.role = some .power ∧ u.cycle.state ≠ .offline) :
    (zeroPower u).power.command = 0 := by
  unfold zeroPower
  split
  case isTrue => rfl
  case isFalse still =>
    by_contra on
    exact still ((runs_iff _ _).2 (h on))

theorem zeroPower_command (t : State) : (zeroPower t).power.command = t.power.command ∨ (zeroPower t).power.command = 0 := by
  unfold zeroPower
  split
  · exact .inr rfl
  · exact .inl rfl

/-- Where power can be on it can be zeroed. -/
theorem runs_of_on (h : PowerFits t) (on : t.power.command ≠ 0) : t.role = some .power ∧ t.cycle.state ≠ .offline := by
  obtain ⟨-, power, scanning, -⟩ := h on
  exact ⟨power, by simp [scanning]⟩

/-! ### Position updates -/

theorem measureCarriage_keeps (t : State) :
    ∃ v : Tracker, measureCarriage t = t.setTracker v ∧ v.zone = t.tracker.zone ∧ v.tracked = t.tracker.tracked ∧
      v.coastExpired = t.tracker.coastExpired := by
  by_cases h : t.role = some .travel
  · have r : (recordPeriod t).role = some .travel := h
    rw [measureCarriage, if_pos h, computeRaw, if_pos r]
    exact ⟨_, rfl, rfl, rfl, rfl⟩
  · rw [measureCarriage, if_neg h, computeRaw, if_neg h]
    exact ⟨_, rfl, rfl, rfl, rfl⟩

theorem updateZone_command (t : State) : (updateZone t).power.command = t.power.command := by
  unfold updateZone
  dsimp only
  split <;> rfl

theorem seedCurrentSlice_command (t : State) : (seedCurrentSlice t).power.command = t.power.command := by
  unfold seedCurrentSlice
  split <;> rfl

/-- The tool's part of an update before power is tested: tool position, zone, crossing, current slice. -/
def toolMoved (t : State) : State :=
  seedCurrentSlice (updateZone (t.setTracker { t.tracker with tool := toolPosition t.tracker.estimate t.settings.toolOffset }))

theorem updateTool_of_tool (h : t.role ≠ some .travel) : updateTool t = zeroOutside t.tracker.zone (toolMoved t) := if_neg h

theorem writes_toolMoved (t : State) : Writes [.tracker, .power] t (toolMoved t) := by
  have zoned := writes_trans (List.Subset.refl _)
    (writes_mono (by decide) (writes_setTracker { t.tracker with
      tool := toolPosition t.tracker.estimate t.settings.toolOffset } t)) (writes_updateZone _)
  unfold toolMoved seedCurrentSlice
  split
  · exact writes_trans (by decide) zoned (writes_setPower _ _)
  · exact zoned

theorem toolMoved_command (t : State) : (toolMoved t).power.command = t.power.command := by
  unfold toolMoved
  rw [seedCurrentSlice_command, updateZone_command]
  rfl

theorem toolMoved_tracker (t : State) :
    ∃ tool zone crossing,
      (toolMoved t).tracker = { t.tracker with tool := tool, zone := zone, crossing := crossing } := by
  unfold toolMoved
  rw [seedCurrentSlice_tracker, updateZone_tracker]
  exact ⟨_, _, _, rfl⟩

/-- A zone that stands or is INSIDE leaves power as it was. -/
theorem powerFits_toolMoved (h : PowerFits t)
    (zone : (toolMoved t).tracker.zone = t.tracker.zone ∨ (toolMoved t).tracker.zone.isInside = true) :
    PowerFits (toolMoved t) := by
  have wrote := writes_toolMoved t
  have loader : (toolMoved t).loader = t.loader := wrote.2 .loader (by decide)
  have cycle : (toolMoved t).cycle = t.cycle := wrote.2 .cycle (by decide)
  have settings : (toolMoved t).settings = t.settings := wrote.2 .settings (by decide)
  have interlock : (toolMoved t).interlock = t.interlock := wrote.2 .interlock (by decide)
  have pins : (toolMoved t).pins = t.pins := wrote.2 .pins (by decide)
  have peers : (toolMoved t).peers = t.peers := wrote.2 .peers (by decide)
  obtain ⟨tool, z, crossing, tracker⟩ := toolMoved_tracker t
  intro on
  rw [toolMoved_command] at on ⊢
  obtain ⟨le, power, scanning, enabled, held, inside, tracked, fresh⟩ := h on
  have insideNow : (toolMoved t).tracker.zone.isInside = true := zone.elim (fun same => same ▸ inside) id
  unfold State.role State.enable State.hold State.trackedLive State.peer State.role State.inCycle State.actuatorGood at *
  rw [loader, cycle, settings, interlock, pins, peers]
  rw [tracker] at insideNow ⊢
  exact ⟨le, power, scanning, enabled, held, insideNow, tracked, fresh⟩

/-- The tool's part of an update turns power off where the zone has become another than INSIDE. -/
theorem powerFits_updateTool (h : PowerFits t) : PowerFits (updateTool t) := by
  by_cases travels : t.role = some .travel
  case pos => rwa [updateTool_of_travel travels]
  case neg =>
    rw [updateTool_of_tool travels]
    unfold zeroOutside
    split
    case isTrue =>
      refine powerFits_of_off (zeroPower_off fun on => ?_)
      rw [toolMoved_command] at on
      have loader : (toolMoved t).loader = t.loader := (writes_toolMoved t).2 .loader (by decide)
      have cycle : (toolMoved t).cycle = t.cycle := (writes_toolMoved t).2 .cycle (by decide)
      rw [role_of_loader loader, cycle]
      exact runs_of_on h on
    case isFalse stands =>
      refine powerFits_toolMoved h ?_
      by_contra neither
      simp only [not_or, Bool.not_eq_true] at neither
      exact stands neither

theorem powerFits_seeded (h : PowerFits t) : PowerFits (t.setTracker { t.tracker with seedDue := false }) := h

theorem powerFits_positionUpdate (h : PowerFits t) : PowerFits (positionUpdate t) := by
  by_cases off : t.cycle.state = .offline
  case pos => rwa [positionUpdate, if_pos off]
  case neg =>
    have e : positionUpdate t = (updateTool (publish (measureCarriage t))).setTracker
        { (updateTool (publish (measureCarriage t))).tracker with seedDue := false } := if_neg off
    obtain ⟨v, measured, zone, tracked, coast⟩ := measureCarriage_keeps t
    have published : PowerFits (publish (measureCarriage t)) := by
      rw [measured]
      exact powerFits_of_conditions h (.inl rfl) rfl rfl rfl id id zone
        (by simp [State.trackedLive, publish, tracked, State.peer]) (fun fresh => coast.trans fresh)
    rw [e]
    exact powerFits_seeded (powerFits_updateTool published)

/-! ### Every write -/

theorem carriageSpeed_of_ne_zero (h : carriageSpeed t ≠ 0) : t.trackedLive = true ∧ t.tracker.coastExpired = false := by
  unfold carriageSpeed at h
  split at h
  case isTrue live =>
    refine ⟨live, Bool.eq_false_iff.2 fun expired => h ?_⟩
    unfold State.speedInUse
    split <;> simp [expired]
  case isFalse => exact absurd rfl h

/-- A target above 0 needs the conditions of R74, and speed. -/
theorem wantedPower_of_ne_zero (h : wantedPower t ≠ 0) : heats t = true ∧ carriageSpeed t ≠ 0 := by
  unfold wantedPower at h
  split at h
  case isTrue hot =>
    refine ⟨hot, fun still => h ?_⟩
    simp [powerFormula, still]
  case isFalse => exact absurd rfl h

theorem heats_iff (t : State) : heats t = true ↔
    t.cycle.state = .scanning ∧ t.tracker.zone.isInside = true ∧ t.enable = true ∧ t.hold = false := by
  simp [heats, and_assoc]

theorem enable_iff (t : State) : t.enable = true ↔ t.role = some .power ∧ t.inCycle = true ∧ t.actuatorGood = true := by
  simp [State.enable, and_assoc]

theorem powerFits_compute (t : State) : PowerFits (computePower t) := by
  intro on
  have le : (computePower t).power.command ≤ min (wantedPower t) t.settings.ratedPower := rampPower_le_target ..
  have wanted : wantedPower t ≠ 0 := fun none => on (by omega)
  obtain ⟨hot, moving⟩ := wantedPower_of_ne_zero wanted
  obtain ⟨scanning, inside, enabled, held⟩ := (heats_iff t).1 hot
  obtain ⟨live, fresh⟩ := carriageSpeed_of_ne_zero moving
  exact ⟨le.trans (Nat.min_le_right _ _), ((enable_iff t).1 enabled).1, scanning, enabled, held, inside, live, fresh⟩

theorem abortFromCycle_off (h : t.power.command ≠ 0 → t.role = some .power ∧ t.cycle.state ≠ .offline) :
    (abortFromCycle t).power.command = 0 := by
  have off : (zeroPower (t.setPower t.power.abandon)).power.command = 0 := zeroPower_off h
  simpa [abortFromCycle] using off

/-- Entry to ABORTED or SILENT turns power off: in a cycle at once, elsewhere it was off. -/
theorem enterAborted_off (c : AbortCause) (h : PowerFits t) : (enterAborted c t).power.command = 0 := by
  unfold enterAborted
  split
  case isTrue =>
    exact abortFromCycle_off fun on => ⟨(runs_of_on h on).1, by simp [markAborted]⟩
  case isFalse rest =>
    exact (off_of_ne_scanning h fun scanning => rest ((inCycle_iff t).2 (.inr (.inl scanning))) : t.power.command = 0)

theorem enterSilent_off (f : FaultKind) (h : PowerFits t) : (enterSilent f t).power.command = 0 := by
  unfold enterSilent
  split
  case isTrue => exact abortFromCycle_off fun on => ⟨(runs_of_on h on).1, by simp [markSilent]⟩
  case isFalse rest =>
    have off : t.power.command = 0 :=
      off_of_ne_scanning h fun scanning => rest ((inCycle_iff t).2 (.inr (.inl scanning)))
    split <;> exact off

theorem dropEnable_command (h : t.power.command = 0) : (dropEnable t).power.command = 0 := by
  unfold dropEnable
  split
  · exact (zeroPower_command t).elim (fun e => e.trans h) id
  · exact h

theorem enterArmed_off (h : t.power.command = 0) : (enterArmed t).power.command = 0 := by
  have off := dropEnable_command h
  unfold enterArmed
  dsimp only
  split <;> exact off

theorem writes_notifyTravel (p : Peer) (t : State) : Writes [.travel] t (notifyTravel p t) := by
  unfold notifyTravel recomputeTarget
  split
  · split
    · exact writes_trans (by decide) (writes_setTravel _ _) (writes_testSpindleHold _)
    · exact writes_testSpindleHold _
  · exact writes_refl _ t

/-- Another entry than the tracked one may be lost without any condition of R77. -/
theorem trackedLive_putPeer_other {p : Peer} (other : t.tracker.tracked ≠ some p.number) :
    (t.setPeers (putPeer p t.peers)).trackedLive = t.trackedLive := by
  unfold State.trackedLive
  simp only [State.setPeers_tracker, peer_putPeer]
  split
  case h_1 n tracked =>
    have : ¬ p.number = n := fun e => other (e ▸ tracked)
    rw [if_neg this]
  case h_2 => rfl

/-- A write of the Travel Engine, or of a Cycle Control that stays in its state, leaves power its conditions. -/
theorem powerFits_of_writes (h : PowerFits t) (w : Writes [.cycle, .travel] t u) (state : u.cycle.state = t.cycle.state) :
    PowerFits u := by
  have loader : u.loader = t.loader := w.2 .loader (by decide)
  have settings : u.settings = t.settings := w.2 .settings (by decide)
  have power : u.power = t.power := w.2 .power (by decide)
  have tracker : u.tracker = t.tracker := w.2 .tracker (by decide)
  have interlock : u.interlock = t.interlock := w.2 .interlock (by decide)
  have pins : u.pins = t.pins := w.2 .pins (by decide)
  have peers : u.peers = t.peers := w.2 .peers (by decide)
  exact powerFits_of_conditions h (.inl (congrArg Power.command power)) settings (role_of_loader loader) state
    (by simp [State.enable, State.role, State.inCycle, State.actuatorGood, loader, state, pins])
    (by simp [State.hold, state, interlock, settings]) (congrArg Tracker.zone tracker)
    (by simp [State.trackedLive, State.peer, tracker, peers]) (by simp [tracker])

/-- A peer marked LOST: the tracked one turns power off, another leaves the tracked one as LIVE as it was. -/
theorem powerFits_loses (p : Peer) (h : PowerFits t) :
    PowerFits (notifyPeer (lose p) false (t.setPeers (putPeer (lose p) t.peers))) := by
  generalize e : t.setPeers (putPeer (lose p) t.peers) = v
  have tracker : v.tracker = t.tracker := e ▸ rfl
  have cycled := writes_notifyCycle_lost (lose p) v
  have wrote : Writes [.cycle, .travel] v (notifyTravel (lose p) (notifyCycle (lose p) false v)) :=
    writes_trans (by decide) (writes_mono (by decide) cycled) (writes_notifyTravel _ _)
  have tracked : (notifyTravel (lose p) (notifyCycle (lose p) false v)).tracker = v.tracker := wrote.2 .tracker (by decide)
  have power : (notifyTravel (lose p) (notifyCycle (lose p) false v)).power = v.power := wrote.2 .power (by decide)
  have cycle : (notifyTravel (lose p) (notifyCycle (lose p) false v)).cycle = (notifyCycle (lose p) false v).cycle :=
    (writes_notifyTravel _ _).2 .cycle (by decide)
  have command : v.power.command = t.power.command := e ▸ rfl
  rcases notifyPeer_cycle (lose p) v with same | ⟨starting, begun⟩
  case inr =>
    have off : v.power.command = 0 := command.trans (off_of_ne_scanning h (by
      have : t.cycle.state = .starting := by rw [← starting, ← e]; rfl
      simp [this]))
    refine powerFits_of_off ?_
    unfold notifyPeer notifyPower
    split
    · exact (zeroPower_command _).elim (fun e => e.trans (by rw [power]; exact off)) id
    · rw [power]
      exact off
  case inl =>
    rw [notifyPeer_lost_cycle] at same
    have role : (notifyTravel (lose p) (notifyCycle (lose p) false v)).role = t.role :=
      role_of_loader ((wrote.2 .loader (by decide) : _ = v.loader).trans (e ▸ rfl))
    have state : v.cycle = t.cycle := e ▸ rfl
    unfold notifyPeer notifyPower
    split
    case isTrue =>
      refine powerFits_of_off (zeroPower_off fun on => ?_)
      rw [role, cycle, same, state]
      rw [power, command] at on
      exact runs_of_on h on
    case isFalse other =>
      have notTracked : t.tracker.tracked ≠ some (lose p).number := fun same => other ⟨by rw [tracked, tracker]; exact same, rfl⟩
      have live := trackedLive_putPeer_other notTracked
      have fits : PowerFits v := by
        rw [← e]
        exact powerFits_of_conditions h (.inl rfl) rfl rfl rfl id id rfl (fun was => live.trans was) id
      exact powerFits_of_writes fits wrote (by rw [cycle, same])

/-- The tracked number stays the first one heard. -/
theorem trackedLive_takeRecordOf {n : StationNo} (f : BeaconFields) (same : t.tracker.tracked.getD n = n)
    (live : t.trackedLive = true) : (takeRecordOf n f t).trackedLive = true := by
  unfold State.trackedLive at live
  split at live
  case h_1 m tracked =>
    have : m = n := by simpa [tracked] using same
    subst this
    simpa [State.trackedLive, takeRecordOf, State.peer] using live
  case h_2 => cases live

theorem powerFits_actuatorDrops (v : Pins) (h : PowerFits t) : PowerFits (actuatorDrops t.enable (t.setPins v)) := by
  unfold actuatorDrops
  split
  case isTrue runs =>
    have role : t.role = some .travel := ((runs_iff _ _).1 runs).1
    have off : t.power.command = 0 := off_of_ne_power h (by simp [role])
    exact powerFits_of_off off
  case isFalse =>
    split
    case isTrue => exact powerFits_of_off (zeroPower_off (u := t.setPins v) fun on => runs_of_on (t := t) h on)
    case isFalse disabled =>
      have off : t.power.command = 0 := by
        by_contra on
        obtain ⟨-, -, -, enabled, -⟩ := h on
        exact disabled enabled
      exact powerFits_of_off off

theorem powerFits_holdBegins (v : Interlock) (h : PowerFits t) : PowerFits (holdBegins t.hold (t.setInterlock v)) := by
  unfold holdBegins
  split
  case isTrue => exact powerFits_of_off (zeroPower_off (u := t.setInterlock v) fun on => runs_of_on (t := t) h on)
  case isFalse stands =>
    intro on
    obtain ⟨le, power, scanning, enabled, held, inside, live, fresh⟩ := h on
    exact ⟨le, power, scanning, enabled, by simpa [held] using stands, inside, live, fresh⟩

theorem markDone_off (e : EndKind) (h : PowerFits t) : (markDone e t).power.command = 0 := by
  have off : (zeroPower ((t.setCycle { t.cycle with state := .done, endKind := some e }).setQuench
      { limitSpray .done t.quench with runout := false })).power.command = 0 :=
    zeroPower_off fun on => ⟨(runs_of_on h on).1, by simp⟩
  simpa [markDone] using off

theorem trackedLive_advance (n : Nat) (t : State) : (advance n t).trackedLive = t.trackedLive := by
  have tracked : (advance n t).tracker.tracked = t.tracker.tracked := rfl
  unfold State.trackedLive
  rw [tracked]
  split
  · rw [advance_peer]
    cases t.peer _ <;> rfl
  · rfl

theorem powerFits_advance (n : Nat) (h : PowerFits t) : PowerFits (advance n t) :=
  powerFits_of_conditions h (.inl rfl) rfl rfl rfl id id rfl (fun live => (trackedLive_advance n t).trans live) id

theorem power_of_acts (h : Acts bs clears s k t) (safe : LoaderSafe s) (fits : PowerFits s) : PowerFits t := by
  induction h with
  | refl => exact fits
  | staging | copies | travel | quench | sched | line | fault | freeDraws => assumption
  | pins v _ _ good ih =>
    refine powerFits_of_conditions ih (.inl rfl) rfl rfl rfl (fun enabled => ?_) id rfl id id
    obtain ⟨power, cycle, actuator⟩ := (enable_iff _).1 enabled
    refine (enable_iff _).2 ⟨power, cycle, ?_⟩
    simpa [State.actuatorGood] using good actuator
  | actuator v _ _ ih => exact powerFits_actuatorDrops v ih
  | loader v _ _ _ _ _ code ih =>
    refine powerFits_of_conditions ih (.inl rfl) rfl (by simp [State.role, code]) rfl (by simp [State.enable, State.role, code, State.inCycle, State.actuatorGood]) id rfl id id
  | cycle v _ _ state _ _ _ _ ih =>
    exact powerFits_of_conditions ih (.inl rfl) rfl rfl state (by simp [State.enable, State.role, State.inCycle, state, State.actuatorGood])
      (by simp [State.hold, state]) rfl id id
  | position _ _ ih => exact powerFits_positionUpdate ih
  | tracker v _ _ zone tracked coast ih =>
    exact powerFits_of_conditions ih (.inl rfl) rfl rfl rfl id id zone
      (by simp [State.trackedLive, tracked, State.peer]) (fun fresh => coast.trans fresh)
  | track n f _ _ same ih =>
    exact powerFits_of_conditions ih (.inl rfl) rfl rfl rfl id id rfl (trackedLive_takeRecordOf f same) fun _ => rfl
  | @coast _ u _ _ ih =>
    have on (on : u.power.command ≠ 0) := runs_of_on ih on
    exact powerFits_of_off (zeroPower_off on)
  | power v _ _ command ih => exact powerFits_of_conditions ih command rfl rfl rfl id id rfl id id
  | compute => exact powerFits_compute _
  | peers v _ _ _ live ih => exact powerFits_of_conditions ih (.inl rfl) rfl rfl rfl id id rfl live id
  | loses p _ _ _ ih => exact powerFits_loses p ih
  | interlock v _ _ level ih =>
    exact powerFits_of_conditions ih (.inl rfl) rfl rfl rfl id (by simp [State.hold, level]) rfl id id
  | sample v _ _ ih => exact powerFits_holdBegins v ih
  | freshStart => exact powerFits_of_off rfl
  | @configured _ u r g before _ loading role ih =>
    have off : u.cycle.state = .offline := loader_of_acts before safe (by simp [loading])
    have command : u.power.command = 0 := off_of_ne_scanning ih (by simp [off])
    exact powerFits_of_off command
  | aborted c _ _ _ ih => exact powerFits_of_off (enterAborted_off c ih)
  | silenced f _ _ _ ih => exact powerFits_of_off (enterSilent_off f ih)
  | @idle _ u _ _ state ih =>
    have off : u.power.command = 0 := off_of_ne_scanning ih (by rcases state with e | e | ⟨e, -⟩ | ⟨e, -⟩ <;> simp [e])
    exact powerFits_of_off (dropEnable_command off)
  | armed _ _ state ih =>
    exact powerFits_of_off (enterArmed_off (off_of_ne_scanning ih (by rcases state with e | e <;> simp [e])))
  | started => exact powerFits_of_off rfl
  | @scanning _ u _ _ state ih =>
    have off : u.power.command = 0 := off_of_ne_scanning ih (by simp [state])
    exact powerFits_of_off off
  | done e _ _ _ ih => exact powerFits_of_off (markDone_off e ih)
  | resetToIdle | resetToJoining => exact powerFits_of_off rfl

/-- Settles O8. -/
theorem stepKeepsPower : Obligations.StepKeepsPower := fun _ _ =>
  step_keeps (P := PowerSafe) (fun _ _ holds => holds) (fun n _ ⟨safe, fits⟩ => ⟨safe, powerFits_advance n fits⟩)
    fun acts ⟨safe, fits⟩ => ⟨loader_of_acts acts safe, power_of_acts acts safe fits⟩

end Sys2Proof.Machine
end

section
/-! The step, time and reset; and what the end of a command leaves as it was. -/

namespace Sys2Proof.Machine

variable {s t u : State}

/-! ## The end of a command -/

/-- The end of a command writes scheduler and carried marks alone. -/
theorem writes_settled (old new : State) : Writes [.sched, .interlock] new (settled old new) := by
  unfold settled refreshBeacon
  dsimp only
  repeat' split
  · exact writes_refl _ new
  · exact ⟨by simp, by rintro ⟨⟩ <;> simp [sameBlock]⟩
  · exact ⟨by simp, by rintro ⟨⟩ <;> simp [sameBlock]⟩

@[simp] theorem settled_clock (old new : State) : (settled old new).clock = new.clock := (writes_settled old new).2 .clock (by decide)
@[simp] theorem settled_pins (old new : State) : (settled old new).pins = new.pins := (writes_settled old new).2 .pins (by decide)
@[simp] theorem settled_loader (old new : State) : (settled old new).loader = new.loader := (writes_settled old new).2 .loader (by decide)
@[simp] theorem settled_settings (old new : State) : (settled old new).settings = new.settings := (writes_settled old new).2 .settings (by decide)
@[simp] theorem settled_cycle (old new : State) : (settled old new).cycle = new.cycle := (writes_settled old new).2 .cycle (by decide)
@[simp] theorem settled_store (old new : State) : (settled old new).store = new.store := (writes_settled old new).2 .store (by decide)
@[simp] theorem settled_power (old new : State) : (settled old new).power = new.power := (writes_settled old new).2 .power (by decide)
@[simp] theorem settled_quench (old new : State) : (settled old new).quench = new.quench := (writes_settled old new).2 .quench (by decide)
@[simp] theorem settled_peers (old new : State) : (settled old new).peers = new.peers := (writes_settled old new).2 .peers (by decide)
@[simp] theorem settled_line (old new : State) : (settled old new).line = new.line := (writes_settled old new).2 .line (by decide)
@[simp] theorem settled_fault (old new : State) : (settled old new).fault = new.fault := (writes_settled old new).2 .fault (by decide)
@[simp] theorem settled_freeDraws (old new : State) : (settled old new).freeDraws = new.freeDraws := (writes_settled old new).2 .freeDraws (by decide)
@[simp] theorem settled_pending (old new : State) : (settled old new).pending = new.pending := (writes_settled old new).1

/-- A command that leaves Cycle Control and the Profile Store to time alone ends in the state it reached. -/
theorem settled_eq {n : Nat} (cycle : t.cycle = (advance n s).cycle) (store : t.store = s.store) : settled s t = t :=
  settled_of_same (by simp [sameFields, cycle, store])

theorem settled_advance (n : Nat) (s : State) : settled s (advance n s) = advance n s := settled_eq (n := n) rfl rfl

/-! ## The machine -/

/-- Settles O1. -/
theorem stepRunsFrontCommand : Obligations.StepRunsFrontCommand :=
  ⟨fun c rest s pending => by rw [step, pending], fun s pending => by rw [step, pending]⟩

theorem pass_eq (n : Nat) (timer : Timer) :
    Timer.pass n timer = match timer with | some left => some (if n ≤ left then left - n else 0) | none => none := by
  cases timer with
  | none => rfl
  | some left =>
    simp only [Timer.pass, Option.map_some, Option.some.injEq]
    split <;> omega

/-- Time passed in two parts moves the clock as in one. -/
theorem clock_pass_add (a b : Nat) (c : Clock) : Clock.pass (a + b) c = Clock.pass b (Clock.pass a c) := by
  have sub : (c.sub + (a + b)) % 20 = ((c.sub + a) % 20 + b) % 20 := by omega
  have time : (c.sub + (a + b)) / 20 = (c.sub + a) / 20 + ((c.sub + a) % 20 + b) / 20 := by omega
  simp only [Clock.pass, Config.ticksPerUs, sub, time, BitVec.ofNat_add, BitVec.add_assoc]

theorem cycle_pass_add (a b : Nat) (c : Cycle) : Cycle.pass (a + b) c = Cycle.pass b (Cycle.pass a c) := by
  have tenths : satAdd Config.max16 c.scanTenths ((c.scanTicks + (a + b)) / Config.tenthTicks) =
      satAdd Config.max16 (satAdd Config.max16 c.scanTenths ((c.scanTicks + a) / Config.tenthTicks))
        (((c.scanTicks + a) % Config.tenthTicks + b) / Config.tenthTicks) := by
    simp only [satAdd, Config.max16, Config.tenthTicks, Config.ticksPerMs]
    omega
  have ticks : (c.scanTicks + (a + b)) % Config.tenthTicks = ((c.scanTicks + a) % Config.tenthTicks + b) % Config.tenthTicks := by
    simp only [Config.tenthTicks, Config.ticksPerMs]
    omega
  by_cases scanning : c.state = .scanning
  · simp only [Cycle.pass, pass_add, scanning, if_true, tenths, ticks]
  · simp only [Cycle.pass, pass_add, if_neg scanning]

theorem quench_pass_add (a b : Nat) (q : Quench) : Quench.pass (a + b) q = Quench.pass b (Quench.pass a q) := by
  cases opened : q.openTime <;> simp [Quench.pass, pass_add, opened, Nat.add_assoc]

theorem peers_pass_add (a b : Nat) (l : List Peer) :
    l.map (Peer.pass (a + b)) = (l.map (Peer.pass a)).map (Peer.pass b) := by
  rw [List.map_map]
  exact List.map_congr_left fun p _ => by simp [Peer.pass, pass_add]

theorem advance_add (a b : Nat) (s : State) : advance (a + b) s = advance b (advance a s) := by
  have clock := clock_pass_add a b s.clock
  have cycle := cycle_pass_add a b s.cycle
  have quench := quench_pass_add a b s.quench
  have peers := peers_pass_add a b s.peers
  unfold advance
  rw [clock, cycle, quench, peers]
  simp [Tracker.pass, Travel.pass, Sched.pass, pass_add, State.setClock, State.setCycle, State.setTracker, State.setTravel,
    State.setQuench, State.setPeers, State.setSched]

/-- Settles O2: each part of `advance` is its block's part of time. -/
theorem timeAdds : Obligations.TimeAdds := by
  refine ⟨fun n s => ?_, advance_add⟩
  have clock : (advance n s).clock = s.clock.pass n := rfl
  have cycle : (advance n s).cycle = s.cycle.pass n := rfl
  have tracker : (advance n s).tracker = s.tracker.pass n := rfl
  have travel : (advance n s).travel = s.travel.pass n := rfl
  have quench : (advance n s).quench = s.quench.pass n := rfl
  have sched : (advance n s).sched = s.sched.pass n := rfl
  have peers : (advance n s).peers = s.peers.map (Peer.pass n) := rfl
  refine ⟨Nat.mod_lt _ (by decide), ?_, rfl, ?_, ?_, ?_, ?_, ?_, ?_, fun i p found => ?_, rfl, rfl, rfl, rfl, rfl, rfl, rfl,
    rfl, rfl, rfl⟩
  · rw [clock]
    simp only [Clock.pass, Config.ticksPerUs]
    omega
  · rw [cycle, Cycle.pass, pass_eq, pass_eq] <;> rfl
  · rw [tracker, Tracker.pass, pass_eq] <;> rfl
  · rw [travel, Travel.pass, pass_eq, pass_eq, pass_eq] <;> rfl
  · rw [quench, Quench.pass, pass_eq, pass_eq, pass_eq, pass_eq]
    cases s.quench.openTime <;> rfl
  · rw [sched, Sched.pass, pass_eq, pass_eq] <;> rfl
  · rw [peers, List.length_map]
  · rw [peers, List.getElem?_map, found, Option.map_some, Peer.pass, pass_eq] <;> rfl

/-- Settles O4. -/
theorem resetMeetsInvariants : Obligations.ResetMeetsInvariants := by
  have offline : State.reset.cycle.state = .offline := rfl
  have loader : LoaderSafe State.reset := fun _ => offline
  have list : QuenchListSafe State.reset := listFits_reset rfl rfl rfl rfl
  have line : LineFits State.reset.onLine State.reset.sched State.reset.line :=
    lineFits_reset rfl rfl rfl ⟨rfl, rfl, rfl, rfl, rfl⟩
  have cycle : CycleFits State.reset.cycle := cycleFits_rest (.inl rfl) rfl rfl rfl fun runs => by cases runs
  have valves : ValvesFit State.reset State.reset.quench := valvesFit_closed rfl rfl rfl
  have peers : PeersSafe State.reset := by simp [PeersSafe, State.reset]
  exact ⟨list, queuesFit_powerOn, ⟨loader, line⟩, loader, ⟨loader, powerFits_of_off rfl⟩, ⟨loader, cycle⟩, ⟨loader, valves⟩,
    ⟨loader, travelFits_powerOn _⟩, peers⟩

/-- Settles O30. -/
theorem feedbackWord : Obligations.FeedbackWord := by
  refine fun ticks value good s => ⟨fun role running passed => ?_, fun discarded => ?_⟩
  · have runs : (advance ticks s).runs .power = true := (runs_iff _ _).2 ⟨role, running⟩
    simp only [exec, execFeedbackWord, runs, passed, Bool.and_self, if_true, settle_next]
    exact congrArg Host.Outcome.next (settled_eq (n := ticks) rfl rfl)
  · have still : ((advance ticks s).runs .power && good) = false := by
      by_contra taken
      simp only [Bool.not_eq_false, Bool.and_eq_true, runs_iff] at taken
      obtain ⟨⟨role, running⟩, passed⟩ := taken
      rcases discarded with other | off | failed
      exacts [other role, running off, by simp [failed] at passed]
    simp only [exec, execFeedbackWord, still, if_false, settle_next, Bool.false_eq_true]
    rw [settled_advance]

end Sys2Proof.Machine
end

section
/-! The Fault Unit: what a report does, and what a fatal kind does to the station. -/

namespace Sys2Proof.Machine

variable {s t u : State}

/-! ## Fields of built words -/

theorem putFlag_eq (lo : Nat) (b : Bool) : putFlag lo b = b.toNat * 2 ^ lo := by
  cases b <;> simp [putFlag]

theorem bitsOf_toWord (n hi lo : Nat) : bitsOf (toWord n) hi lo = n % 65536 / 2 ^ lo % 2 ^ (hi + 1 - lo) := by
  simp [bitsOf, toWord]

theorem toNat_toWord (n : Nat) : (toWord n).toNat = n % 65536 := by simp [toWord]

theorem stateCode_lt (c : StationState) : stateCode c < 9 := by cases c <;> decide
theorem faultCode_lt (k : FaultKind) : faultCode k < 16 := by cases k <;> decide

theorem faultNoticeFrame_layout (s : State) (k : FaultKind) (related : Option StationNo) (seen : Bool) :
    let f := faultNoticeFrame s k related seen
    f.kind = .faultNotice ∧ f.source = s.loader.number ∧ f.destination = 0 ∧
    ∃ w0 w1, f.words = [w0, w1] ∧ bitsOf w0 15 12 = stateCode s.cycle.state ∧
      bitsOf w0 11 8 = (match related with | some n => n.toNat | none => 15) ∧
      bitsOf w0 5 5 = seen.toNat ∧ bitsOf w0 4 4 = (s.isFatal k).toNat ∧ bitsOf w0 3 0 = faultCode k ∧
      w1.toNat = s.cycle.number % 256 := by
  refine ⟨rfl, rfl, rfl, _, _, rfl, ?_⟩
  have named : (match related with | some n => n.toNat | none => 15) = (related.getD 15).toNat := by
    cases related <;> rfl
  rw [named]
  have state := stateCode_lt s.cycle.state
  have kind := faultCode_lt k
  have number : (related.getD 15).toNat < 16 := (related.getD 15).isLt
  have marks := Bool.toNat_lt seen
  have fatal := Bool.toNat_lt (s.isFatal k)
  simp only [bitsOf_toWord, toNat_toWord, put, putFlag_eq]
  refine ⟨?_, ?_, ?_, ?_, ?_, ?_⟩ <;> omega

/-! ## What a fatal kind leaves as it was -/

theorem actOnFatal_fault (k : FaultKind) (t : State) : ∃ cause, (actOnFatal k t).fault = { t.fault with cause := cause } := by
  rcases actOnFatal_cases k t with e | e | e | e <;> rw [e]
  · exact ⟨_, rfl⟩
  · exact enterSilent_fault k t
  · exact ⟨_, enterAborted_fault _ t⟩
  · exact ⟨_, (handAbort_fault _ _).trans (enterAborted_fault _ t)⟩

theorem actOnFatal_latchable (k f : FaultKind) (t : State) : (actOnFatal k t).latchable f = t.latchable f := by
  obtain ⟨cause, fault⟩ := actOnFatal_fault k t
  simp [State.latchable, State.isMasked, State.isLatched, fault, actOnFatal_settings]

theorem tellCycle_fault (k : FaultKind) (t : State) : ∃ cause, (tellCycle k t).fault = { t.fault with cause := cause } := by
  unfold tellCycle
  split
  · exact actOnFatal_fault k t
  · exact ⟨_, rfl⟩

theorem tellCycle_latchable (k f : FaultKind) (t : State) : (tellCycle k t).latchable f = t.latchable f := by
  unfold tellCycle
  split
  · exact actOnFatal_latchable k f t
  · rfl

/-! ## An ABORT handed -/

/-- A station on the line that hands an ABORT has it waiting, or offered: during an attempt it waits; it displaces an offer
that is not under attempt; and with nothing offered it waits or, the line idle, is offered at once. -/
theorem handAbort_sched {f : Frame} (on : t.onLine = true) :
    (handAbort f t).sched = { t.sched with abortQ := some f } ∨
    (∃ o, t.sched.offered = some o ∧ (handAbort f t).sched =
      { returnOffer o { t.sched with abortQ := some f } with
        abortQ := none, offered := some ⟨f, (returnOffer o { t.sched with abortQ := some f }).phasePtr⟩ }) ∨
    (t.sched.offered = none ∧
      (handAbort f t).sched = { t.sched with abortQ := none, offered := some ⟨f, t.sched.phasePtr⟩ }) := by
  rw [handAbort, if_pos on]
  cases attempt : t.line.attempt with
  | some g =>
    rw [tryBegin_of_not (by simp [State.mayBegin, attempt])]
    exact .inl rfl
  | none =>
    cases offered : t.sched.offered with
    | some o =>
      have placed : t.sched.placeAbort f (none : Option Frame).isSome = { returnOffer o { t.sched with abortQ := some f } with
          abortQ := none, offered := some ⟨f, (returnOffer o { t.sched with abortQ := some f }).phasePtr⟩ } := by
        simp [Sched.placeAbort, displaceByAbort, offered]
      rw [placed]
      refine .inr (.inl ⟨o, rfl, ?_⟩)
      unfold tryBegin
      split <;> rfl
    | none =>
      have placed : t.sched.placeAbort f (none : Option Frame).isSome = { t.sched with abortQ := some f } := by
        simp [Sched.placeAbort, displaceByAbort, offered]
      rw [placed]
      unfold tryBegin
      split
      · exact .inr (.inr ⟨rfl, by simp [chooseOffer, chosen, offered]⟩)
      · exact .inl rfl

theorem returnOffer_reportQ (o : Offer) (q : Sched) :
    (returnOffer o q).reportQ.length = q.reportQ.length + (if classOf o.frame.kind == .report then 1 else 0) := by
  unfold returnOffer
  split <;> rename_i c <;> simp [c]

theorem handAbort_reportOccupancy {f : Frame} (class_ : classOf f.kind = .abort) (on : t.onLine = true) :
    (handAbort f t).sched.reportOccupancy = t.sched.reportOccupancy := by
  rcases handAbort_sched (f := f) on with e | ⟨o, offered, e⟩ | ⟨offered, e⟩ <;> rw [e]
  · rfl
  · simp [Sched.reportOccupancy, Sched.offers, class_, offered, returnOffer_reportQ]
  · simp [Sched.reportOccupancy, Sched.offers, class_, offered]

theorem actOnFatal_reportOccupancy {k : FaultKind} (on : (actOnFatal k t).onLine = true) :
    (actOnFatal k t).sched.reportOccupancy = t.sched.reportOccupancy := by
  rcases actOnFatal_cases k t with e | e | e | e <;> rw [e] at on ⊢
  · simp [State.onLine] at on
  · simp
  · rw [handAbort_reportOccupancy rfl (by simp [State.onLine])]
    simp

/-! ## O16: a report -/

theorem tellCycle_reportOccupancy {k : FaultKind} (on : (tellCycle k t).onLine = true) :
    (tellCycle k t).sched.reportOccupancy = t.sched.reportOccupancy := by
  unfold tellCycle at on ⊢
  split at on
  case isTrue fatal => rw [if_pos fatal, actOnFatal_reportOccupancy on]
  case isFalse mild => rw [if_neg mild]

/-- A frame for a full REPORT queue is dropped and counted on the line, and discarded off it. -/
theorem placeReport_of_full (f : Frame) (full : t.onLine = true → Config.reportCapacity ≤ t.sched.reportOccupancy) :
    placeReport f t = if t.onLine then countDrop t else t := by
  unfold placeReport
  cases on : t.onLine with
  | false => rfl
  | true => simp [Nat.not_lt.2 (full on)]

theorem pushReport_of_waits {f : Frame} (waits : ReportWaits t) :
    pushReport f t = t.setSched { t.sched with reportQ := t.sched.reportQ ++ [f] } :=
  tryBegin_of_not waits.2.2

/-- A report to a full REPORT queue latches, drops its notice, and tells a fatal kind. -/
theorem takeReport_of_full {r : Report} (on : t.onLine = true) (full : Config.reportCapacity ≤ t.sched.reportOccupancy) :
    takeReport r t = tellCycle r.kind (countDrop (latch r t)) := by
  have latched : (latch r t).onLine = true := by simpa [State.onLine] using on
  rw [takeReport, placeReport_of_full _ fun _ => by simpa using full, if_pos latched]

/-- The TX_OVERFLOW of a dropped notice, where the record is filled: latched, its own notice dropped, and told. -/
theorem reportOverflow_of_full {c : Captured} (free : t.latchable .txOverflow = true) (filled : t.fault.record.isSome = true)
    (full : t.onLine = true → Config.reportCapacity ≤ t.sched.reportOccupancy) :
    reportOverflow c t = tellCycle .txOverflow
      (let both := t.setFault { t.fault with latches := t.fault.latches ||| 0x4000#16 }
       if t.onLine then countDrop both else both) := by
  obtain ⟨record, e⟩ := Option.isSome_iff_exists.1 filled
  have same (r : FaultRecord) : some (t.fault.record.getD r) = t.fault.record := by rw [e]; rfl
  have latched : latch ⟨.txOverflow, none, some c⟩ t = t.setFault { t.fault with latches := t.fault.latches ||| 0x4000#16 } := by
    unfold latch
    rw [same]
    rfl
  rw [reportOverflow, if_pos free, latched, placeReport_of_full _ (by simpa [State.onLine] using full)]
  rfl

/-- A report of a full REPORT queue leaves the queue full and the record filled. -/
theorem told_of_full {r : Report} (k : FaultKind) (full : Config.reportCapacity ≤ s.sched.reportOccupancy) :
    let first := tellCycle k (countDrop (latch r s))
    first.fault.record.isSome = true ∧ (first.onLine = true → Config.reportCapacity ≤ first.sched.reportOccupancy) := by
  obtain ⟨cause, fault⟩ := tellCycle_fault k (countDrop (latch r s))
  refine ⟨by rw [fault]; rfl, fun still => ?_⟩
  rw [tellCycle_reportOccupancy still]
  exact full

/-- Settles O16. -/
theorem faultReport : Obligations.FaultReport := by
  intro r s latched
  have fault : latch r s = latched := rfl
  refine ⟨faultNoticeFrame_layout s r.kind, fun off => ?_, fun mask free offLine => ?_, fun mask free waits => ?_,
    fun mask free on full => ?_⟩
  · refine report_of_not (Bool.eq_false_iff.2 fun latches => ?_)
    obtain ⟨mask, free⟩ := (latchable_iff s r.kind).1 latches
    rcases off with m | l <;> simp_all
  · have still : (latch r s).onLine = false := by simpa [State.onLine] using offLine
    rw [report_offLine ((latchable_iff s r.kind).2 ⟨mask, free⟩) offLine, tellCycle]
    split
    · exact actOnFatal_offLine still
    · rfl
  · have waits' : ReportWaits (latch r s) := by
      simpa [ReportWaits, State.onLine, State.mayBegin] using waits
    obtain ⟨on, room, -⟩ := waits
    rw [report_of_room ((latchable_iff s r.kind).2 ⟨mask, free⟩) on room, pushReport_of_waits waits']
    rfl
  · have takes := (latchable_iff s r.kind).2 ⟨mask, free⟩
    have drops : s.dropsReport = true := by
      rw [State.dropsReport, on]
      exact decide_eq_true full
    have taken : takeReport r s = tellCycle r.kind (countDrop latched) := takeReport_of_full on full
    have told (k : FaultKind) (t : State) (same : t.settings = s.settings) :
        tellCycle k t = if s.isFatal k then actOnFatal k t else t := by
      rw [tellCycle, State.isFatal, same]
      rfl
    have overflow : (tellCycle r.kind (countDrop latched)).latchable .txOverflow =
        (s.latchable .txOverflow && !decide (r.kind = .txOverflow)) := by
      have latches := latch_isLatched r s .txOverflow
      have sameMask : (countDrop latched).isMasked .txOverflow = s.isMasked .txOverflow := rfl
      have sameLatch : (countDrop latched).isLatched .txOverflow = (latch r s).isLatched .txOverflow := rfl
      rw [tellCycle_latchable, State.latchable, sameMask, sameLatch, latches, State.latchable, Bool.not_or, Bool.and_assoc]
    obtain ⟨filled, fullStill⟩ := told_of_full (r := r) r.kind full
    rw [fault, told r.kind (countDrop latched) rfl] at filled fullStill
    rw [told r.kind (countDrop latched) rfl] at overflow
    rw [report_of takes, if_pos drops, taken, told r.kind (countDrop latched) rfl]
    refine ⟨fun none => ?_, fun other again => ?_⟩
    · have unlatchable : (s.latchable .txOverflow && !decide (r.kind = .txOverflow)) = false := by
        rcases none with e | e <;> simp [e]
      rw [reportOverflow, overflow, unlatchable]
      rfl
    · have latchable : (s.latchable .txOverflow && !decide (r.kind = .txOverflow)) = true := by simp [again, other]
      rw [reportOverflow_of_full (overflow.trans latchable) filled fullStill, told]
      · rfl
      · dsimp only
        split <;> split <;> simp <;> rfl

end Sys2Proof.Machine
end

section
/-! What a fatal kind that latches does in each station state (O17). -/

namespace Sys2Proof.Machine

variable {s t u : State}

/-! ## An ABORT that was handed stays handed -/

/-- The frame waits in the ABORT queue or is offered. -/
def AbortWaits (f : Frame) (q : Sched) : Prop := q.abortQ = some f ∨ ∃ o, q.offered = some o ∧ o.frame = f

theorem abortWaits_handAbort {f : Frame} (on : t.onLine = true) : AbortWaits f (handAbort f t).sched := by
  rcases handAbort_sched (f := f) on with e | ⟨o, -, e⟩ | ⟨-, e⟩ <;> rw [e]
  · exact .inl rfl
  · exact .inr ⟨_, rfl, rfl⟩
  · exact .inr ⟨_, rfl, rfl⟩

/-- An attempt that begins takes a waiting ABORT first. -/
theorem abortWaits_tryBegin {f : Frame} (h : AbortWaits f t.sched) : AbortWaits f (tryBegin t).sched := by
  rcases tryBegin_cases t with e | ⟨-, e⟩ <;> rw [e]
  · exact h
  · rw [State.setLine_sched, State.setSched_sched]
    split
    case isFalse => exact h
    case isTrue free =>
      rcases h with waits | ⟨o, offered, -⟩
      · exact .inr ⟨⟨f, t.sched.phasePtr⟩, by simp [chosen, waits], rfl⟩
      · simp [offered] at free

theorem abortWaits_placeReport {f g : Frame} (h : AbortWaits f t.sched) : AbortWaits f (placeReport g t).sched := by
  unfold placeReport
  split
  · exact h
  · split
    · exact abortWaits_tryBegin h
    · exact h

/-! ## What a fatal kind does, and what TX_OVERFLOW may add -/

/-- A kind that does not silence does nothing before the load, in JOINING, in ABORTED and in SILENT. -/
theorem actOnFatal_stays {k : FaultKind} (mild : k.silences = false)
    (state : t.cycle.state = .offline ∨ t.cycle.state = .silent ∨ t.cycle.state = .joining ∨ t.cycle.state = .aborted) :
    actOnFatal k t = t := by
  unfold actOnFatal
  rcases state with e | e | e | e <;> simp [e, mild]

theorem actOnFatal_rests {k : FaultKind} (mild : k.silences = false) (state : t.cycle.state = .idle ∨ t.cycle.state = .armed) :
    actOnFatal k t = enterAborted (.fault k) t := by
  unfold actOnFatal
  rcases state with e | e <;> simp [e, mild]

theorem actOnFatal_inCycle {k : FaultKind} (mild : k.silences = false) (cycle : t.inCycle = true) :
    actOnFatal k t = handAbort (abortFrame t) (enterAborted (.fault k) t) := by
  unfold actOnFatal
  rcases (inCycle_iff t).1 cycle with e | e | e <;> simp [e, mild, enterAbortedOwn]

theorem actOnFatal_silences {k : FaultKind} (silences : k.silences = true) (on : t.onLine = true) :
    actOnFatal k t = enterSilent k t := by
  obtain ⟨notOffline, notSilent⟩ := (onLine_iff t).1 on
  unfold actOnFatal
  cases e : t.cycle.state <;> simp_all

theorem actOnFatal_number (k : FaultKind) (t : State) :
    (actOnFatal k t).cycle.number = t.cycle.number ∧ (actOnFatal k t).cycle.roster = t.cycle.roster := by
  rcases actOnFatal_cases k t with e | e | e | e <;> rw [e]
  · exact ⟨rfl, rfl⟩
  · rw [enterSilent_cycle]
    exact ⟨rfl, rfl⟩
  · exact ⟨enterAborted_number _ _, enterAborted_roster _ _⟩
  · rw [handAbort_cycle]
    exact ⟨enterAborted_number _ _, enterAborted_roster _ _⟩

theorem tellCycle_number (k : FaultKind) (t : State) :
    (tellCycle k t).cycle.number = t.cycle.number ∧ (tellCycle k t).cycle.roster = t.cycle.roster := by
  unfold tellCycle
  split
  · exact actOnFatal_number k t
  · exact ⟨rfl, rfl⟩

theorem reportOverflow_number (c : Captured) (t : State) :
    (reportOverflow c t).cycle.number = t.cycle.number ∧ (reportOverflow c t).cycle.roster = t.cycle.roster := by
  unfold reportOverflow
  split
  · simpa using tellCycle_number .txOverflow
      (placeReport (faultNoticeFrame t .txOverflow none false) (latch ⟨.txOverflow, none, some c⟩ t))
  · exact ⟨rfl, rfl⟩

/-- Before the load, in JOINING, ABORTED and SILENT no kind that does not silence has anything more to do. -/
def StationState.stays (c : StationState) : Prop := c = .offline ∨ c = .silent ∨ c = .joining ∨ c = .aborted

/-- There an overflow only latches, and drops its notice or queues it. -/
theorem reportOverflow_stays (c : Captured) (state : t.cycle.state.stays) :
    (reportOverflow c t).cycle = t.cycle ∧ (reportOverflow c t).fault.cause = t.fault.cause ∧
    (reportOverflow c t).quench = t.quench ∧ (∀ f, AbortWaits f t.sched → AbortWaits f (reportOverflow c t).sched) ∧
    (t.onLine = false → (reportOverflow c t).sched = t.sched ∧ (reportOverflow c t).line = t.line) := by
  unfold reportOverflow
  split
  case isFalse => exact ⟨rfl, rfl, rfl, fun _ => id, fun _ => ⟨rfl, rfl⟩⟩
  case isTrue =>
    have told : tellCycle .txOverflow (placeReport (faultNoticeFrame t .txOverflow none false)
        (latch ⟨.txOverflow, none, some c⟩ t)) =
          placeReport (faultNoticeFrame t .txOverflow none false) (latch ⟨.txOverflow, none, some c⟩ t) := by
      unfold tellCycle
      split
      · exact actOnFatal_stays rfl (by simpa [StationState.stays] using state)
      · rfl
    rw [told]
    refine ⟨by simp, by simp [latch], by simp, fun f waits => abortWaits_placeReport (by simpa using waits), fun off => ?_⟩
    have off' : (latch ⟨.txOverflow, none, some c⟩ t).onLine = false := by simpa [State.onLine] using off
    rw [placeReport, if_pos off']
    exact ⟨by simp, by simp⟩

/-- A report that is taken is its four things, or an overflow follows them. -/
theorem report_taken {r : Report} (h : s.latchable r.kind = true) :
    report r s = takeReport r s ∨ ∃ c, report r s = reportOverflow c (takeReport r s) := by
  rw [report_of h]
  split
  · exact .inr ⟨_, rfl⟩
  · exact .inl rfl

/-- Where the four things of a report leave the station in a state that stays, an overflow that follows them leaves Cycle
Control, cause, valves and a waiting ABORT, and off the line the queues. -/
theorem report_stays {r : Report} (h : s.latchable r.kind = true) (state : (takeReport r s).cycle.state.stays) :
    (report r s).cycle = (takeReport r s).cycle ∧ (report r s).fault.cause = (takeReport r s).fault.cause ∧
    (report r s).quench = (takeReport r s).quench ∧
    (∀ f, AbortWaits f (takeReport r s).sched → AbortWaits f (report r s).sched) ∧
    ((takeReport r s).onLine = false →
      (report r s).sched = (takeReport r s).sched ∧ (report r s).line = (takeReport r s).line) := by
  rcases report_taken h with e | ⟨c, e⟩ <;> rw [e]
  · exact ⟨rfl, rfl, rfl, fun _ => id, fun _ => ⟨rfl, rfl⟩⟩
  · exact reportOverflow_stays c state

/-- The state a fatal kind is told in: latched, its notice placed. -/
def noticed (r : Report) (s : State) : State := placeReport (faultNoticeFrame s r.kind r.related false) (latch r s)

@[simp] theorem noticed_cycle (r : Report) (s : State) : (noticed r s).cycle = s.cycle := by simp [noticed]
@[simp] theorem noticed_cause (r : Report) (s : State) : (noticed r s).fault.cause = s.fault.cause := by simp [noticed, latch]
@[simp] theorem noticed_quench (r : Report) (s : State) : (noticed r s).quench = s.quench := by simp [noticed]

theorem noticed_inCycle (r : Report) (s : State) : (noticed r s).inCycle = s.inCycle := by simp [State.inCycle]
theorem noticed_onLine (r : Report) (s : State) : (noticed r s).onLine = s.onLine := by simp [State.onLine]

theorem abortFrame_noticed (r : Report) (s : State) : abortFrame (noticed r s) = abortFrame s := by
  simp [abortFrame, State.ownFrame, noticed]

theorem takeReport_of_fatal {r : Report} (fatal : s.isFatal r.kind = true) :
    takeReport r s = actOnFatal r.kind (noticed r s) := by
  have same : (noticed r s).isFatal r.kind = true := by simpa [State.isFatal, noticed] using fatal
  rw [takeReport, tellCycle]
  exact if_pos same

/-- A choice of an offer moves frames and pointer alone. -/
theorem chosen_dropCount (t : State) : (chosen t).dropCount = t.sched.dropCount := by
  unfold chosen offerFrom
  repeat' split
  all_goals rfl

theorem tryBegin_dropCount (t : State) : (tryBegin t).sched.dropCount = t.sched.dropCount := by
  rcases tryBegin_cases t with e | ⟨-, e⟩ <;> rw [e]
  rw [State.setLine_sched, State.setSched_sched]
  split
  · exact chosen_dropCount t
  · rfl

/-- A report keeps cycle number and roster. -/
theorem report_number {r : Report} (fatal : s.isFatal r.kind = true) (h : s.latchable r.kind = true) :
    (report r s).cycle.number = s.cycle.number ∧ (report r s).cycle.roster = s.cycle.roster := by
  have told : (takeReport r s).cycle.number = s.cycle.number ∧ (takeReport r s).cycle.roster = s.cycle.roster := by
    rw [takeReport_of_fatal fatal]
    simpa using actOnFatal_number r.kind (noticed r s)
  rcases report_taken h with e | ⟨c, e⟩ <;> rw [e]
  · exact told
  · obtain ⟨number, roster⟩ := reportOverflow_number c (takeReport r s)
    exact ⟨number.trans told.1, roster.trans told.2⟩

/-- A notice that finds no room is counted as dropped. -/
theorem noticed_dropCount (r : Report) (on : s.onLine = true) :
    (s.sched.reportOccupancy < Config.reportCapacity → (noticed r s).sched.dropCount = s.sched.dropCount) ∧
    (Config.reportCapacity ≤ s.sched.reportOccupancy →
      (noticed r s).sched.dropCount = min 65535 (s.sched.dropCount + 1)) := by
  have latched : (latch r s).onLine = true := by simpa [State.onLine] using on
  constructor
  · intro room
    have room' : (latch r s).sched.reportOccupancy < Config.reportCapacity := by simpa using room
    rw [noticed, placeReport, if_neg (by simp [latched]), if_pos room', pushReport]
    exact tryBegin_dropCount _
  · intro full
    rw [noticed, placeReport_of_full _ fun _ => by simpa using full, if_pos latched]
    rfl

/-- Settles O17. -/
theorem fatalKindOutcome : Obligations.FatalKindOutcome := by
  intro r s fatal latches t
  have taken := takeReport_of_fatal fatal
  obtain ⟨number, roster⟩ := report_number fatal latches
  refine ⟨number, roster, fun mild => ⟨fun state => ?_, fun state => ?_, fun cycle => ?_⟩, fun silences on => ?_⟩
  · have stays := actOnFatal_stays mild (t := noticed r s) (by simpa using state)
    rw [stays] at taken
    obtain ⟨cycle, cause, -⟩ := report_stays latches (by rw [taken, noticed_cycle]; exact state)
    rw [taken] at cycle cause
    exact ⟨congrArg Cycle.state (cycle.trans (noticed_cycle r s)), cause.trans (noticed_cause r s)⟩
  · rw [actOnFatal_rests mild (t := noticed r s) (by simpa using state)] at taken
    obtain ⟨cycle, cause, quench, -⟩ := report_stays latches (by rw [taken]; simp [StationState.stays])
    rw [taken] at cycle cause quench
    have flood : (enterAborted (.fault r.kind) (noticed r s)).quench.flood = s.quench.flood := by
      have rest : (noticed r s).inCycle = false := by
        rw [noticed_inCycle]
        rcases state with e | e <;> simp [State.inCycle, e, StationState.inCycle]
      simp [enterAborted, rest, abortFromRest, Quench.standDown]
    exact ⟨by simp [t, cycle], by simp [t, cause], by rw [quench, flood]⟩
  · rw [actOnFatal_inCycle mild (by rwa [noticed_inCycle])] at taken
    have aborted : (enterAborted (.fault r.kind) (noticed r s)).onLine = true := by simp [State.onLine]
    have waits : AbortWaits (abortFrame s) (takeReport r s).sched := by
      rw [taken, abortFrame_noticed]
      exact abortWaits_handAbort aborted
    obtain ⟨cycle, cause, -, handed, -⟩ := report_stays latches (by rw [taken]; simp [StationState.stays])
    rw [taken] at cycle cause
    exact ⟨by simp [t, cycle], by simp [t, cause], handed _ waits⟩
  · rw [actOnFatal_silences silences (by rwa [noticed_onLine])] at taken
    have off : (takeReport r s).onLine = false := by simp [taken, State.onLine]
    obtain ⟨cycle, cause, -, -, same⟩ := report_stays latches (by rw [taken]; simp [StationState.stays])
    obtain ⟨sched, line⟩ := same off
    rw [taken] at cycle cause sched line
    obtain ⟨room, full⟩ := noticed_dropCount r on
    refine ⟨by simp [t, cycle], by simp [t, line], ?_, ?_, ?_, ?_, ?_, fun k => ?_, fun k => ?_, fun cyc => ?_⟩
    all_goals simp only [t, sched, enterSilent_sched, cause]
    iterate 5 rfl
    · exact room k
    · exact full k
    · have cyc' : (noticed r s).inCycle = true := by rwa [noticed_inCycle]
      simp [enterSilent, cyc']

end Sys2Proof.Machine
end

section
/-! Start-up: power-on reset and the configuration load (O18, O19). -/

namespace Sys2Proof.Machine

variable {s t u : State}

/-- With no BEACON waiting or offered the end of a command has nothing to rebuild or note. -/
theorem settled_of_no_beacon (old : State) (waits : t.sched.waitsBeacon = false) (offers : t.sched.offersBeacon = false) :
    settled old t = t := by
  have same : t.setSched (t.sched.noteRefresh t.line.attempt.isSome) = t := by
    simp [Sched.noteRefresh, offers, State.setSched]
  have still : t.refreshable = false := by simp [State.refreshable, waits, offers]
  unfold settled
  split
  · rfl
  · rw [refreshBeacon_of_not still, same]

/-! ## O18: power-on reset -/

/-- A bad load latches CONFIG_BAD and nothing else, where it is neither masked nor latched. -/
theorem loadBad_eq (off : t.cycle.state = .offline) (mask : t.isMasked .configBad = false) (free : t.isLatched .configBad = false) :
    loadBad t = latch ⟨.configBad, none, none⟩ (t.setLoader { t.loader with status := .bad }) := by
  have offLine : (t.setLoader { t.loader with status := .bad }).onLine = false := by simp [State.onLine, off]
  have latches : (t.setLoader { t.loader with status := .bad }).latchable .configBad = true :=
    (latchable_iff _ _).2 ⟨mask, free⟩
  rw [loadBad, reportPlain, report_offLine latches offLine, tellCycle]
  split
  · exact actOnFatal_offLine (by simpa [State.onLine] using offLine)
  · rfl

theorem strapsBad_iff (stn : StationNo) (roleCode : BitVec 2) :
    strapsBad stn roleCode = true ↔ stn = 0 ∨ stn = 15 ∨ roleCode = 0 := by
  simp [strapsBad, or_assoc]

/-- Settles O18. -/
theorem powerOnResetSamplesStraps : Obligations.PowerOnResetSamplesStraps := by
  intro ticks stn roleCode s fresh
  have exec_eq : exec (.powerOnReset ticks stn roleCode) s = .next (settled s (powerOn stn roleCode (advance ticks s))) := rfl
  refine ⟨fun number number' role => ?_, fun bad => ?_⟩
  · have good : strapsBad stn roleCode = false := Bool.eq_false_iff.2 fun bad => by
      rcases (strapsBad_iff stn roleCode).1 bad with e | e | e
      exacts [number e, number' e, role e]
    rw [exec_eq, powerOn_eq, good, if_neg Bool.false_ne_true, settled_of_no_beacon _ rfl rfl]
    rfl
  · rw [exec_eq, powerOn_eq, if_pos ((strapsBad_iff stn roleCode).2 bad),
      loadBad_eq rfl (by simp [freshStart, State.reset, State.isMasked, Settings.beforeLoad])
        (by simp [freshStart, State.reset, State.isLatched, FaultUnit.powerOn]), settled_of_no_beacon _ rfl rfl]
    have bits : (0 : Marks16) ||| latchBit .configBad = 1 := by decide
    rw [← bits]
    rfl

/-! ## O19: the configuration load -/

/-- A first JOIN on a line that is not idle waits in the BEACON queue. -/
theorem enterJoining_eq (idle : t.line.idle = false) (offered : t.sched.offered = none) :
    enterJoining t = (markJoining t).setSched { (markJoining t).sched with beaconQ := some (joinFrame t) } := by
  have on : (markJoining t).onLine = true := rfl
  have placed : (markJoining t).sched.placeBeacon (joinFrame t) (markJoining t).line.attempt.isSome =
      { (markJoining t).sched with beaconQ := some (joinFrame t) } := by
    simp [Sched.placeBeacon, Sched.offers, markJoining, offered]
  rw [enterJoining, placeBeacon, if_pos on, placed]
  exact tryBegin_of_not (by simp [State.mayBegin, markJoining, idle])

theorem exec_configurationLoad (ticks : Nat) (memory : List Word) (loading : s.loader.status = .loading) :
    exec (.configurationLoad ticks memory) s = .next (settled s (endLoad memory (advance ticks s))) := by
  have loading' : (advance ticks s).loader.status = .loading := loading
  show settle s _ = _
  rw [if_pos loading', settle_next]

theorem advance_sched_powerOn (ticks : Nat) (h : s.sched = Sched.powerOn) : (advance ticks s).sched = Sched.powerOn := by
  have sched : (advance ticks s).sched = s.sched.pass ticks := rfl
  rw [sched, h]
  rfl

/-- A good load configures the station and takes it to JOINING. -/
theorem load_good {ticks : Nat} {memory : List Word} {r : Role} (loading : s.loader.status = .loading) (role : s.role = some r)
    (good : imageGood r (memory.take 64) = true) (sched : s.sched = Sched.powerOn) :
    let w := configured r (settingsOf (memory.take 64))
      ((advance ticks s).setLoader { s.loader with image := memory.take 64 })
    exec (.configurationLoad ticks memory) s =
      .next ((markJoining w).setSched { (markJoining w).sched with beaconQ := some (joinFrame w) }) := by
  intro w
  have role' : (advance ticks s).role = some r := role
  have good' : imageGood r (memory.take imageWords) = true := good
  have offered : w.sched.offered = none := congrArg Sched.offered (advance_sched_powerOn ticks sched)
  have ended : endLoad memory (advance ticks s) = enterJoining w := by
    unfold endLoad
    simp only [role', good', if_true]
    rfl
  rw [exec_configurationLoad ticks memory loading, ended, enterJoining_eq rfl offered,
    settled_of_no_beacon _ (by simp [Sched.waitsBeacon, joinFrame, State.ownFrame])
      (by simp [Sched.offersBeacon, markJoining, offered])]

/-- A bad load keeps the station OFFLINE with CONFIG_BAD latched. -/
theorem load_bad {ticks : Nat} {memory : List Word} {r : Role} (loading : s.loader.status = .loading) (role : s.role = some r)
    (bad : imageGood r (memory.take 64) = false) :
    exec (.configurationLoad ticks memory) s =
      .next (settled s (loadBad ((advance ticks s).setLoader { s.loader with image := memory.take 64 }))) := by
  have role' : (advance ticks s).role = some r := role
  have bad' : imageGood r (memory.take imageWords) = false := bad
  have ended : endLoad memory (advance ticks s) = loadBad ((advance ticks s).setLoader { s.loader with image := memory.take 64 }) := by
    unfold endLoad
    simp only [role', bad', Bool.false_eq_true, if_false]
    rfl
  rw [exec_configurationLoad ticks memory loading, ended]

theorem imageGood_short {memory : List Word} (r : Role) (short : memory.length < 64) : imageGood r (memory.take 64) = false := by
  have : ¬ (memory.take 64).length = 64 := by
    rw [List.length_take]
    omega
  have length : ((memory.take 64).length == imageWords) = false := beq_false_of_ne this
  rw [imageGood, length]
  rfl

end Sys2Proof.Machine
end

section
/-! The memory map and the ranges of its fields (O19). -/

namespace Sys2Proof.Machine

variable {s t u : State}

/-! ## The phase table of an image -/

/-- Code `k` of words 28 and 29, two bits from the top down. -/
def phaseCode (m : List Word) (k : Nat) : Nat := u16 m (28 + k / 8) / 2 ^ (14 - 2 * (k % 8)) % 4

theorem phaseCodes_getElem? (w : Word) {j : Nat} (h : j < 8) :
    (phaseCodes w)[j]? = some (w.toNat / 2 ^ (14 - 2 * j) % 4) := by
  have width : 15 - 2 * j + 1 - (14 - 2 * j) = 2 := by omega
  simp [phaseCodes, h, bitsOf, width]

theorem imagePhase_getElem? (m : List Word) {k : Nat} (h : k < 16) : (imagePhase m)[k]? = some (phaseCode m k) := by
  have length : (phaseCodes (wordAt m 28)).length = 8 := by simp [phaseCodes]
  unfold imagePhase phaseCode
  by_cases first : k < 8
  · have word : k / 8 = 0 := by omega
    have index : k % 8 = k := by omega
    rw [List.getElem?_append_left (by omega), phaseCodes_getElem? _ first, word, index]
    rfl
  · have word : k / 8 = 1 := by omega
    have index : k % 8 = k - 8 := by omega
    rw [List.getElem?_append_right (by omega), length, phaseCodes_getElem? _ (by omega), word, index]
    rfl

theorem imagePhase_length (m : List Word) : (imagePhase m).length = 16 := by simp [imagePhase, phaseCodes]

theorem phaseCode_lt (m : List Word) (k : Nat) : phaseCode m k < 4 := Nat.mod_lt _ (by decide)

theorem phaseClassOf_eq (c : Nat) :
    phaseClassOf c = if c = 1 then .beacon else if c = 2 then .slice else .report := by
  unfold phaseClassOf
  split <;> simp_all

theorem mem_imagePhase (m : List Word) (c : Nat) : c ∈ imagePhase m ↔ ∃ k, k < 16 ∧ phaseCode m k = c := by
  rw [List.mem_iff_getElem?]
  constructor
  · rintro ⟨k, found⟩
    have inside : k < 16 := imagePhase_length m ▸ (List.getElem?_eq_some_iff.1 found).1
    rw [imagePhase_getElem? m inside] at found
    exact ⟨k, inside, Option.some.inj found⟩
  · rintro ⟨k, inside, rfl⟩
    exact ⟨k, imagePhase_getElem? m inside⟩

/-- The two words give a table, rather than the default. -/
def GivesPhases (m : List Word) : Prop := u16 m 28 ≠ 0 ∨ u16 m 29 ≠ 0

theorem imagePhaseTable_of_given {m : List Word} (h : GivesPhases m) : imagePhaseTable m = (imagePhase m).map phaseClassOf :=
  if_neg fun none => by rcases h with e | e <;> simp_all

theorem imagePhaseTable_of_default {m : List Word} (h : ¬ GivesPhases m) : imagePhaseTable m = defaultPhaseTable := by
  simp only [GivesPhases, not_or, Decidable.not_not] at h
  exact if_pos h

theorem imagePhaseTable_length (m : List Word) : (imagePhaseTable m).length = 16 := by
  by_cases h : GivesPhases m
  · rw [imagePhaseTable_of_given h, List.length_map, imagePhase_length]
  · rw [imagePhaseTable_of_default h]
    rfl

theorem imagePhaseTable_given_getElem? {m : List Word} (h : GivesPhases m) {k : Nat} (inside : k < 16) :
    (imagePhaseTable m)[k]? =
      some (if phaseCode m k = 1 then .beacon else if phaseCode m k = 2 then .slice else .report) := by
  rw [imagePhaseTable_of_given h, List.getElem?_map, imagePhase_getElem? m inside, Option.map_some, phaseClassOf_eq]

theorem defaultPhaseTable_getElem? : ∀ k, k < 16 → defaultPhaseTable[k]? =
    some (if k % 4 = 0 then .beacon else if k % 4 = 3 then .report else .slice) := by decide

/-- A table that is given names no code 0 and every class. -/
theorem phaseInRange_iff (m : List Word) :
    phaseInRange m = true ↔
      (GivesPhases m → (∀ k, k < 16 → phaseCode m k ≠ 0) ∧ ∀ c : PhaseClass, c ∈ imagePhaseTable m) := by
  have all_codes : ((imagePhase m).all fun c => c != 0) = true ↔ ∀ k, k < 16 → phaseCode m k ≠ 0 := by
    simp only [List.all_eq_true, mem_imagePhase, bne_iff_ne]
    exact ⟨fun all k inside => all _ ⟨k, inside, rfl⟩, fun all c ⟨k, inside, e⟩ => e ▸ all k inside⟩
  have named : (([1, 2, 3] : List Nat).all fun c => (imagePhase m).contains c) = true ↔
      1 ∈ imagePhase m ∧ 2 ∈ imagePhase m ∧ 3 ∈ imagePhase m := by simp
  by_cases h : GivesPhases m
  case neg =>
    have zero := h
    simp only [GivesPhases, not_or, Decidable.not_not] at zero
    simp [phaseInRange, zero, h]
  case pos =>
    have given : (u16 m 28 == 0 && u16 m 29 == 0) = false := by
      rcases h with e | e <;> simp [e]
    rw [phaseInRange, given, Bool.false_or, Bool.and_eq_true, all_codes, named, imagePhaseTable_of_given h]
    refine ⟨fun ⟨codes, one, two, three⟩ _ => ⟨codes, fun c => ?_⟩, fun all => ⟨(all h).1, ?_⟩⟩
    · cases c
      · exact List.mem_map.2 ⟨1, one, rfl⟩
      · exact List.mem_map.2 ⟨2, two, rfl⟩
      · exact List.mem_map.2 ⟨3, three, rfl⟩
    · obtain ⟨codes, classes⟩ := all h
      have code (c : PhaseClass) : ∃ k, k < 16 ∧ phaseClassOf (phaseCode m k) = c := by
        obtain ⟨x, mem, e⟩ := List.mem_map.1 (classes c)
        obtain ⟨k, inside, rfl⟩ := (mem_imagePhase m x).1 mem
        exact ⟨k, inside, e⟩
      obtain ⟨i, hi, beacon⟩ := code .beacon
      obtain ⟨j, hj, slice⟩ := code .slice
      obtain ⟨k, hk, report⟩ := code .report
      simp only [mem_imagePhase]
      rw [phaseClassOf_eq] at beacon slice report
      have lt := phaseCode_lt m k
      have some_ := codes k hk
      refine ⟨⟨i, hi, ?_⟩, ⟨j, hj, ?_⟩, ⟨k, hk, ?_⟩⟩
      · by_contra no
        rw [if_neg no] at beacon
        split at beacon <;> cases beacon
      · by_contra no
        rw [if_neg no] at slice
        split at slice <;> cases slice
      · have one : phaseCode m k ≠ 1 := fun e => by simp [e] at report
        have two : phaseCode m k ≠ 2 := fun e => by simp [e] at report
        omega

/-! ## Words with bits that must be clear or set -/

theorem and_high_eq_zero (w : Word) : (w &&& 0xFF00 == 0) = true ↔ w.toNat < 256 := by
  rw [beq_iff_eq]
  have bits : ∀ i, i < 16 → (0xFF00 : Word).getLsbD i = decide (8 ≤ i) := by decide
  constructor
  · intro clear
    refine Nat.lt_pow_two_of_testBit (n := 8) _ fun i high => ?_
    by_cases inside : i < 16
    · have bit := congrArg (fun v => BitVec.getLsbD v i) clear
      simp only [BitVec.getLsbD_and, bits i inside, high, decide_true, Bool.and_true] at bit
      simpa [BitVec.getLsbD] using bit
    · exact Nat.testBit_lt_two_pow (lt_of_lt_of_le w.isLt (Nat.pow_le_pow_right (by decide) (by omega)))
  · intro low
    refine BitVec.eq_of_getLsbD_eq fun i inside => ?_
    rw [BitVec.getLsbD_and, bits i inside]
    by_cases high : 8 ≤ i
    · have off : w.toNat.testBit i = false :=
        Nat.testBit_lt_two_pow (lt_of_lt_of_le low (Nat.pow_le_pow_right (by decide) high : 2 ^ 8 ≤ 2 ^ i))
      simp [BitVec.getLsbD, off]
    · simp [high]

/-- The lowest four bits of a mask word are clear, of a severity word set. -/
theorem masks_iff (mask severity : Marks16) :
    ((mask &&& 0x000F == 0) = true ∧ (severity &&& 0x000F == 0x000F) = true) ↔
    ∀ k : FaultKind, (k = .configBad ∨ k = .duplicateStation ∨ k = .roleConflict ∨ k = .lineOff) →
      mask.getLsbD (faultCode k) = false ∧ severity.getLsbD (faultCode k) = true := by
  have bits : ∀ i, i < 16 → (0x000F : Marks16).getLsbD i = decide (i < 4) := by decide
  have low : ∀ i, i < 4 → ∃ k, (k = .configBad ∨ k = .duplicateStation ∨ k = .roleConflict ∨ k = .lineOff) ∧ faultCode k = i := by
    intro i h
    match i, h with
    | 0, _ => exact ⟨.configBad, by simp, rfl⟩
    | 1, _ => exact ⟨.duplicateStation, by simp, rfl⟩
    | 2, _ => exact ⟨.roleConflict, by simp, rfl⟩
    | 3, _ => exact ⟨.lineOff, by simp, rfl⟩
  rw [beq_iff_eq, beq_iff_eq]
  constructor
  · rintro ⟨clear, set⟩ k kinds
    have small : faultCode k < 4 := by rcases kinds with rfl | rfl | rfl | rfl <;> decide
    have clearBit := congrArg (fun v => BitVec.getLsbD v (faultCode k)) clear
    have setBit := congrArg (fun v => BitVec.getLsbD v (faultCode k)) set
    simp only [BitVec.getLsbD_and, bits _ (by omega : faultCode k < 16), small, decide_true, Bool.and_true] at clearBit setBit
    exact ⟨by simpa using clearBit, setBit⟩
  · intro all
    constructor <;> refine BitVec.eq_of_getLsbD_eq fun i inside => ?_ <;>
      rw [BitVec.getLsbD_and, bits i inside] <;> by_cases small : i < 4
    · obtain ⟨k, kinds, rfl⟩ := low i small
      simp [(all k kinds).1]
    · simp [small]
    · obtain ⟨k, kinds, rfl⟩ := low i small
      simp [(all k kinds).2, small]
    · simp [small]

theorem s32_eq (m : List Word) (i : Nat) :
    s32 m i = (u16 m i * 65536 + u16 m (i + 1) : Nat) - (if u16 m i < 32768 then (0 : Int) else 4294967296) := by
  have high : u16 m i < 65536 := (wordAt m i).isLt
  have low : u16 m (i + 1) < 65536 := (wordAt m (i + 1)).isLt
  have whole : (u16 m i * 65536 + u16 m (i + 1)) % 4294967296 = u16 m i * 65536 + u16 m (i + 1) := by omega
  simp only [s32, u32, BitVec.toInt_eq_toNat_cond, BitVec.toNat_ofNat, whole, Nat.reducePow]
  split <;> split <;> omega

/-! ## The ranges -/

theorem within_iff (lo hi v : Nat) : within lo hi v = true ↔ lo ≤ v ∧ v ≤ hi := by simp [within]

theorem commonInRange_iff (m : List Word) :
    commonInRange m = true ↔
      (1 ≤ (settingsOf m).lineRateCode ∧ (settingsOf m).lineRateCode ≤ 3) ∧
      (5 ≤ (settingsOf m).beaconPeriod ∧ (settingsOf m).beaconPeriod ≤ 200) ∧
      (2 ≤ (settingsOf m).stalenessLimit ∧ (settingsOf m).stalenessLimit ≤ 255) ∧
      (1 ≤ (settingsOf m).coastLimit ∧ (settingsOf m).coastLimit ≤ 50) ∧
      (10 ≤ (settingsOf m).startTimeout ∧ (settingsOf m).startTimeout ≤ 2000) ∧
      (-150000 ≤ (settingsOf m).toolOffset ∧ (settingsOf m).toolOffset ≤ 150000) ∧
      (∀ k : FaultKind, (k = .configBad ∨ k = .duplicateStation ∨ k = .roleConflict ∨ k = .lineOff) →
        (settingsOf m).mask.getLsbD (faultCode k) = false ∧ (settingsOf m).severity.getLsbD (faultCode k) = true) ∧
      (∀ k, 25 ≤ k → k ≤ 27 → u16 m k < 256) ∧ phaseInRange m = true := by
  have words : (∀ k, 25 ≤ k → k ≤ 27 → u16 m k < 256) ↔ u16 m 25 < 256 ∧ u16 m 26 < 256 ∧ u16 m 27 < 256 := by
    refine ⟨fun all => ⟨all 25 (by decide) (by decide), all 26 (by decide) (by decide), all 27 (by decide) (by decide)⟩,
      fun ⟨a, b, c⟩ k low high => ?_⟩
    obtain rfl | rfl | rfl : k = 25 ∨ k = 26 ∨ k = 27 := by omega
    exacts [a, b, c]
  rw [← masks_iff, words]
  simp only [commonInRange, Bool.and_eq_true, within_iff, decide_eq_true_eq, and_high_eq_zero, and_assoc]
  rfl

theorem roleInRange_iff (r : Role) (g : Settings) :
    roleInRange r g = true ↔
      (r = .travel →
        1 ≤ g.ratedSpeed ∧ g.ratedSpeed ≤ 5000 ∧ 1 ≤ g.acceleration ∧ g.acceleration ≤ 1000 ∧
        1 ≤ g.abortDecel ∧ g.abortDecel ≤ 1000 ∧ 1 ≤ g.umPerCount ∧ g.umPerCount ≤ 10 ∧
        g.homePosition ≤ 300000 ∧ 1 ≤ g.tachPulses ∧ g.tachPulses ≤ 1000) ∧
      (r = .power →
        1 ≤ g.stage ∧ g.stage ≤ 3 ∧ 1 ≤ g.ratedPower ∧ g.ratedPower ≤ 10000 ∧ 1 ≤ g.rampLimit ∧ g.rampLimit ≤ 1000) ∧
      (r = .quench →
        g.settleTime ≤ 10000 ∧ g.sprayLead ≤ 10000 ∧ g.soakTime ≤ 10000 ∧ 1 ≤ g.floodTime ∧ g.floodTime ≤ 60000) := by
  cases r <;> simp [roleInRange, within_iff, and_assoc, Config.maxPosition]

/-- CONFIG_BAD latched in an OFFLINE station drives ATTN. -/
theorem attn_of_configBad (off : t.cycle.state = .offline) (latched : t.isLatched .configBad = true) : t.attn = true := by
  simp [State.attn, off, latched]

theorem loadBad_cycle (off : t.cycle.state = .offline) : (loadBad t).cycle = t.cycle := by
  by_cases h : (t.setLoader { t.loader with status := .bad }).latchable .configBad = true
  · obtain ⟨mask, free⟩ := (latchable_iff _ _).1 h
    rw [loadBad_eq off mask free, latch_cycle]
    rfl
  · rw [loadBad, reportPlain, report_of_not (Bool.eq_false_iff.2 h)]
    rfl

theorem loadBad_latched (off : t.cycle.state = .offline) (mask : t.isMasked .configBad = false) :
    (loadBad t).isLatched .configBad = true := by
  cases free : t.isLatched .configBad
  · rw [loadBad_eq off mask free, latch_isLatched, decide_eq_true rfl, Bool.or_true]
  · have stands : (t.setLoader { t.loader with status := .bad }).latchable .configBad = false := by
      have latched : (t.setLoader { t.loader with status := .bad }).isLatched .configBad = true := free
      simp [State.latchable, latched]
    rw [loadBad, reportPlain, report_of_not stands]
    exact free

theorem isLatched_of_fault (h : t.fault = u.fault) (k : FaultKind) : t.isLatched k = u.isLatched k := by
  simp only [State.isLatched, h]

theorem onLine_of_offline (off : t.cycle.state = .offline) : t.onLine = false := by simp [State.onLine, off]

/-- The scheduler of a station that joins from power-on values. -/
theorem joined_sched (h : t.sched = Sched.powerOn) :
    ((markJoining t).setSched { (markJoining t).sched with beaconQ := some (joinFrame t) }).sched =
      { Sched.powerOn with
        beaconQ := some (joinFrame ((markJoining t).setSched { (markJoining t).sched with beaconQ := some (joinFrame t) })),
        joinTimer := some (t.settings.beaconPeriod * 100 * 20) } := by
  have joining : (markJoining t).sched = { t.sched with beaconTimer := none, joinTimer := some (t.settings.beaconPeriod * 100 * 20) } := rfl
  rw [joining, h]
  rfl

/-- The sum, the length and the ranges of an image that passes. -/
theorem imageGood_iff (r : Role) (m : List Word) :
    imageGood r m = true ↔ m.length = 64 ∧ (m.map (·.toNat)).sum % 65536 = 0 ∧ commonInRange m = true ∧
      roleInRange r (settingsOf m) = true := by
  simp only [imageGood, Bool.and_eq_true, beq_iff_eq, imageWords, imageSum, and_assoc]

/-- The memory map, field by field. -/
theorem settingsOf_polarity (m : List Word) :
    (settingsOf m).polarity.toNat = u16 m 25 % 256 ∧ (settingsOf m).groupA.toNat = u16 m 26 % 256 ∧
      (settingsOf m).groupB.toNat = u16 m 27 % 256 :=
  ⟨BitVec.toNat_setWidth .., BitVec.toNat_setWidth .., BitVec.toNat_setWidth ..⟩

/-- Settles O19: the outcome of the load, the memory map and the ranges. -/
theorem configurationLoadOutcome : Obligations.ConfigurationLoadOutcome := by
  intro ticks memory s r m u loading role
  refine ⟨fun good sched attempt => ?_, fun bad off mask => ?_, imageGood_short r, fun i => ⟨?_, ?_⟩⟩
  · refine ⟨_, load_good loading role good sched, rfl, rfl, rfl, ?_, rfl, rfl, rfl, rfl, rfl, rfl, rfl⟩
    exact joined_sched (advance_sched_powerOn ticks sched)
  · have off' : ((advance ticks s).setLoader { s.loader with image := memory.take 64 }).cycle.state = .offline := off
    have cycle := loadBad_cycle off'
    have state := (congrArg Cycle.state ((settled_cycle s _).trans cycle)).trans off'
    have latched := (isLatched_of_fault (settled_fault s _) .configBad).trans (loadBad_latched off' mask)
    refine ⟨_, load_bad loading role bad, ?_, state, ?_, latched, attn_of_configBad state latched, ?_⟩
    · simp [loadBad]
      rfl
    · simp [loadBad]
    · exact onLine_of_offline state
  · obtain ⟨polarity, groupA, groupB⟩ := settingsOf_polarity i
    exact ⟨rfl, rfl, rfl, rfl, rfl, s32_eq i 5, rfl, rfl, rfl, rfl, rfl, rfl, rfl, rfl, rfl, rfl, rfl, rfl, rfl, rfl, rfl, rfl,
      rfl, polarity, groupA, groupB, imagePhaseTable_length i, fun k inside given => imagePhaseTable_given_getElem? given inside,
      fun k inside dflt => by
        rw [← defaultPhaseTable_getElem? k inside, ← imagePhaseTable_of_default dflt]
        rfl⟩
  · rw [imageGood_iff, commonInRange_iff, roleInRange_iff, phaseInRange_iff]
    simp only [and_assoc]
    rfl

end Sys2Proof.Machine
end

section
/-! What every report keeps: a property that the writes of a report keep is kept by the report, by a frame handed to a queue and
by the report of its drop. -/

namespace Sys2Proof.Machine

variable {s t u : State} {P : State → Prop}

/-- The writes a report is made of, each keeping `P`: the scheduler, the line, the latch, and the entries to ABORTED and SILENT. -/
structure ReportKeeps (P : State → Prop) : Prop where
  sched : ∀ {t} v, P t → P (t.setSched v)
  line : ∀ {t} o, P t → P (t.setLine (t.line.begun o))
  latch : ∀ {t} r, t.latchable r.kind = true → P t → P (latch r t)
  aborted : ∀ {t} c, t.onLine = true → P t → P (enterAborted c t)
  silent : ∀ {t} k, t.onLine = true → P t → P (enterSilent k t)

theorem keeps_tryBegin (w : ReportKeeps P) (h : P t) : P (tryBegin t) := by
  rcases tryBegin_cases t with e | ⟨-, e⟩ <;> rw [e]
  · exact h
  · exact w.line _ (w.sched _ h)

theorem keeps_handAbort (w : ReportKeeps P) (f : Frame) (h : P t) : P (handAbort f t) := by
  unfold handAbort
  split
  · exact keeps_tryBegin w (w.sched _ h)
  · exact h

theorem keeps_placeReport (w : ReportKeeps P) (f : Frame) (h : P t) : P (placeReport f t) := by
  unfold placeReport
  split
  · exact h
  · split
    · exact keeps_tryBegin w (w.sched _ h)
    · exact w.sched _ h

theorem keeps_actOnFatal (w : ReportKeeps P) (k : FaultKind) (h : P t) : P (actOnFatal k t) := by
  by_cases on : t.onLine = true
  case neg => rwa [actOnFatal_offLine (Bool.eq_false_iff.2 on)]
  case pos =>
    rcases actOnFatal_cases k t with e | e | e | e <;> rw [e]
    · exact h
    · exact w.silent k on h
    · exact w.aborted _ on h
    · exact keeps_handAbort w _ (w.aborted _ on h)

theorem keeps_tellCycle (w : ReportKeeps P) (k : FaultKind) (h : P t) : P (tellCycle k t) := by
  unfold tellCycle
  split
  · exact keeps_actOnFatal w k h
  · exact h

theorem keeps_reportOverflow (w : ReportKeeps P) (c : Captured) (h : P t) : P (reportOverflow c t) := by
  unfold reportOverflow
  split
  · exact keeps_tellCycle w _ (keeps_placeReport w _ (w.latch _ ‹_› h))
  · exact h

theorem keeps_takeReport (w : ReportKeeps P) (r : Report) (free : t.latchable r.kind = true) (h : P t) : P (takeReport r t) :=
  keeps_tellCycle w _ (keeps_placeReport w _ (w.latch _ free h))

theorem keeps_report (w : ReportKeeps P) (r : Report) (h : P t) : P (report r t) := by
  unfold report
  split
  · split
    · exact keeps_reportOverflow w _ (keeps_takeReport w r ‹_› h)
    · exact keeps_takeReport w r ‹_› h
  · exact h

theorem keeps_handReport (w : ReportKeeps P) (f : Frame) (h : P t) : P (handReport f t) := by
  unfold handReport
  split
  · exact keeps_reportOverflow w _ (keeps_placeReport w _ h)
  · exact keeps_placeReport w _ h

theorem keeps_handSlice (w : ReportKeeps P) (f : Frame) (h : P t) : P (handSlice f t) := by
  rcases handSlice_cases f t with ⟨-, e⟩ | ⟨-, e⟩ | ⟨-, e⟩ <;> rw [e]
  · exact h
  · exact keeps_tryBegin w (w.sched _ h)
  · exact keeps_reportOverflow w _ (w.sched _ h)

/-! ## Latches and masks -/

theorem isMasked_of_settings (e : t.settings = u.settings) (k : FaultKind) : t.isMasked k = u.isMasked k := by
  simp only [State.isMasked, e]

theorem enterAborted_isLatched (c : AbortCause) (k : FaultKind) (t : State) : (enterAborted c t).isLatched k = t.isLatched k := by
  simp only [State.isLatched, enterAborted_fault]

theorem enterSilent_isLatched (f k : FaultKind) (t : State) : (enterSilent f t).isLatched k = t.isLatched k := by
  obtain ⟨cause, fault⟩ := enterSilent_fault f t
  simp only [State.isLatched, fault]

/-- A report clears no latch. -/
theorem reportKeeps_latched (k : FaultKind) : ReportKeeps fun t => t.isLatched k = true where
  sched _ h := h
  line _ h := h
  latch r _ h := by rw [latch_isLatched, h, Bool.true_or]
  aborted c _ h := by rw [enterAborted_isLatched]; exact h
  silent f _ h := by rw [enterSilent_isLatched]; exact h

/-- A report of a kind that is not masked leaves its latch set. -/
theorem report_latched {r : Report} (mask : t.isMasked r.kind = false) : (report r t).isLatched r.kind = true := by
  have keeps := reportKeeps_latched r.kind
  cases latched : t.isLatched r.kind
  case true => exact keeps_report keeps r latched
  case false =>
    have free : t.latchable r.kind = true := (latchable_iff _ _).2 ⟨mask, latched⟩
    have set : (latch r t).isLatched r.kind = true := by rw [latch_isLatched, decide_eq_true rfl, Bool.or_true]
    have taken : (takeReport r t).isLatched r.kind = true := keeps_tellCycle keeps _ (keeps_placeReport keeps _ set)
    rw [report_of free]
    split
    · exact keeps_reportOverflow keeps _ taken
    · exact taken

theorem reportPlain_latched {k : FaultKind} (mask : t.isMasked k = false) : (reportPlain k t).isLatched k = true :=
  report_latched (r := ⟨k, none, none⟩) mask

theorem settled_isLatched (old : State) (k : FaultKind) : (settled old t).isLatched k = t.isLatched k :=
  isLatched_of_fault (settled_fault old t) k

/-- A refresh marks drop latches as carried and changes no level and no latch. -/
theorem settled_interlock (old : State) : ∃ carried, (settled old t).interlock = { t.interlock with carried := carried } := by
  unfold settled
  split
  · exact ⟨_, rfl⟩
  · unfold refreshBeacon
    dsimp only
    split
    · exact ⟨_, rfl⟩
    · exact ⟨_, rfl⟩

theorem settled_drop (old : State) : (settled old t).interlock.drop = t.interlock.drop := by
  obtain ⟨carried, e⟩ := settled_interlock (t := t) old
  rw [e]

/-! ## Power at rest -/

/-- The power command is 0, and the word that says so is the last sent. -/
def PowerZeroed (t : State) : Prop := t.power.command = 0 ∧ t.power.setpoint = some 0

theorem powerZeroed_same (h : PowerZeroed t) (e : u.power = t.power) : PowerZeroed u := by rwa [PowerZeroed, e]

theorem zeroPower_eq_of_runs (runs : t.runs .power = true) : zeroPower t = t.setPower t.power.zeroed := if_pos runs

theorem zeroPower_of_not (rests : t.runs .power = false) : zeroPower t = t := by simp [zeroPower, rests]

theorem powerZeroed_zeroPower (runs : t.runs .power = true) : PowerZeroed (zeroPower t) := by
  rw [zeroPower_eq_of_runs runs]
  exact ⟨rfl, rfl⟩

theorem powerZeroed_kept (h : PowerZeroed t) : PowerZeroed (zeroPower t) := by
  unfold zeroPower
  split
  · exact ⟨rfl, rfl⟩
  · exact h

theorem powerZeroed_abortFromCycle (h : PowerZeroed t) : PowerZeroed (abortFromCycle t) := by
  have off : PowerZeroed (zeroPower (t.setPower t.power.abandon)) := powerZeroed_kept h
  exact powerZeroed_same off (by simp [abortFromCycle])

theorem reportKeeps_powerZeroed : ReportKeeps PowerZeroed where
  sched _ h := h
  line _ h := h
  latch _ _ h := h
  aborted c _ h := by
    unfold enterAborted
    split
    · exact powerZeroed_abortFromCycle h
    · exact h
  silent k _ h := by
    unfold enterSilent
    split
    · exact powerZeroed_abortFromCycle h
    · split <;> exact h

end Sys2Proof.Machine
end

section
/-! The Position Tracker's commands (O20, O21, O22, O25). -/

namespace Sys2Proof.Machine

variable {s t u : State}

/-- A command that leaves cycle and store as time does answers the state it made. -/
theorem next_settled {n : Nat} {w : State} (same : t = w) (cycle : t.cycle = (advance n s).cycle) (store : t.store = s.store) :
    (Host.Outcome.next (settled s t) : Host.Outcome State Fault Refusal) = .next w := by
  rw [settled_eq cycle store, same]

/-! ## O20: encoder edges and the home capture -/

theorem moveAtHome_none {v : Travel} (home : Nat) (rest : v.move = none) : moveAtHome home v = v := by
  simp [moveAtHome, rest]

/-- The home position lies past a target that lay ahead. -/
theorem passed_iff (m : Move) (d : Dir) (home : Nat) :
    (m.ahead && !aheadOf d home m.target) = true ↔
      m.ahead = true ∧ ((d = .up ∧ m.target ≤ home) ∨ (d = .down ∧ home ≤ m.target)) := by
  cases d <;> simp [aheadOf]

theorem moveAtHome_some {v : Travel} {m : Move} (home : Nat) (move : v.move = some m) :
    moveAtHome home v =
      if home = m.target ∨ (m.ahead && !aheadOf v.dir home m.target) = true then { v.stop with move := none } else v := by
  simp only [moveAtHome, move]

/-- Settles O20. -/
theorem encoderAndHome : Obligations.EncoderAndHome := by
  intro ticks rising encB s u levels change
  have edge : exec (.encoderEdge ticks rising encB) s =
      .next (settled s (if levels.runs .travel then levels.setTracker (countEdge rising encB u.tracker) else levels)) := rfl
  have home : exec (.homeCapture ticks) s =
      .next (settled s (if u.role = some .travel ∧ u.cycle.state = .idle then captureHome u else u)) := rfl
  refine ⟨fun role on => ?_, fun off => ?_, fun role idle => ?_, fun off => ?_⟩
  · have runs : levels.runs .travel = true := (runs_iff _ _).2 ⟨role, on⟩
    have step : edgeStep rising encB = change := by simp [edgeStep, change]
    rw [edge, if_pos runs, countEdge, step]
    exact next_settled (n := ticks) rfl rfl rfl
  · have rests : ¬ levels.runs .travel = true := fun runs => by
      obtain ⟨role, on⟩ := (runs_iff _ _).1 runs
      exact off.elim (fun other => other role) on
    rw [edge, if_neg rests]
    exact next_settled (n := ticks) rfl rfl rfl
  · intro captured
    have capture : exec (.homeCapture ticks) s = .next (captured.setTravel (moveAtHome s.settings.homePosition u.travel)) := by
      rw [home, if_pos ⟨role, idle⟩]
      exact next_settled (n := ticks) rfl rfl rfl
    refine ⟨fun rest => ?_, fun m move => ?_⟩
    · rw [capture, moveAtHome_none (v := u.travel) _ rest]
      rfl
    intro homeAt passed
    refine ⟨fun ends => ?_, fun goes => ?_⟩
    · have ended : moveAtHome s.settings.homePosition u.travel = { u.travel.stop with move := none } :=
        (moveAtHome_some (v := u.travel) _ move).trans (if_pos (ends.imp id (passed_iff m _ _).2))
      rw [capture, ended]
      rfl
    · have stands : moveAtHome s.settings.homePosition u.travel = u.travel :=
        (moveAtHome_some (v := u.travel) _ move).trans (if_neg fun ends => goes (ends.imp id (passed_iff m _ _).1))
      rw [capture, stands]
      rfl
  · have rests : ¬ (u.role = some .travel ∧ u.cycle.state = .idle) := fun ⟨role, idle⟩ =>
      off.elim (fun other => other role) fun busy => busy idle
    rw [home, if_neg rests]
    exact congrArg Host.Outcome.next (settled_advance ticks s)

/-! ## O21: a position update of the carriage -/

/-- The tracker after a position update of a TRAVEL station. -/
theorem positionUpdate_of_travel (role : s.role = some .travel) (on : s.cycle.state ≠ .offline) :
    positionUpdate s =
      (publish (computeRaw (recordPeriod s))).setTracker
        { (publish (computeRaw (recordPeriod s))).tracker with seedDue := false } := by
  have still : updateTool (publish (computeRaw (recordPeriod s))) = publish (computeRaw (recordPeriod s)) := by
    refine updateTool_of_travel ?_
    rw [publish_role, computeRaw, if_pos (show (recordPeriod s).role = some .travel from role)]
    exact role
  rw [positionUpdate, if_neg on, if_pos role]
  show (updateTool (publish (computeRaw (recordPeriod s)))).setTracker
    { (updateTool (publish (computeRaw (recordPeriod s)))).tracker with seedDue := false } = _
  rw [still]

theorem computeRaw_of_travel (role : s.role = some .travel) :
    computeRaw s = s.setTracker { s.tracker with
      raw := clampPosition (carriagePosition s.settings s.tracker.count)
      outOfRange := outOfRange (carriagePosition s.settings s.tracker.count) } := if_pos role

theorem clampPosition_eq (z : Int) : clampPosition z = if z < 0 then 0 else if 300000 < z then 300000 else z.toNat := by
  simp only [clampPosition, Config.maxPosition]
  split <;> [skip; split] <;> omega

theorem outOfRange_iff (z : Int) : outOfRange z = true ↔ z < 0 ∨ 300000 < z := by
  have limit : ((Config.maxPosition : Nat) : Int) = 300000 := rfl
  simp only [outOfRange, limit, Bool.or_eq_true, decide_eq_true_eq]

/-- Settles O21. -/
theorem travelPositionUpdate : Obligations.TravelPositionUpdate := by
  intro ticks s role on z window gained
  have role' : (recordPeriod (advance ticks s)).role = some .travel := role
  have updated := positionUpdate_of_travel (s := advance ticks s) role on
  rw [computeRaw_of_travel role'] at updated
  refine ⟨positionUpdate (advance ticks s), ?_, ?_⟩
  · refine congrArg Host.Outcome.next (settled_eq (n := ticks) ?_ ?_) <;> rw [updated] <;> rfl
  · rw [updated]
    refine ⟨rfl, clampPosition_eq z, outOfRange_iff z, rfl, rfl, ?_, rfl, rfl, rfl, rfl, rfl⟩
    show measuredSpeed s.direction s.settings.umPerCount window = _
    have same : measuredSpeed s.direction s.settings.umPerCount window = min 5000 (gained.toNat * s.settings.umPerCount * 10) := by
      simp only [measuredSpeed, gained]
      cases s.direction <;> rfl
    exact same

/-! ## O22: a position update of the tool -/

theorem role_ne_travel_of_tool (role : s.role = some .power ∨ s.role = some .quench) : s.role ≠ some .travel := by
  rcases role with e | e <;> simp [e]

/-- The state in which the tool's part of the update begins: the estimate is published. -/
def reckonedState (s : State) : State := publish (s.setTracker { s.tracker with raw := reckoned s })

/-- A position update of a station with a tool. -/
theorem positionUpdate_of_tool (role : s.role ≠ some .travel) (on : s.cycle.state ≠ .offline) :
    positionUpdate s =
      (zeroOutside s.tracker.zone (toolMoved (reckonedState s))).setTracker
        { (toolMoved (reckonedState s)).tracker with seedDue := false } := by
  have raw : computeRaw s = s.setTracker { s.tracker with raw := reckoned s } := if_neg role
  have moved : updateTool (reckonedState s) = zeroOutside s.tracker.zone (toolMoved (reckonedState s)) :=
    updateTool_of_tool role
  have whole : positionUpdate s =
      (updateTool (publish (computeRaw s))).setTracker { (updateTool (publish (computeRaw s))).tracker with seedDue := false } := by
    rw [positionUpdate, if_neg on, if_neg role]
  rw [whole, raw]
  show (updateTool (reckonedState s)).setTracker { (updateTool (reckonedState s)).tracker with seedDue := false } = _
  rw [moved, zeroOutside_tracker]

/-- The zone after the tool has moved. -/
def movedZone (s : State) : Zone :=
  newZone (s.setTracker { s.tracker with tool := toolPosition s.tracker.estimate s.settings.toolOffset })

/-- The crossing record the update leaves. -/
def movedCrossing (s : State) : Option Crossing :=
  if holdApplies s then crossingOf s.tracker.sliceCount s.tracker.zone (movedZone s) else none

theorem toolMoved_tracker_eq (s : State) :
    (toolMoved s).tracker = { s.tracker with
      tool := toolPosition s.tracker.estimate s.settings.toolOffset, zone := movedZone s, crossing := movedCrossing s } := by
  rw [toolMoved, seedCurrentSlice_tracker, updateZone_tracker]
  rfl

theorem toolMoved_power_of_power (role : s.role = some .power) :
    (toolMoved s).power = { s.power with
      inbox := s.power.inbox ++ (movedCrossing s).toList
      current := if s.inCycle = true ∧ s.tracker.seedDue = true then (movedZone s).slice else s.power.current } := by
  have zoned : updateZone (s.setTracker { s.tracker with tool := toolPosition s.tracker.estimate s.settings.toolOffset }) =
      (s.setTracker (toolMoved s).tracker).setPower { s.power with inbox := s.power.inbox ++ (movedCrossing s).toList } := by
    rw [toolMoved_tracker_eq]
    exact if_pos role
  have power : (s.role == some Role.power) = true := by rw [role]; rfl
  rw [toolMoved, zoned, seedCurrentSlice]
  by_cases seeds : s.inCycle = true ∧ s.tracker.seedDue = true
  · have due : (toolMoved s).tracker.seedDue = true := by rw [toolMoved_tracker_eq]; exact seeds.2
    have zone : (toolMoved s).tracker.zone = movedZone s := by rw [toolMoved_tracker_eq]
    rw [if_pos seeds, if_pos (by simpa using ⟨⟨seeds.1, due⟩, role⟩), ← zone]
    rfl
  · rw [if_neg seeds, if_neg]
    · rfl
    · have due : (toolMoved s).tracker.seedDue = s.tracker.seedDue := by rw [toolMoved_tracker_eq]
      simp only [Bool.and_eq_true]
      exact fun ⟨both, _⟩ => seeds ⟨both.1, due ▸ both.2⟩

theorem toolMoved_power_of_quench (role : s.role = some .quench) : (toolMoved s).power = s.power := by
  have still : s.role ≠ some .power := by simp [role]
  have zoned : updateZone (s.setTracker { s.tracker with tool := toolPosition s.tracker.estimate s.settings.toolOffset }) =
      s.setTracker (toolMoved s).tracker := by
    rw [toolMoved_tracker_eq]
    exact if_neg still
  rw [toolMoved, zoned, seedCurrentSlice, if_neg]
  · rfl
  · simp [role]

/-- What the zone test does to power: zeroed where the zone turned to one other than INSIDE. -/
theorem zeroOutside_power_of_power {was : Zone} (role : s.role = some .power) (on : s.cycle.state ≠ .offline) :
    (zeroOutside was s).power =
      if s.tracker.zone ≠ was ∧ s.tracker.zone.isInside = false then s.power.zeroed else s.power := by
  unfold zeroOutside
  split
  · rw [zeroPower_eq_of_runs ((runs_iff _ _).2 ⟨role, on⟩)]
    rfl
  · rfl

theorem zeroOutside_of_quench {was : Zone} (role : s.role = some .quench) : zeroOutside was s = s := by
  have rests : s.runs .power = false := Bool.eq_false_iff.2 fun runs => by simp [((runs_iff _ _).1 runs).1] at role
  unfold zeroOutside
  rw [zeroPower_of_not rests, ite_self]

theorem reckoned_eq {b : TravelBeacon} (last : s.tracker.last = some b) (inside : b.position ≤ 300000) :
    reckoned s = clampPosition (if s.direction = .up then b.position + (b.speed * reckonedTime s b / 1000000 : Nat)
      else b.position - (b.speed * reckonedTime s b / 1000000 : Nat)) := by
  simp only [reckoned, last, clampPosition, Config.maxPosition]
  cases s.direction
  · simp only [if_pos]
    omega
  · simp only [reduceCtorEq, if_false]
    omega

/-- A state that differs from `s` in tracker and power alone. -/
theorem eq_of_writes_tracker_power (w : Writes [.tracker, .power] s t) : t = (s.setTracker t.tracker).setPower t.power := by
  obtain ⟨pending, blocks⟩ := w
  have clock : t.clock = s.clock := blocks .clock (by decide)
  have pins : t.pins = s.pins := blocks .pins (by decide)
  have loader : t.loader = s.loader := blocks .loader (by decide)
  have settings : t.settings = s.settings := blocks .settings (by decide)
  have cycle : t.cycle = s.cycle := blocks .cycle (by decide)
  have store : t.store = s.store := blocks .store (by decide)
  have travel : t.travel = s.travel := blocks .travel (by decide)
  have quench : t.quench = s.quench := blocks .quench (by decide)
  have peers : t.peers = s.peers := blocks .peers (by decide)
  have sched : t.sched = s.sched := blocks .sched (by decide)
  have line : t.line = s.line := blocks .line (by decide)
  have fault : t.fault = s.fault := blocks .fault (by decide)
  have interlock : t.interlock = s.interlock := blocks .interlock (by decide)
  have freeDraws : t.freeDraws = s.freeDraws := blocks .freeDraws (by decide)
  obtain ⟨⟩ := t
  simp only at *
  subst pending clock pins loader settings cycle store travel quench peers sched line fault interlock freeDraws
  rfl

/-- POSITION_UPDATE answers the position update made when its time has passed. -/
theorem exec_positionUpdate_eq (ticks : Nat) (s : State) :
    exec (.positionUpdate ticks) s = .next (positionUpdate (advance ticks s)) := by
  have w := writes_positionUpdate (advance ticks s)
  exact congrArg Host.Outcome.next (settled_eq (n := ticks) (w.2 .cycle (by decide)) (w.2 .store (by decide)))

/-- Settles O22. -/
theorem toolPositionUpdate : Obligations.ToolPositionUpdate := by
  intro ticks s u
  refine ⟨fun off => ?_, fun role on => ?_⟩
  · rw [exec_positionUpdate_eq]
    exact congrArg Host.Outcome.next (if_pos off)
  have tool : u.role ≠ some .travel := role_ne_travel_of_tool (s := u) role
  have updated := positionUpdate_of_tool (s := u) tool on
  have moved : (toolMoved (reckonedState u)).role = u.role := role_of_loader ((writes_toolMoved _).2 .loader (by decide))
  have onMoved : (toolMoved (reckonedState u)).cycle.state ≠ .offline := by
    rw [show (toolMoved (reckonedState u)).cycle = u.cycle from (writes_toolMoved _).2 .cycle (by decide)]
    exact on
  have tracker : (positionUpdate u).tracker = { (toolMoved (reckonedState u)).tracker with seedDue := false } := by rw [updated]; rfl
  have power : (positionUpdate u).power = (zeroOutside s.tracker.zone (toolMoved (reckonedState u))).power := by rw [updated]; rfl
  rw [toolMoved_tracker_eq] at tracker
  have zone : (positionUpdate u).tracker.zone = (toolMoved (reckonedState u)).tracker.zone := by rw [tracker, toolMoved_tracker_eq]
  have zoneMoved : (positionUpdate u).tracker.zone = movedZone (reckonedState u) := by rw [tracker]
  have crossing : (positionUpdate u).tracker.crossing = movedCrossing (reckonedState u) := by rw [tracker]
  have quench (role : s.role = some .quench) : (positionUpdate u).power = s.power := by
    rw [power, zeroOutside_of_quench (moved.trans role)]
    exact toolMoved_power_of_quench role
  have heated (role : s.role = some .power) : (positionUpdate u).power =
      if (positionUpdate u).tracker.zone ≠ s.tracker.zone ∧ (positionUpdate u).tracker.zone.isInside = false
      then (toolMoved (reckonedState u)).power.zeroed else (toolMoved (reckonedState u)).power := by
    rw [power, zone]
    exact zeroOutside_power_of_power (moved.trans role) onMoved
  refine ⟨positionUpdate u, exec_positionUpdate_eq ticks s, eq_of_writes_tracker_power (writes_positionUpdate u), quench,
    fun never => ?_, fun b last inside => ?_, ?_, by rw [tracker], by rw [tracker]; rfl, by rw [tracker]; rfl, by rw [tracker]; rfl,
    by rw [tracker]; rfl, fun free => ?_, fun cycle seeded => ⟨?_, fun role => ?_⟩, fun role cycle due => ?_,
    fun role changed outside => ?_, fun stands => ?_⟩
  · rw [tracker]
    have zero : reckoned u = 0 := by
      rw [reckoned, show u.tracker.last = none from never]
    exact zero
  · rw [tracker]
    exact reckoned_eq (s := u) last inside
  · rw [tracker]
    rfl
  · rw [crossing, movedCrossing, if_neg]
    exact fun holds => by
      obtain ⟨cycle, seeded⟩ := (holdApplies_iff u).1 holds
      rcases free with e | e
      · exact Bool.false_ne_true (e.symm.trans cycle)
      · exact Bool.false_ne_true (seeded.symm.trans e)
  · rw [crossing, zoneMoved, movedCrossing, if_pos ((holdApplies_iff (reckonedState u)).2 ⟨cycle, seeded⟩)]
    rfl
  · rw [heated role, crossing, toolMoved_power_of_power (s := reckonedState u) role]
    split <;> rfl
  · rw [heated role, zoneMoved, toolMoved_power_of_power (s := reckonedState u) role, 
      if_pos (⟨cycle, due⟩ : (reckonedState u).inCycle = true ∧ (reckonedState u).tracker.seedDue = true)]
    cases movedZone (reckonedState u) <;> split <;> rfl
  · rw [heated role, if_pos ⟨changed, outside⟩, toolMoved_power_of_power (s := reckonedState u) role]
    exact ⟨rfl, rfl, rfl⟩
  · rcases role with role | role
    · have kept : ¬ ((positionUpdate u).tracker.zone ≠ s.tracker.zone ∧ (positionUpdate u).tracker.zone.isInside = false) :=
        fun ⟨changed, outside⟩ => stands.elim changed fun inside => Bool.false_ne_true (outside.symm.trans inside)
      rw [heated role, if_neg kept, toolMoved_power_of_power (s := reckonedState u) role]
      exact ⟨rfl, rfl⟩
    · rw [quench role]
      exact ⟨rfl, rfl⟩

/-! ## O25: the coast limit runs out -/

/-- Settles O25. -/
theorem coastExpiry : Obligations.CoastExpiry := by
  intro ticks s u
  have expiry : exec (.coastTimerExpiry ticks) s =
      .next (settled s (if Timer.due u.tracker.coastTimer then coastExpires u else u)) := rfl
  refine ⟨fun due on => ?_, fun early => ?_⟩
  · let v := zeroPower (u.setTracker { u.tracker with coastTimer := none, coastExpired := true })
    have tracker : v.tracker = { u.tracker with coastTimer := none, coastExpired := true } := zeroPower_tracker _
    have zeroed (role : s.role = some .power) : PowerZeroed v := powerZeroed_zeroPower ((runs_iff _ _).2 ⟨role, on⟩)
    have w : Writes [.power] _ v := writes_zeroPower _
    have vCycle : v.cycle = u.cycle := w.2 .cycle (by decide)
    have vSettings : v.settings = s.settings := w.2 .settings (by decide)
    have vStore : v.store = s.store := w.2 .store (by decide)
    have vPeers : v.peers = u.peers := w.2 .peers (by decide)
    have vFault : v.fault = s.fault := w.2 .fault (by decide)
    have vInterlock : v.interlock = s.interlock := w.2 .interlock (by decide)
    have cycle : v.inCycle = s.inCycle := congrArg (fun c => c.state.inCycle) vCycle
    have mild : coastExpires u = if v.inCycle then report ⟨.coastExpired, v.tracker.tracked, none⟩ v else v := rfl
    have kept : (coastExpires u).tracker = v.tracker ∧ (coastExpires u).settings = v.settings ∧ (coastExpires u).store = v.store ∧
        (coastExpires u).peers = v.peers ∧ (coastExpires u).interlock = v.interlock := by
      rw [mild]
      split <;> simp
    obtain ⟨keptTracker, settings, store, peers, interlock⟩ := kept
    have now : (settled s (coastExpires u)).tracker = { u.tracker with coastTimer := none, coastExpired := true } := by
      rw [settled_tracker, keptTracker, tracker]
    refine ⟨settled s (coastExpires u), ?_, now, ?_, fun role => ?_, fun inCycle mask => ?_, fun rest => ?_, ?_, ?_, ?_, ?_⟩
    · rw [expiry, if_pos (by simp [Timer.due, due])]
    · rw [State.speedInUse, now]
      split <;> rfl
    · refine powerZeroed_same ?_ (settled_power s (coastExpires u))
      rw [mild]
      split
      · exact keeps_report reportKeeps_powerZeroed _ (zeroed role)
      · exact zeroed role
    · rw [settled_isLatched, mild, if_pos (cycle.trans inCycle)]
      refine report_latched ?_
      exact (isMasked_of_settings vSettings .coastExpired).trans mask
    · rw [settled_fault, settled_cycle, mild, if_neg (by simp [cycle, rest])]
      exact ⟨vFault, vCycle⟩
    · rw [settled_settings, settings, vSettings]
    · rw [settled_store, store, vStore]
    · rw [settled_peers, peers, vPeers]
    · rw [settled_drop, interlock, vInterlock]
  · rw [expiry, if_neg (by simpa [Timer.due] using early)]
    exact congrArg Host.Outcome.next (settled_advance ticks s)

end Sys2Proof.Machine
end

section
/-! What a profile copy gives at a position (file 02, section 2.8). -/

namespace Sys2Proof.Machine

variable {a : ActiveCopy} {pos k : Nat} {g b : Segment}

theorem findSegment_of_holds (h : Holds a pos k g) : findSegment a pos = some k := by
  obtain ⟨here, start, stop, first⟩ := h
  obtain ⟨inside, rfl⟩ := List.getElem?_eq_some_iff.1 here
  rw [findSegment, List.findIdx?_eq_some_iff_getElem]
  refine ⟨inside, by simp [start, stop], fun j before => ?_⟩
  have mem : a.segments[j] ∈ a.segments.take k := List.mem_take_iff_getElem.2 ⟨j, by omega, rfl⟩
  have free := first _ mem
  simpa using free

theorem findSegment_of_gap (gap : ∀ g ∈ a.segments, ¬ (g.start ≤ pos ∧ pos < g.stop)) : findSegment a pos = none := by
  rw [findSegment, List.findIdx?_eq_none_iff]
  intro g mem
  simpa using gap g mem

theorem entryNeighbour_eq_some_iff : entryNeighbour a k g = some b ↔ Abuts a k g b := by
  unfold entryNeighbour Abuts
  cases a.header.direction
  case down => simp [Option.filter_eq_some_iff]
  case up =>
    by_cases first : k = 0
    · simp [first]
    · simp [first, Option.filter_eq_some_iff, Nat.pos_of_ne_zero first]

theorem entryNeighbour_eq_none (alone : ∀ b, ¬ Abuts a k g b) : entryNeighbour a k g = none :=
  Option.eq_none_iff_forall_ne_some.2 fun b found => alone b (entryNeighbour_eq_some_iff.1 found)

theorem entryDistance_eq (d : Dir) (g : Segment) (pos : Nat) :
    entryDistance d g pos = if d = .up then pos - g.start else g.stop - 1 - pos := by
  cases d <;> rfl

/-- A blend between two values stays at or above 0. -/
theorem blend_nonneg (prev this : Nat) {d b : Nat} (inside : d < b) : 0 ≤ (prev : Int) + (((this : Int) - prev) * d).tdiv b := by
  by_cases rises : prev ≤ this
  · have : 0 ≤ (((this : Int) - prev) * d).tdiv b := Int.tdiv_nonneg (Int.mul_nonneg (by omega) (by omega)) (by omega)
    omega
  · obtain ⟨fall, rfl⟩ := Nat.exists_eq_add_of_le (Nat.le_of_not_le rises)
    have share : fall * d / b ≤ fall := Nat.div_le_of_le_mul (by
      rw [Nat.mul_comm b]
      exact Nat.mul_le_mul_left fall inside.le)
    have scaled : (((this : Int) - (this + fall : Nat)) * d).tdiv b = -((fall * d / b : Nat) : Int) := by
      rw [show ((this : Int) - (this + fall : Nat)) * d = -((fall * d : Nat) : Int) by push_cast; ring, Int.neg_tdiv,
        Int.ofNat_tdiv]
    rw [scaled]
    omega

theorem blended_blendIn (a : ActiveCopy) (g : Segment) (pos prev this : Nat) :
    Blended a g pos prev this (blendIn prev this (entryDistance a.header.direction g pos) g.blend) := by
  rw [entryDistance_eq]
  unfold Blended
  intro d
  refine ⟨fun beyond => ?_, fun inside => ?_⟩
  · exact if_neg fun ⟨_, lt⟩ => absurd lt (Nat.not_lt.2 beyond)
  · have blends : blendIn prev this d g.blend = ((prev : Int) + (((this : Int) - prev) * d).tdiv g.blend).toNat :=
      if_pos ⟨by omega, inside⟩
    rw [blends]
    exact Int.toNat_of_nonneg (blend_nonneg prev this inside)

theorem energyIn_of_gap (gap : ∀ g ∈ a.segments, ¬ (g.start ≤ pos ∧ pos < g.stop)) : energyIn a pos = 0 := by
  simp only [energyIn, findSegment_of_gap gap]

/-- With heat enable off there is no energy. -/
theorem energyIn_of_cold (h : Holds a pos k g) (cold : ∀ e, g.fields ≠ .power true e) : energyIn a pos = 0 := by
  simp only [energyIn, findSegment_of_holds h, h.1]

theorem energyIn_of_heat {e : Nat} (h : Holds a pos k g) (heat : g.fields = .power true e) :
    energyIn a pos =
      blendIn (((entryNeighbour a k g).map heatOf).getD 0) e (entryDistance a.header.direction g pos) g.blend := by
  simp only [energyIn, findSegment_of_holds h, h.1, heat]

theorem heatOf_of_heat {e : Nat} (heat : g.fields = .power true e) : heatOf g = e := by
  simp only [heatOf, heat]

theorem heatOf_of_cold (cold : ∀ e, g.fields ≠ .power true e) : heatOf g = 0 := by
  unfold heatOf
  split
  · exact absurd ‹_› (cold _)
  · rfl

/-- Energy is blended in from the neighbour's, and from 0 where the neighbour asks for none. -/
theorem energyIn_blended {e : Nat} (h : Holds a pos k g) (heat : g.fields = .power true e) :
    (∀ b prev, Abuts a k g b → b.fields = .power true prev → Blended a g pos prev e (energyIn a pos)) ∧
    ((∀ b prev, Abuts a k g b → b.fields ≠ .power true prev) → Blended a g pos 0 e (energyIn a pos)) := by
  rw [energyIn_of_heat h heat]
  refine ⟨fun b prev abuts hot => ?_, fun cold => ?_⟩
  · rw [entryNeighbour_eq_some_iff.2 abuts, Option.map_some, Option.getD_some, heatOf_of_heat hot]
    exact blended_blendIn a g pos prev e
  · have none_ : ((entryNeighbour a k g).map heatOf).getD 0 = 0 := by
      cases found : entryNeighbour a k g with
      | none => rfl
      | some b => exact heatOf_of_cold (g := b) fun e => cold b e (entryNeighbour_eq_some_iff.1 found)
    rw [none_]
    exact blended_blendIn a g pos 0 e

theorem energyAtTool_eq (s : State) :
    s.energyAtTool = match s.store.active with | some a => energyIn a s.tracker.tool | none => 0 := by
  unfold State.energyAtTool
  cases s.store.active <;> rfl

/-! ## O27: the ceiling -/

/-- Settles O27. -/
theorem ceilingHoldsPowerWithinAvailable : Obligations.CeilingHoldsPowerWithinAvailable := by
  intro energy available speed within heat
  have ceiling : powerCeiling false true energy available = min 65535 (available * 10000 / energy) := by
    simp [powerCeiling, heat, Config.noLimit]
  rw [ceiling] at within
  have share : speed * energy ≤ available * 10000 :=
    (Nat.le_div_iff_mul_le (Nat.pos_of_ne_zero heat)).1 (le_trans within (Nat.min_le_right _ _))
  rw [Nat.mul_comm] at share
  refine ⟨?_, share⟩
  rw [powerFormula]
  omega

/-! ## O28: crossing records, shares and notices -/

theorem range'_eq_map_range (i n : Nat) : List.range' i n = (List.range n).map (i + ·) := List.range'_eq_map_range ..

theorem crossingOf_same (n : Nat) (z : Zone) : crossingOf n z z = none := by
  cases z <;> simp [crossingOf]

theorem sum_const_shares (share : Nat) (l : List Nat) : ((l.map fun i => (i, share)).map (·.2)).sum = l.length * share := by
  simp [List.map_map, Function.comp_def]

/-- A SLICE NOTICE as its receivers read it. -/
theorem noticeOf_sliceNoticeFrame (s : State) {slice energy : Nat} (sliceFits : slice < 65536) (energyFits : energy < 65536)
    (linkFits : ∀ l, s.power.link = some l → l < 65535) :
    noticeOf (sliceNoticeFrame s slice energy).words =
      { stage := s.settings.stage % 4, cycle := s.cycle.number % 256, slice := slice, previous := s.power.link, energy := energy } := by
  have stage : bitsOf (toWord (put 8 2 s.settings.stage + put 0 8 s.cycle.number)) 9 8 = s.settings.stage % 4 := by
    simp only [bitsOf_toWord, put]
    omega
  have cycle : bitsOf (toWord (put 8 2 s.settings.stage + put 0 8 s.cycle.number)) 7 0 = s.cycle.number % 256 := by
    simp only [bitsOf_toWord, put]
    omega
  have number : (toWord slice).toNat = slice := by rw [toNat_toWord, Nat.mod_eq_of_lt sliceFits]
  have amount : (toWord energy).toNat = energy := by rw [toNat_toWord, Nat.mod_eq_of_lt energyFits]
  have previous : (if (toWord (s.power.link.getD 65535)).toNat = 65535 then none
      else some (toWord (s.power.link.getD 65535)).toNat) = s.power.link := by
    cases link : s.power.link with
    | none => rfl
    | some l =>
      have fits := linkFits l link
      rw [Option.getD_some, toNat_toWord, Nat.mod_eq_of_lt (by omega), if_neg (by omega)]
  rw [← stage, ← cycle, ← previous]
  conv_rhs => rw [← number, ← amount]
  rfl

/-- Settles O28. -/
theorem crossingRecordsAndShares : Obligations.CrossingRecordsAndShares := by
  refine ⟨fun n i j => ⟨fun later => ?_, ?_, rfl, rfl, crossingOf_same n⟩, fun s slice energy => ?_, fun acc first rest => ?_⟩
  · simp only [crossingOf, if_pos later, List.range'_eq_map_range]
  · simp only [crossingOf, List.range'_eq_map_range]
  · intro f sliceFits energyFits linkFits
    exact ⟨rfl, rfl, rfl, rfl, noticeOf_sliceNoticeFrame s sliceFits energyFits linkFits⟩
  · intro shares
    have whole := Nat.div_add_mod acc (rest.length + 1)
    refine ⟨by simp [shares, sharesOf, Function.comp_def], ?_, rfl, fun p mem => ?_⟩
    · simp only [shares, sharesOf, List.map_cons, List.sum_cons, sum_const_shares, List.length_cons]
      rw [Nat.add_mul, Nat.one_mul] at whole
      omega
    · obtain ⟨i, -, rfl⟩ := List.mem_map.1 (show p ∈ rest.map _ from mem)
      rfl

end Sys2Proof.Machine
end

section
/-! A control step of the Power Engine (O26). -/

namespace Sys2Proof.Machine

variable {s t u w : State}

/-! ## The parts of the step -/

theorem closesSlices_iff (s : State) : s.closesSlices = true ↔ s.cycle.state = .starting ∨ s.cycle.state = .scanning := by
  simp [State.closesSlices]

/-- The accumulator after the sample is credited. -/
def creditedAcc (s : State) : Nat :=
  if (s.closesSlices && s.power.current.isSome) = true then satAdd Config.maxAccumulator s.power.acc s.power.feedback else s.power.acc

theorem creditSample_eq (s : State) : creditSample s = s.setPower { s.power with acc := creditedAcc s } := by
  unfold creditSample creditedAcc
  split <;> rfl

/-- The Power Engine after a step's values are computed. -/
def computedPower (s : State) : Power :=
  { s.power with
    acc := creditedAcc s
    energy := s.energyAtTool
    speed := carriageSpeed s
    available := availablePower s
    target := min (wantedPower s) s.settings.ratedPower
    clamped := decide (s.settings.ratedPower < wantedPower s)
    clampedSeen := s.power.clampedSeen || decide (s.settings.ratedPower < wantedPower s)
    command := rampPower s.settings.rampLimit (min (wantedPower s) s.settings.ratedPower) s.power.command
    ceiling := powerCeiling s.hold s.tracker.zone.isInside s.energyAtTool (availablePower s) }

theorem compute_credited (s : State) : computePower (creditSample s) = s.setPower (computedPower s) := by
  rw [creditSample_eq]
  rfl

/-- LIMIT is read. -/
def limitRead (limit : Bool) (s : State) : State := s.setPins { s.pins with limit := limit }

theorem powerStep_eq (limit : Bool) (s : State) :
    powerStep limit s =
      sendSetpoint (powerRoleEnd ((takeInbox (limitRead limit s)).setPower (computedPower (takeInbox (limitRead limit s))))) := by
  rw [powerStep, compute_credited]
  rfl

theorem exec_powerControlStep (ticks : Nat) (limit : Bool) (role : s.role = some .power) (on : s.cycle.state ≠ .offline) :
    exec (.powerControlStep ticks limit) s = .next (settled s (powerStep limit (advance ticks s))) := by
  have runs : (advance ticks s).runs .power = true := (runs_iff _ _).2 ⟨role, on⟩
  show settle s _ = _
  rw [if_pos runs, settle_next]

/-- With no record waiting there is none to take. -/
theorem takeInbox_of_empty (empty : s.power.inbox = []) : takeInbox s = s := by
  have same : s.setPower { s.power with inbox := [] } = s := by
    rw [← empty]
    rfl
  rw [takeInbox, empty, same]
  rfl

theorem wantedPower_of_cold (cold : heats s = false) : wantedPower s = 0 := by
  simp [wantedPower, cold]

theorem heats_of_past (past : s.tracker.zone = .past) : heats s = false := by
  simp [heats, past, Zone.isInside]

/-- With the coil PAST the step's command is 0. -/
theorem computedPower_command_of_past (past : s.tracker.zone = .past) : (computedPower s).command = 0 := by
  have target : min (wantedPower s) s.settings.ratedPower = 0 := by
    rw [wantedPower_of_cold (heats_of_past past), Nat.zero_min]
  simp [computedPower, target, rampPower]

/-! ## The role end -/

/-- The Power Engine is as `p` has it but for the open slice, the records and the last word. -/
def PowerStandsAs (p : Power) (t : State) : Prop :=
  ∃ current acc inbox setpoint sent,
    t.power = { p with current := current, acc := acc, inbox := inbox, setpoint := setpoint, sent := sent }

theorem powerStandsAs_same {p : Power} (h : PowerStandsAs p t) (e : u.power = t.power) : PowerStandsAs p u := by
  rwa [PowerStandsAs, e]

theorem powerStandsAs_zeroPower {p : Power} (off : p.command = 0) (h : PowerStandsAs p t) : PowerStandsAs p (zeroPower t) := by
  obtain ⟨current, acc, inbox, setpoint, sent, e⟩ := h
  unfold zeroPower
  split
  · refine ⟨current, acc, inbox, some 0, sent + 1, ?_⟩
    rw [State.setPower_power, e, ← off]
    simp only [Power.zeroed, off]
  · exact ⟨_, _, _, _, _, e⟩

theorem powerStandsAs_abandon {p : Power} (h : PowerStandsAs p t) : PowerStandsAs p (t.setPower t.power.abandon) := by
  obtain ⟨current, acc, inbox, setpoint, sent, e⟩ := h
  exact ⟨none, 0, [], setpoint, sent, by rw [State.setPower_power, e]; rfl⟩

theorem powerStandsAs_abortFromCycle {p : Power} (off : p.command = 0) (h : PowerStandsAs p t) :
    PowerStandsAs p (abortFromCycle t) :=
  powerStandsAs_same (powerStandsAs_zeroPower off (powerStandsAs_abandon h)) (by simp [abortFromCycle])

/-- A report leaves an engine whose command is 0 as it was, but for the open slice and the last word. -/
theorem reportKeeps_powerStandsAs {p : Power} (off : p.command = 0) : ReportKeeps (PowerStandsAs p) where
  sched _ h := h
  line _ h := h
  latch _ _ h := h
  aborted c _ h := by
    unfold enterAborted
    split
    · exact powerStandsAs_abortFromCycle off h
    · exact powerStandsAs_abandon h
  silent k _ h := by
    unfold enterSilent
    split
    · exact powerStandsAs_abortFromCycle off h
    · split
      · exact h
      · exact powerStandsAs_abandon h

/-- Entry to DONE before power and spindle are told. -/
def doneMarked (e : EndKind) (t : State) : State :=
  (t.setCycle { t.cycle with state := .done, endKind := some e }).setQuench { limitSpray .done t.quench with runout := false }

theorem markDone_eq (e : EndKind) (t : State) : markDone e t = beginSpindleHold (zeroPower (doneMarked e t)) := rfl

theorem markDone_power (e : EndKind) (t : State) :
    (markDone e t).power = if t.role = some .power then t.power.zeroed else t.power := by
  rw [markDone_eq, beginSpindleHold_power]
  by_cases role : t.role = some .power
  · have runs : (doneMarked e t).runs .power = true := (runs_iff _ _).2 ⟨role, by simp [doneMarked]⟩
    rw [if_pos role, zeroPower_eq_of_runs runs]
    rfl
  · have rests : (doneMarked e t).runs .power = false := Bool.eq_false_iff.2 fun runs => role ((runs_iff _ _).1 runs).1
    rw [if_neg role, zeroPower_of_not rests]
    rfl

theorem powerStandsAs_enterDone {p : Power} (e : EndKind) (off : p.command = 0) (h : PowerStandsAs p t) :
    PowerStandsAs p (enterDone e t) := by
  refine keeps_handReport (reportKeeps_powerStandsAs off) _ ?_
  have zeroed := powerStandsAs_zeroPower off (t := doneMarked e t) h
  exact powerStandsAs_same zeroed (by rw [markDone_eq, beginSpindleHold_power])

/-- A report leaves the end kind. -/
theorem reportKeeps_endKind (e : Option EndKind) : ReportKeeps fun t => t.cycle.endKind = e where
  sched _ h := h
  line _ h := h
  latch _ _ h := h
  aborted c _ h := by rw [enterAborted_cycle]; exact h
  silent k _ h := by rw [enterSilent_cycle]; exact h

theorem enterDone_endKind (e : EndKind) (t : State) : (enterDone e t).cycle.endKind = some e :=
  keeps_handReport (reportKeeps_endKind (some e)) _ (by rw [markDone_cycle])

/-- With room for its summary a station on the line that is DONE stays so, the summary handed. -/
theorem handReport_of_room {f : Frame} (on : t.onLine = true) (room : t.sched.reportOccupancy < Config.reportCapacity) :
    handReport f t = pushReport f t := by
  simp [handReport, State.dropsReport, placeReport, on, room, Nat.not_le.mpr room]

theorem markDone_onLine (e : EndKind) (t : State) : (markDone e t).onLine = true := by simp [State.onLine, markDone_cycle]

theorem enterDone_of_room (e : EndKind) (room : t.sched.reportOccupancy < Config.reportCapacity) :
    enterDone e t = pushReport (cycleSummaryFrame (markDone e t)) (markDone e t) :=
  handReport_of_room (markDone_onLine e t) (by simpa using room)

theorem powerRoleEnd_of_not (goes : ¬ (t.cycle.state = .scanning ∧ t.tracker.zone = .past ∧ t.power.inbox = [])) :
    powerRoleEnd t = t := if_neg goes

theorem powerRoleEnd_of (scanning : t.cycle.state = .scanning) (past : t.tracker.zone = .past) (empty : t.power.inbox = []) :
    powerRoleEnd t = enterDone .normal t := if_pos ⟨scanning, past, empty⟩

/-- Settles O26. -/
theorem powerControlStep : Obligations.PowerControlStep := by
  refine ⟨energyAtTool_eq, fun a pos k g holds => ⟨fun e heat => energyIn_blended holds heat, energyIn_of_cold holds⟩,
    fun a pos gap => energyIn_of_gap gap, fun ticks limit s role on empty => ?_⟩
  intro energy speed available heating wanted
  let u := limitRead limit (advance ticks s)
  have step : powerStep limit (advance ticks s) = sendSetpoint (powerRoleEnd (u.setPower (computedPower u))) := by
    rw [powerStep_eq, takeInbox_of_empty (s := limitRead limit (advance ticks s)) empty]
  refine ⟨_, (exec_powerControlStep ticks limit role on).trans (by rw [step]), ?_⟩
  have carried : carriageSpeed u = speed := by
    have live : u.trackedLive = s.trackedLive := trackedLive_advance ticks s
    rw [carriageSpeed, live]
    rfl
  have wants : wantedPower u = wanted := by
    have hot : heats u = true ↔ heating := by
      rw [heats_iff, enable_iff]
      have good : u.actuatorGood = true ↔ s.pins.actReady = true ∧ s.pins.actFault = false := by
        simp [State.actuatorGood, u, limitRead]
      rw [good]
      constructor
      · rintro ⟨scanning, inside, ⟨-, -, ready, fault⟩, hold⟩
        exact ⟨scanning, inside, ready, fault, hold⟩
      · rintro ⟨scanning, inside, ready, fault, hold⟩
        exact ⟨scanning, inside, ⟨role, (inCycle_iff u).2 (.inr (.inl scanning)), ready, fault⟩, hold⟩
    by_cases h : heating
    · rw [wantedPower, if_pos (hot.2 h), carried]
      exact (if_pos h).symm
    · rw [wantedPower, if_neg (fun heats => h (hot.1 heats))]
      exact (if_neg h).symm
  have past_off (past : s.tracker.zone = .past) : (computedPower u).command = 0 := computedPower_command_of_past (s := u) past
  let r := powerRoleEnd (u.setPower (computedPower u))
  have stands : PowerStandsAs (computedPower u) r := by
    unfold r powerRoleEnd
    split
    · exact powerStandsAs_enterDone .normal (past_off (And.left (And.right ‹_›))) ⟨_, _, _, _, _, rfl⟩
    · exact ⟨_, _, _, _, _, rfl⟩
  obtain ⟨current, acc, inbox, setpoint, sent, e⟩ := stands
  have power : (settled s (sendSetpoint r)).power =
      { computedPower u with
        current := current, acc := acc, inbox := inbox, setpoint := some (computedPower u).command, sent := sent + 1 } := by
    rw [settled_power, sendSetpoint, State.setPower_power, e]
  have target : (computedPower u).target = min wanted s.settings.ratedPower := congrArg (min · s.settings.ratedPower) wants
  have stays (inside : s.tracker.zone ≠ .past) : r = u.setPower (computedPower u) := powerRoleEnd_of_not fun ends => inside ends.2.1
  have kept : r.tracker = (advance ticks s).tracker ∧ r.pins = { s.pins with limit := limit } ∧ r.settings = s.settings := by
    unfold r powerRoleEnd
    split
    · simp only [enterDone_tracker, enterDone_pins, enterDone_settings]
      exact ⟨rfl, rfl, rfl⟩
    · exact ⟨rfl, rfl, rfl⟩
  obtain ⟨tracker, pins, settings⟩ := kept
  refine ⟨by rw [power]; rfl, by rw [power]; exact carried, by rw [power]; rfl, by rw [power]; exact target, ?_, ?_, ?_,
    by rw [power], ?_, by rw [power]; rfl, by rw [power]; rfl, by rw [power]; rfl, fun inside => ?_, fun past scanning => ?_,
    ?_, ?_, ?_⟩
  · rw [power, ← wants]
    exact decide_eq_true_iff
  · rw [power, ← wants]
    show (s.power.clampedSeen || decide (s.settings.ratedPower < wantedPower u)) = true ↔ _
    rw [Bool.or_eq_true, decide_eq_true_iff]
  · rw [power]
    rfl
  · rw [power]
    show powerCeiling s.hold s.tracker.zone.isInside energy available = _
    unfold powerCeiling
    cases s.hold <;> cases s.tracker.zone.isInside <;> simp [Config.noLimit]
  · have same : settled s (sendSetpoint r) = sendSetpoint (u.setPower (computedPower u)) := by
      rw [stays inside]
      exact settled_eq (n := ticks) rfl rfl
    rw [same]
    refine ⟨rfl, ?_, rfl, rfl, rfl⟩
    show creditedAcc u = _
    have credits : (u.closesSlices && u.power.current.isSome) = true ↔
        (s.cycle.state = .starting ∨ s.cycle.state = .scanning) ∧ s.power.current ≠ none := by
      rw [Bool.and_eq_true, closesSlices_iff, Option.isSome_iff_ne_none]
      rfl
    unfold creditedAcc
    split <;> rename_i h
    · rw [if_pos (credits.1 h)]
      rfl
    · rw [if_neg fun both => h (credits.2 both)]
      rfl
  · have ended : r = enterDone .normal (u.setPower (computedPower u)) := powerRoleEnd_of scanning past empty
    refine ⟨?_, fun room => ?_⟩
    · rw [settled_cycle]
      show r.cycle.endKind = _
      rw [ended, enterDone_endKind]
    · have handed := enterDone_of_room .normal (t := u.setPower (computedPower u)) room
      have poweredOff : r.power = (computedPower u).zeroed := by
        rw [ended, handed, pushReport_power, markDone_power, if_pos (show (u.setPower (computedPower u)).role = some .power from role)]
        rfl
      rw [settled_power]
      show r.power.sent + 1 = _
      rw [poweredOff]
      rfl
  · rw [settled_tracker]
    exact tracker
  · rw [settled_pins]
    exact pins
  · rw [settled_settings]
    exact settings

end Sys2Proof.Machine
end

section
/-! Crossing records taken: the chain of SLICE NOTICE frames (O29). -/

namespace Sys2Proof.Machine

variable {s t u : State}

/-! ## A drop that is not fatal -/

/-- What a drop leaves where TX_OVERFLOW is not fatal and no frame begins: the REPORT queue, the drop count and the latches alone
differ, the count no lower, no latch cleared. -/
structure DropTold (s t : State) : Prop where
  told : ∃ rq d v, t = (s.setSched { s.sched with reportQ := rq, dropCount := d }).setFault v
  drops : min 65535 s.sched.dropCount ≤ t.sched.dropCount
  latches : ∀ k, s.isLatched k = true → t.isLatched k = true

theorem dropTold_refl (s : State) : DropTold s s :=
  ⟨⟨s.sched.reportQ, s.sched.dropCount, s.fault, rfl⟩, Nat.min_le_right _ _, fun _ h => h⟩

theorem dropTold_countDrop (s : State) : DropTold s (countDrop s) := by
  refine ⟨⟨s.sched.reportQ, satAdd Config.max16 s.sched.dropCount 1, s.fault, rfl⟩, ?_, fun _ h => h⟩
  show min 65535 s.sched.dropCount ≤ min 65535 (s.sched.dropCount + 1)
  omega

theorem dropTold_trans (h : DropTold s t) (g : DropTold t u) : DropTold s u := by
  obtain ⟨⟨rq, d, v, rfl⟩, drops, latches⟩ := h
  obtain ⟨⟨rq', d', v', rfl⟩, drops', latches'⟩ := g
  exact ⟨⟨rq', d', v', rfl⟩, (Nat.le_min.2 ⟨Nat.min_le_left _ _, drops⟩).trans drops', fun k h => latches' k (latches k h)⟩

theorem dropTold_placeReport (f : Frame) (still : s.mayBegin = false) : DropTold s (placeReport f s) := by
  unfold placeReport
  split
  · exact dropTold_refl s
  · split
    · rw [pushReport, tryBegin_of_not (by exact still)]
      exact ⟨⟨s.sched.reportQ ++ [f], s.sched.dropCount, s.fault, rfl⟩, Nat.min_le_right _ _, fun _ h => h⟩
    · exact dropTold_countDrop s

theorem dropTold_latch (r : Report) (s : State) : DropTold s (latch r s) :=
  ⟨⟨s.sched.reportQ, s.sched.dropCount, _, rfl⟩, Nat.min_le_right _ _, fun k h => by rw [latch_isLatched, h, Bool.true_or]⟩

theorem dropTold_mayBegin (h : DropTold s t) : t.mayBegin = s.mayBegin := by
  obtain ⟨⟨rq, d, v, rfl⟩, -, -⟩ := h
  rfl

theorem dropTold_reportOverflow (c : Captured) (mild : s.isFatal .txOverflow = false) (still : s.mayBegin = false) :
    DropTold s (reportOverflow c s) := by
  unfold reportOverflow
  split
  · have latched := dropTold_latch ⟨.txOverflow, none, some c⟩ s
    have placed := dropTold_trans latched (dropTold_placeReport (faultNoticeFrame s .txOverflow none false)
      ((dropTold_mayBegin latched).trans still))
    rwa [tellCycle_of_not (by simpa [State.isFatal] using mild)]
  · exact dropTold_refl s

theorem reportOverflow_latched {c : Captured} (mask : s.isMasked .txOverflow = false) :
    (reportOverflow c s).isLatched .txOverflow = true := by
  have keeps := reportKeeps_latched .txOverflow
  cases latched : s.isLatched .txOverflow
  case true => exact keeps_reportOverflow keeps c latched
  case false =>
    have set : (latch ⟨.txOverflow, none, some c⟩ s).isLatched .txOverflow = true := by
      rw [latch_isLatched, decide_eq_true rfl, Bool.or_true]
    rw [reportOverflow, if_pos ((latchable_iff _ _).2 ⟨mask, latched⟩)]
    exact keeps_tellCycle keeps _ (keeps_placeReport keeps _ set)

theorem dropTold_handReport (f : Frame) (mild : s.isFatal .txOverflow = false) (still : s.mayBegin = false) :
    DropTold s (handReport f s) := by
  have placed := dropTold_placeReport f still
  unfold handReport
  split
  · refine dropTold_trans placed (dropTold_reportOverflow _ ?_ ((dropTold_mayBegin placed).trans still))
    obtain ⟨⟨rq, d, v, e⟩, -, -⟩ := placed
    rw [e]
    exact mild
  · exact placed

/-! ## The chain of notices -/

/-- The chain link after the listed slices. -/
def lastLink : Option Nat → List (Nat × Nat) → Option Nat
  | link, [] => link
  | _, p :: rest => lastLink (some p.1) rest

theorem lastLink_eq (link : Option Nat) (l : List (Nat × Nat)) :
    lastLink link l = match l.getLast? with | some p => some p.1 | none => link := by
  induction l generalizing link with
  | nil => rfl
  | cons p rest ih =>
    rw [lastLink, ih, List.getLast?_cons]
    cases rest.getLast? <;> rfl

theorem lastLink_append (link : Option Nat) (l m : List (Nat × Nat)) : lastLink link (l ++ m) = lastLink (lastLink link l) m := by
  induction l generalizing link with
  | nil => rfl
  | cons p rest ih => exact ih _

theorem chainFrames_append (s : State) (link : Option Nat) (l m : List (Nat × Nat)) :
    chainFrames s link (l ++ m) = chainFrames s link l ++ chainFrames s (lastLink link l) m := by
  induction l generalizing link with
  | nil => rfl
  | cons p rest ih => exact congrArg (_ :: ·) (ih _)

theorem chainFrames_length (s : State) (link : Option Nat) (l : List (Nat × Nat)) : (chainFrames s link l).length = l.length := by
  induction l generalizing link with
  | nil => rfl
  | cons p rest ih => exact congrArg (· + 1) (ih _)

theorem chainFrames_congr (loader : t.loader = s.loader) (settings : t.settings = s.settings) (number : t.cycle.number = s.cycle.number)
    (link : Option Nat) (l : List (Nat × Nat)) : chainFrames t link l = chainFrames s link l := by
  induction l generalizing link with
  | nil => rfl
  | cons p rest ih => rw [chainFrames, chainFrames, ih, State.ownFrame, State.ownFrame, loader, settings, number]

/-- Places free in the SLICE queue. -/
def sliceRoom (s : State) : Nat := 8 - s.sched.sliceOccupancy

/-- The slices of `l` have been closed one after another: their notices are queued as far as there is room, the others dropped
and counted, and the chain goes on as if all had gone (R83, R84, R166). -/
structure Chain (s : State) (l : List (Nat × Nat)) (t : State) : Prop where
  writes : Writes [.power, .sched, .fault] s t
  queue : t.sched.sliceQ = s.sched.sliceQ ++ (chainFrames s s.power.link l).take (sliceRoom s)
  sched : t.sched = { s.sched with sliceQ := t.sched.sliceQ, reportQ := t.sched.reportQ, dropCount := t.sched.dropCount }
  link : t.power.link = lastLink s.power.link l
  notices : t.power.notices = if l = [] then s.power.notices else min 65535 (s.power.notices + l.length)
  latches : ∀ k, s.isLatched k = true → t.isLatched k = true
  fits : l.length ≤ sliceRoom s →
    t.sched.reportQ = s.sched.reportQ ∧ t.sched.dropCount = s.sched.dropCount ∧ t.fault = s.fault
  drops : min 65535 (s.sched.dropCount + (l.length - sliceRoom s)) ≤ t.sched.dropCount
  overflows : sliceRoom s < l.length → s.isMasked .txOverflow = false → t.isLatched .txOverflow = true

theorem chain_refl (s : State) : Chain s [] s where
  writes := writes_refl _ s
  queue := by rw [chainFrames, List.take_nil, List.append_nil]
  sched := rfl
  link := rfl
  notices := rfl
  latches _ h := h
  fits _ := ⟨rfl, rfl, rfl⟩
  drops := by simp
  overflows h := absurd h (Nat.not_lt_zero _)

variable {l m : List (Nat × Nat)}

theorem chain_occupancy (h : Chain s l t) : t.sched.sliceOccupancy = s.sched.sliceOccupancy + min (sliceRoom s) l.length := by
  have offers : t.sched.offers .slice = s.sched.offers .slice := by rw [h.sched]; rfl
  rw [Sched.sliceOccupancy, Sched.sliceOccupancy, h.queue, offers, List.length_append, List.length_take, chainFrames_length]
  omega

theorem chain_room (h : Chain s l t) : sliceRoom t = sliceRoom s - l.length := by
  have occupancy := chain_occupancy h
  unfold sliceRoom at *
  omega

theorem chain_trans (h : Chain s l t) (g : Chain t m u) : Chain s (l ++ m) u := by
  have room := chain_room h
  have loader : t.loader = s.loader := h.writes.2 .loader (by decide)
  have settings : t.settings = s.settings := h.writes.2 .settings (by decide)
  have cycle : t.cycle = s.cycle := h.writes.2 .cycle (by decide)
  refine ⟨writes_trans (List.Subset.refl _) h.writes g.writes, ?_, ?_, ?_, ?_, fun k k' => g.latches k (h.latches k k'), fun fits => ?_, ?_,
    fun overflows mask => ?_⟩
  · rw [g.queue, h.queue, h.link, chainFrames_congr loader settings (congrArg Cycle.number cycle), chainFrames_append, List.take_append,
      chainFrames_length, room, List.append_assoc]
  · rw [g.sched, h.sched]
  · rw [g.link, h.link, lastLink_append]
  · rw [g.notices, h.notices]
    rcases l with _ | ⟨p, l⟩ <;> rcases m with _ | ⟨q, m⟩ <;> simp
    omega
  · rw [List.length_append] at fits
    obtain ⟨reportQ, dropCount, fault⟩ := h.fits (by omega)
    obtain ⟨reportQ', dropCount', fault'⟩ := g.fits (by omega)
    exact ⟨reportQ'.trans reportQ, dropCount'.trans dropCount, fault'.trans fault⟩
  · have first := h.drops
    have second := g.drops
    rw [List.length_append]
    omega
  · rw [List.length_append] at overflows
    by_cases early : sliceRoom s < l.length
    · exact g.latches _ (h.overflows early mask)
    · exact g.overflows (by omega) ((isMasked_of_settings settings _).trans mask)

/-- Current slice, accumulator and records are no part of the chain. -/
theorem chain_setPower {v : Power} (h : Chain s l t) (link : v.link = t.power.link) (notices : v.notices = t.power.notices) :
    Chain s l (t.setPower v) where
  writes := writes_trans (List.Subset.refl _) h.writes (writes_mono (by decide) (writes_setPower v t))
  queue := h.queue
  sched := h.sched
  link := link.trans h.link
  notices := notices.trans h.notices
  latches := h.latches
  fits := h.fits
  drops := h.drops
  overflows := h.overflows

/-- One notice handed. -/
theorem chain_handNotice (slice share : Nat) (on : s.onLine = true) (still : s.mayBegin = false)
    (fits : 1 ≤ sliceRoom s ∨ s.isFatal .txOverflow = false) :
    Chain s [(slice, share)] (handNotice slice share s) ∧ (handNotice slice share s).power.current = s.power.current ∧
      (handNotice slice share s).power.acc = s.power.acc ∧ (handNotice slice share s).power.inbox = s.power.inbox ∧ (handNotice slice share s).power.feedback = s.power.feedback := by
  by_cases room : 1 ≤ sliceRoom s
  case pos =>
    have low : s.sched.sliceOccupancy < Config.sliceCapacity := by
      unfold sliceRoom at room
      show _ < 8
      omega
    have pushed : handSlice (sliceNoticeFrame s slice (sliceEnergy share)) s =
        s.setSched { s.sched with sliceQ := s.sched.sliceQ ++ [sliceNoticeFrame s slice (sliceEnergy share)] } := by
      rw [handSlice, if_neg (by simp [on]), if_pos low, pushSlice, tryBegin_of_not (by exact still)]
    rw [handNotice, pushed]
    refine ⟨⟨?_, ?_, rfl, rfl, ?_, fun _ h => h, fun _ => ⟨rfl, rfl, rfl⟩, ?_, ?_⟩, rfl, rfl, rfl, rfl⟩
    · exact writes_trans (by decide) (writes_mono (bs := [.power, .sched, .fault]) (by decide) (writes_setSched _ s)) (writes_setPower _ _)
    · obtain ⟨n, e⟩ := Nat.exists_eq_add_of_le' room
      have taken : (chainFrames s s.power.link [(slice, share)]).take (n + 1) = [sliceNoticeFrame s slice (sliceEnergy share)] := by
        rw [chainFrames, chainFrames, List.take_succ_cons, List.take_nil]
        rfl
      rw [e, taken]
      rfl
    · rfl
    · have none_ : [(slice, share)].length - sliceRoom s = 0 := by simp; omega
      rw [none_]
      exact Nat.min_le_right _ _
    · intro full
      exact absurd full (Nat.not_lt.2 room)
  case neg =>
    have full : Config.sliceCapacity ≤ s.sched.sliceOccupancy := by
      unfold sliceRoom at room
      show 8 ≤ _
      omega
    have mild : s.isFatal .txOverflow = false := fits.resolve_left room
    have dropped : handSlice (sliceNoticeFrame s slice (sliceEnergy share)) s =
        reportOverflow (capturedHeader (sliceNoticeFrame s slice (sliceEnergy share))) (countDrop s) := by
      rw [handSlice, if_neg (by simp [on]), if_neg (Nat.not_lt.2 full)]
    have told := dropTold_reportOverflow (s := countDrop s) (capturedHeader (sliceNoticeFrame s slice (sliceEnergy share))) mild still
    have latched (mask : s.isMasked .txOverflow = false) := reportOverflow_latched (s := countDrop s)
      (c := capturedHeader (sliceNoticeFrame s slice (sliceEnergy share))) mask
    rw [← dropped] at told latched
    obtain ⟨⟨rq, d, v, e⟩, drops, latches⟩ := told
    have none_ : sliceRoom s = 0 := by omega
    refine ⟨⟨?_, ?_, ?_, rfl, ?_, latches, fun fits => ?_, ?_, fun _ mask => latched mask⟩, ?_, ?_, ?_, ?_⟩
    · have sched := writes_mono (bs := [.power, .sched, .fault]) (by decide) (writes_setSched
        { s.sched with reportQ := rq, dropCount := d } s)
      rw [handNotice, e]
      exact writes_trans (by decide) (writes_trans (by decide) sched (writes_setFault v _)) (writes_setPower _ _)
    · rw [none_, List.take_zero, List.append_nil, handNotice, e]
      rfl
    · rw [handNotice, e]
      rfl
    · rw [handNotice, e]
      rfl
    · rw [none_] at fits
      exact absurd fits (by simp)
    · have counted : (countDrop s).sched.dropCount = min 65535 (s.sched.dropCount + 1) := rfl
      have length : [(slice, share)].length = 1 := rfl
      have handed : (handNotice slice share s).sched.dropCount =
          (handSlice (sliceNoticeFrame s slice (sliceEnergy share)) s).sched.dropCount := rfl
      rw [none_, length, handed]
      omega
    all_goals
      rw [handNotice, e]
      rfl

/-- Slices closed in a state that closes them. -/
theorem chain_closeSlices (l : List (Nat × Nat)) (closes : s.closesSlices = true) (still : s.mayBegin = false)
    (fits : l.length ≤ sliceRoom s ∨ s.isFatal .txOverflow = false) :
    Chain s l (closeSlices l s) ∧ (closeSlices l s).power.current = s.power.current ∧
      (closeSlices l s).power.inbox = s.power.inbox ∧ (closeSlices l s).power.feedback = s.power.feedback := by
  induction l generalizing s with
  | nil => exact ⟨chain_refl s, rfl, rfl, rfl⟩
  | cons p rest ih =>
    have on : s.onLine = true := by
      rw [onLine_iff]
      rcases (closesSlices_iff s).1 closes with e | e <;> simp [e]
    have length : (p :: rest).length = rest.length + 1 := rfl
    obtain ⟨first, current, -, inbox, feedback⟩ := chain_handNotice p.1 p.2 on still
      (fits.imp (fun h => by omega) id)
    have cycle : (handNotice p.1 p.2 s).cycle = s.cycle := first.writes.2 .cycle (by decide)
    have settings : (handNotice p.1 p.2 s).settings = s.settings := first.writes.2 .settings (by decide)
    have line : (handNotice p.1 p.2 s).line = s.line := first.writes.2 .line (by decide)
    have room := chain_room first
    have single : [p].length = 1 := rfl
    obtain ⟨chain, current', inbox', feedback'⟩ := ih (s := handNotice p.1 p.2 s)
      (by rw [State.closesSlices, cycle]; exact closes) (by rw [State.mayBegin, State.onLine, cycle, line]; exact still)
      (by rw [State.isFatal, settings, room]; exact fits.imp (fun h => by simp at *; omega) id)
    rw [closeSlices, if_pos closes]
    exact ⟨chain_trans first chain, current'.trans current, inbox'.trans inbox, feedback'.trans feedback⟩

/-- The current slice after the records. -/
def lastCurrent : Option Nat → List Crossing → Option Nat
  | current, [] => current
  | _, c :: rest => lastCurrent c.current.slice rest

/-- Records taken in a state that closes slices. -/
theorem chain_takeRecords (cs : List Crossing) (closes : s.closesSlices = true) (still : s.mayBegin = false)
    (fits : (recordShares s.power.acc cs).length ≤ sliceRoom s ∨ s.isFatal .txOverflow = false) :
    Chain s (recordShares s.power.acc cs) (takeRecords cs s) ∧
      (takeRecords cs s).power.current = lastCurrent s.power.current cs ∧
      (takeRecords cs s).power.acc = (if cs = [] then s.power.acc else 0) ∧
      (takeRecords cs s).power.inbox = s.power.inbox ∧ (takeRecords cs s).power.feedback = s.power.feedback := by
  induction cs generalizing s with
  | nil => exact ⟨chain_refl s, rfl, rfl, rfl, rfl⟩
  | cons c rest ih =>
    rw [recordShares, List.length_append] at fits
    obtain ⟨first, -, inbox, feedback⟩ := chain_closeSlices (sharesOf s.power.acc c.left) closes still
      (fits.imp (fun h => by omega) id)
    have cycle : (closeSlices (sharesOf s.power.acc c.left) s).cycle = s.cycle := first.writes.2 .cycle (by decide)
    have settings : (closeSlices (sharesOf s.power.acc c.left) s).settings = s.settings := first.writes.2 .settings (by decide)
    have line : (closeSlices (sharesOf s.power.acc c.left) s).line = s.line := first.writes.2 .line (by decide)
    have room := chain_room first
    have taken : takeRecord c s = (closeSlices (sharesOf s.power.acc c.left) s).setPower
        { (closeSlices (sharesOf s.power.acc c.left) s).power with current := c.current.slice, acc := 0 } := by
      unfold takeRecord
      exact if_pos (by rw [State.closesSlices, cycle]; exact closes)
    have chained : Chain s (sharesOf s.power.acc c.left) (takeRecord c s) := by
      rw [taken]
      exact chain_setPower first rfl rfl
    obtain ⟨chain, current', acc', inbox', feedback'⟩ := ih (s := takeRecord c s)
      (by rw [taken, State.closesSlices, State.setPower_cycle, cycle]; exact closes)
      (by rw [taken, State.mayBegin, State.onLine, State.setPower_cycle, State.setPower_line, cycle, line]; exact still)
      (by
        rw [taken, State.isFatal, State.setPower_settings, settings]
        show (recordShares 0 rest).length ≤ sliceRoom (closeSlices (sharesOf s.power.acc c.left) s) ∨ _
        rw [room]
        exact fits.imp (fun h => by omega) id)
    rw [takeRecords, if_pos closes]
    refine ⟨chain_trans chained ?_, ?_, ?_, ?_, ?_⟩
    · rw [taken] at chain ⊢
      exact chain
    · rw [current', taken]
      rfl
    · rw [acc', taken, if_neg (List.cons_ne_nil _ _)]
      split <;> rfl
    · rw [inbox', taken]
      exact inbox
    · rw [feedback', taken]
      exact feedback

/-! ## What the end of a command leaves of the queues -/

/-- A refresh of beacons leaves the other queues and the drop count. -/
theorem settled_queues (old : State) :
    (settled old t).sched.sliceQ = t.sched.sliceQ ∧ (settled old t).sched.reportQ = t.sched.reportQ ∧
      (settled old t).sched.dropCount = t.sched.dropCount := by
  unfold settled
  split
  · exact ⟨rfl, rfl, rfl⟩
  · unfold refreshBeacon
    dsimp only
    split <;> exact ⟨rfl, rfl, rfl⟩

/-- What a CYCLE SUMMARY is built from. -/
theorem cycleSummaryFrame_congr (loader : t.loader = u.loader) (settings : t.settings = u.settings) (cycle : t.cycle = u.cycle)
    (store : t.store = u.store) (tracker : t.tracker = u.tracker) (quench : t.quench = u.quench)
    (fault : t.fault = u.fault) (level : t.interlock.level = u.interlock.level) (drops : t.sched.dropCount = u.sched.dropCount)
    (clamped : t.power.clampedSeen = u.power.clampedSeen) (notices : t.power.notices = u.power.notices) :
    cycleSummaryFrame t = cycleSummaryFrame u := by
  have role : t.role = u.role := role_of_loader loader
  have summary : t.summary = u.summary := by
    simp only [State.summary, State.fatalLatched, State.hold, fault, settings, cycle, level]
  unfold cycleSummaryFrame State.ownFrame State.ownRoleCode State.armedRecipe
  rw [role, summary, loader, cycle, store, tracker, quench, drops, clamped, notices]

/-! ## O29 -/

/-- In a state that closes no slices the records are retired. -/
theorem takeRecords_retired (cs : List Crossing) (open_ : s.closesSlices = false) : takeRecords cs s = s := by
  cases cs with
  | nil => rfl
  | cons c rest => exact if_neg (by simp [open_])

theorem creditedAcc_of_not (h : (s.closesSlices && s.power.current.isSome) = false) : creditedAcc s = s.power.acc := by
  simp [creditedAcc, h]

theorem lastCurrent_of_getLast {current : Option Nat} {cs : List Crossing} {c : Crossing} (last : cs.getLast? = some c) :
    lastCurrent current cs = c.current.slice := by
  induction cs generalizing current with
  | nil => simp at last
  | cons d rest ih =>
    cases rest with
    | nil =>
      obtain rfl : d = c := by simpa using last
      rfl
    | cons e rest => exact ih (current := d.current.slice) (by rwa [List.getLast?_cons_cons] at last)

/-- The Power Engine after the records are taken, the values computed and the role end tested: at a role end the command is 0
and a CYCLE SUMMARY handed, and in each case the REPORT queue, the drop count and the latches alone may differ from what the
records left. -/
theorem roleEnd_told {v : State} (role : v.role = some .power) (empty : v.power.inbox = []) (still : v.mayBegin = false)
    (mild : v.cycle.state = .scanning ∧ v.tracker.zone = .past → v.isFatal .txOverflow = false) :
    ∃ y, DropTold y (powerRoleEnd v) ∧ y.sched = v.sched ∧ y.fault = v.fault ∧ y.settings = v.settings ∧
      ∃ command setpoint sent, y.power = { v.power with command := command, setpoint := setpoint, sent := sent } := by
  by_cases ends : v.cycle.state = .scanning ∧ v.tracker.zone = .past
  · refine ⟨markDone .normal v, ?_, markDone_sched _ _, markDone_fault _ _, markDone_settings _ _, 0, some 0, v.power.sent + 1, ?_⟩
    · rw [powerRoleEnd_of ends.1 ends.2 empty]
      refine dropTold_handReport _ ?_ ?_
      · rw [State.isFatal, markDone_settings]
        exact mild ends
      · have on : v.onLine = true := by simp [onLine_iff, ends.1]
        rw [State.mayBegin, on] at still
        rw [State.mayBegin, markDone_onLine, markDone_line]
        exact still
    · rw [markDone_power, if_pos role]
      rfl
  · refine ⟨v, ?_, rfl, rfl, rfl, v.power.command, v.power.setpoint, v.power.sent, rfl⟩
    rw [powerRoleEnd_of_not fun ⟨scanning, past, _⟩ => ends ⟨scanning, past⟩]
    exact dropTold_refl v

theorem cycleSummaryFrame_settled (old t : State) : cycleSummaryFrame (settled old t) = cycleSummaryFrame t := by
  obtain ⟨carried, interlock⟩ := settled_interlock (t := t) old
  obtain ⟨-, -, drops⟩ := settled_queues (t := t) old
  exact cycleSummaryFrame_congr (settled_loader _ _) (settled_settings _ _) (settled_cycle _ _) (settled_store _ _)
    (settled_tracker _ _) (settled_quench _ _) (settled_fault _ _) (interlock ▸ rfl) drops
    (congrArg Power.clampedSeen (settled_power _ _)) (congrArg Power.notices (settled_power _ _))

/-- The frame handed and the setpoint word sent are no part of a CYCLE SUMMARY. -/
theorem cycleSummaryFrame_handed {m : State} {q : Sched} (drops : q.dropCount = m.sched.dropCount) :
    cycleSummaryFrame (sendSetpoint (m.setSched q)) = cycleSummaryFrame m :=
  cycleSummaryFrame_congr rfl rfl rfl rfl rfl rfl rfl rfl drops rfl rfl

/-- A role end with room for its summary, on a line that is not idle. -/
theorem enterDone_of_waits (e : EndKind) {v : State} (on : v.onLine = true) (still : v.mayBegin = false)
    (room : v.sched.reportOccupancy < Config.reportCapacity) :
    enterDone e v = (markDone e v).setSched { v.sched with reportQ := v.sched.reportQ ++ [cycleSummaryFrame (markDone e v)] } := by
  have idle : (markDone e v).mayBegin = false := by
    rw [State.mayBegin, on] at still
    rw [State.mayBegin, markDone_onLine, markDone_line]
    exact still
  rw [enterDone_of_room e room, pushReport, tryBegin_of_not (by exact idle), markDone_sched]

theorem roleEnd_of_room {v : State} (old : State) (role : v.role = some .power) (scanning : v.cycle.state = .scanning)
    (past : v.tracker.zone = .past) (empty : v.power.inbox = []) (still : v.mayBegin = false)
    (room : v.sched.reportOccupancy < Config.reportCapacity) :
    let t := settled old (sendSetpoint (powerRoleEnd v))
    t.cycle = { v.cycle with state := .done, endKind := some .normal } ∧ t.power.command = 0 ∧
      t.sched.reportQ = v.sched.reportQ ++ [cycleSummaryFrame t] ∧ t.fault = v.fault := by
  intro t
  have on : v.onLine = true := by simp [onLine_iff, scanning]
  have ended := (powerRoleEnd_of scanning past empty).trans (enterDone_of_waits .normal on still room)
  have off : (markDone .normal v).power.command = 0 := by
    rw [markDone_power, if_pos role]
    rfl
  have summary : cycleSummaryFrame t = cycleSummaryFrame (markDone .normal v) := by
    rw [cycleSummaryFrame_settled, ended]
    have drops : v.sched.dropCount = (markDone .normal v).sched.dropCount := by rw [markDone_sched]
    exact cycleSummaryFrame_handed drops
  refine ⟨?_, ?_, ?_, ?_⟩
  · rw [settled_cycle, ended, sendSetpoint_cycle, State.setSched_cycle]
    exact markDone_cycle .normal v
  · rw [settled_power, ended, sendSetpoint, State.setPower_power, State.setSched_power]
    exact off
  · rw [summary, (settled_queues old).2.1, ended, sendSetpoint_sched, State.setSched_sched]
  · rw [settled_fault, ended, sendSetpoint_fault, State.setSched_fault]
    exact markDone_fault .normal v

/-- Settles O29. -/
theorem crossingClosesSlices : Obligations.CrossingClosesSlices := by
  intro ticks limit s role u closed room ends
  refine ⟨fun closes still fits endsMild => ?_, fun notStarting notScanning on => ?_⟩
  · have on : s.onLine = true := by rw [onLine_iff]; rcases closes with e | e <;> simp [e]
    let x := (limitRead limit u).setPower { s.power with inbox := [] }
    let w := takeRecords s.power.inbox x
    have closes' : x.closesSlices = true := (closesSlices_iff x).2 closes
    obtain ⟨chain, current, acc, inbox, feedback⟩ : Chain x closed w ∧ _ := chain_takeRecords s.power.inbox closes' still fits
    have sameFrames : chainFrames x x.power.link closed = chainFrames s s.power.link closed :=
      chainFrames_congr (t := x) (s := s) rfl rfl rfl _ _
    have wCycle : w.cycle = u.cycle := chain.writes.2 .cycle (by decide)
    have wTracker : w.tracker = u.tracker := chain.writes.2 .tracker (by decide)
    have wSettings : w.settings = s.settings := chain.writes.2 .settings (by decide)
    have wLine : w.line = s.line := chain.writes.2 .line (by decide)
    have wLoader : w.loader = s.loader := chain.writes.2 .loader (by decide)
    have wStore : w.store = s.store := chain.writes.2 .store (by decide)
    have wRole : w.role = some .power := (role_of_loader wLoader).trans role
    let v := w.setPower (computedPower w)
    have ends_iff : v.cycle.state = .scanning ∧ v.tracker.zone = .past ↔ ends := by
      show w.cycle.state = .scanning ∧ w.tracker.zone = .past ↔ _
      rw [wCycle, wTracker]
      rfl
    have stillV : v.mayBegin = false := by
      have same : v.mayBegin = w.mayBegin := rfl
      rw [same, State.mayBegin, State.onLine, wCycle, wLine]
      exact still
    obtain ⟨y, told, ySched, yFault, ySettings, command, setpoint, sent, yPower⟩ := roleEnd_told (v := v) wRole inbox stillV
      (fun e => by
        show (w.settings.severity.getLsbD _) = false
        rw [wSettings]
        exact endsMild (ends_iff.1 e))
    have step : powerStep limit u = sendSetpoint (powerRoleEnd v) := powerStep_eq limit u
    obtain ⟨rq, d, fl, r⟩ := told.told
    let t := settled s (sendSetpoint (powerRoleEnd v))
    have power : t.power = { computedPower w with
        command := command, setpoint := some command, sent := sent + 1 } := by
      rw [settled_power, r, sendSetpoint]
      show ({ y.power with setpoint := some y.power.command, sent := y.power.sent + 1 } : Power) = _
      rw [yPower]
      rfl
    obtain ⟨sliceQ, reportQ, dropCount⟩ := settled_queues (t := sendSetpoint (powerRoleEnd v)) s
    have fault : t.fault = (powerRoleEnd v).fault := settled_fault _ _
    refine ⟨t, (exec_powerControlStep ticks limit role ((onLine_iff s).1 on).1).trans (by rw [step]), ?_, ?_, ?_, ?_, fun c last => ⟨?_, ?_⟩,
      fun fits stays => ?_, fun full => ⟨?_, fun mask => ?_⟩, fun ended fits free => ?_⟩
    · rw [show t.sched.sliceQ = _ from sliceQ, r]
      show y.sched.sliceQ = _
      rw [ySched, show v.sched.sliceQ = _ from chain.queue, sameFrames]
      rfl
    · rw [power]
      exact chain.link.trans (lastLink_eq _ _)
    · rw [power]
      exact chain.notices
    · rw [power]
      exact inbox
    · rw [power]
      show w.power.current = _
      rw [current, lastCurrent_of_getLast last]
      rfl
    · rw [power]
      show creditedAcc w = _
      have cur : w.power.current = c.current.slice := current.trans (lastCurrent_of_getLast last)
      have some_ : s.power.inbox ≠ [] := fun empty => by simp [empty] at last
      have zero : w.power.acc = 0 := acc.trans (if_neg some_)
      have sample : w.power.feedback = s.power.feedback := feedback
      have closesW : w.closesSlices = true := (closesSlices_iff w).2 (by rw [wCycle]; exact closes)
      rw [creditedAcc, closesW, cur, zero, sample]
      cases c.current <;> simp [Zone.slice, satAdd, Config.maxAccumulator]
    · obtain ⟨sameReports, sameDrops, sameFault⟩ := chain.fits fits
      have goes : powerRoleEnd v = v := powerRoleEnd_of_not fun ⟨scanning, past, _⟩ => stays (ends_iff.1 ⟨scanning, past⟩)
      have same : t = sendSetpoint v := by
        unfold t
        rw [goes]
        exact settled_eq (n := ticks) wCycle wStore
      have sched := chain.sched
      rw [sameReports, sameDrops] at sched
      rw [same]
      exact ⟨sched, wCycle, sameFault, wLine⟩
    · have first := chain.drops
      have second := told.drops
      have yDrops : y.sched.dropCount = w.sched.dropCount := congrArg Sched.dropCount ySched
      have counted : t.sched.dropCount = (powerRoleEnd v).sched.dropCount := dropCount
      have before : x.sched.dropCount = s.sched.dropCount := rfl
      have places : sliceRoom x = room := rfl
      omega
    · have latchedW : w.isLatched .txOverflow = true := chain.overflows full mask
      have latchedY : y.isLatched .txOverflow = true := (isLatched_of_fault yFault _).trans latchedW
      exact (isLatched_of_fault fault _).trans (told.latches _ latchedY)
    · obtain ⟨sameReports, sameDrops, sameFault⟩ := chain.fits fits
      have occupancy : v.sched.reportOccupancy = s.sched.reportOccupancy := by
        show w.sched.reportOccupancy = _
        rw [chain.sched, sameReports]
        rfl
      obtain ⟨scanning, past⟩ := ends_iff.2 ended
      obtain ⟨cycle, off, summary, kept⟩ := roleEnd_of_room (v := v) s wRole scanning past inbox stillV
        (occupancy.trans_lt free)
      refine ⟨cycle.trans ?_, off, summary.trans (congrArg (· ++ _) sameReports), kept.trans sameFault⟩
      show ({ w.cycle with state := _, endKind := _ } : Cycle) = _
      rw [wCycle]
  · have open_ : s.closesSlices = false := Bool.eq_false_iff.2 fun closes =>
      ((closesSlices_iff s).1 closes).elim notStarting notScanning
    let x := (limitRead limit u).setPower { s.power with inbox := [] }
    have taken : takeInbox (limitRead limit u) = x := takeRecords_retired (s := x) _ open_
    have goes : powerRoleEnd (x.setPower (computedPower x)) = x.setPower (computedPower x) :=
      powerRoleEnd_of_not fun ends => notScanning ends.1
    have step : powerStep limit u = sendSetpoint (x.setPower (computedPower x)) := by rw [powerStep_eq, taken, goes]
    refine ⟨sendSetpoint (x.setPower (computedPower x)), ?_, rfl, rfl, ?_, rfl, rfl, rfl, rfl, rfl⟩
    · rw [exec_powerControlStep ticks limit role on]
      exact next_settled (n := ticks) step (by rw [step]; rfl) (by rw [step]; rfl)
    · exact creditedAcc_of_not (s := x) (by rw [show x.closesSlices = false from open_]; rfl)

end Sys2Proof.Machine
end

section
/-! Reports that are not fatal, and the actuator and interlock inputs (O31, O32). -/

namespace Sys2Proof.Machine

variable {s t u : State}

/-! ## Reports that are not fatal -/

theorem isFatal_of_settings (e : t.settings = u.settings) (k : FaultKind) : t.isFatal k = u.isFatal k := by
  simp only [State.isFatal, e]

theorem writes_latch (r : Report) (t : State) : Writes [.fault] t (latch r t) := ⟨by simp, by rintro ⟨⟩ <;> simp [sameBlock]⟩

theorem writes_placeReport (f : Frame) (t : State) : Writes [.sched, .line] t (placeReport f t) :=
  ⟨by simp, by rintro ⟨⟩ <;> simp [sameBlock]⟩

theorem writes_takeReport_of_mild {r : Report} (mild : t.isFatal r.kind = false) :
    Writes [.sched, .line, .fault] t (takeReport r t) := by
  have placed := writes_trans (bs := [.sched, .line, .fault]) (by decide) (writes_mono (by decide) (writes_latch r t))
    (writes_placeReport (faultNoticeFrame t r.kind r.related false) (latch r t))
  have mild' : (placeReport (faultNoticeFrame t r.kind r.related false) (latch r t)).isFatal r.kind = false := by
    rw [isFatal_of_settings (placed.2 .settings (by decide))]
    exact mild
  rwa [takeReport, tellCycle_of_not mild']

theorem writes_reportOverflow_of_mild (c : Captured) (mild : t.isFatal .txOverflow = false) :
    Writes [.sched, .line, .fault] t (reportOverflow c t) := by
  unfold reportOverflow
  split
  · have placed := writes_trans (bs := [.sched, .line, .fault]) (by decide)
      (writes_mono (by decide) (writes_latch ⟨.txOverflow, none, some c⟩ t))
      (writes_placeReport (faultNoticeFrame t .txOverflow none false) (latch ⟨.txOverflow, none, some c⟩ t))
    rwa [tellCycle_of_not]
    rw [isFatal_of_settings (placed.2 .settings (by decide))]
    exact mild
  · exact writes_refl _ t

/-- A report of a kind that is not fatal, TX_OVERFLOW not fatal either, writes queues, line and latches alone. -/
theorem writes_report_of_mild {r : Report} (mild : t.isFatal r.kind = false) (overflow : t.isFatal .txOverflow = false) :
    Writes [.sched, .line, .fault] t (report r t) := by
  unfold report
  split
  · have taken := writes_takeReport_of_mild mild
    split
    · refine writes_trans (by decide) taken (writes_reportOverflow_of_mild _ ?_)
      rw [isFatal_of_settings (taken.2 .settings (by decide))]
      exact overflow
    · exact taken
  · exact writes_refl _ t

theorem writes_handReport_of_mild (f : Frame) (overflow : t.isFatal .txOverflow = false) :
    Writes [.sched, .line, .fault] t (handReport f t) := by
  have placed := writes_placeReport f t
  unfold handReport
  split
  · refine writes_trans (by decide) (writes_mono (by decide) placed) (writes_reportOverflow_of_mild _ ?_)
    rw [isFatal_of_settings (placed.2 .settings (by decide))]
    exact overflow
  · exact writes_mono (by decide) placed

/-- A report leaves cycle number and last result. -/
theorem reportKeeps_number_last (n : Nat) (l : Option (Kind × ResultCode)) :
    ReportKeeps fun t => t.cycle.number = n ∧ t.cycle.last = l where
  sched _ h := h
  line _ h := h
  latch _ _ h := h
  aborted c _ h := by rw [enterAborted_cycle]; exact h
  silent k _ h := by rw [enterSilent_cycle]; exact h

/-! ## Travel at rest -/

/-- The carriage is stopped at once and no move stands. -/
def TravelStopped (t : State) : Prop := t.travel.command = 0 ∧ t.travel.load = none ∧ t.travel.move = none

theorem travelStopped_spindle (h : TravelStopped t) : TravelStopped (beginSpindleHold t) := by
  unfold beginSpindleHold
  split <;> exact h

theorem travelStopped_same (h : TravelStopped t) (e : u.travel = t.travel) : TravelStopped u := by rwa [TravelStopped, e]

theorem travelStopped_abortFromCycle (h : TravelStopped t) : TravelStopped (abortFromCycle t) :=
  travelStopped_spindle (travelStopped_same h (by simp))

theorem reportKeeps_travelStopped : ReportKeeps TravelStopped where
  sched _ h := h
  line _ h := h
  latch _ _ h := h
  aborted c _ h := by
    have marked : TravelStopped (markAborted c _) := ⟨h.1, h.2.1, rfl⟩
    unfold enterAborted
    split
    · exact travelStopped_abortFromCycle marked
    · exact marked
  silent k _ h := by
    unfold enterSilent
    split
    · exact travelStopped_abortFromCycle ⟨h.1, h.2.1, rfl⟩
    · split
      · exact h
      · exact ⟨rfl, rfl, rfl⟩

/-! ## O31: the actuator inputs -/

theorem drvEn_of_not_good (bad : t.actuatorGood = false) : t.drvEn = false := by simp [State.drvEn, bad]

theorem enable_of_not_good (bad : t.actuatorGood = false) : t.enable = false := by simp [State.enable, bad]

theorem travelStopped_actuatorDrops (enabled : Bool) (role : t.role = some .travel) (on : t.cycle.state ≠ .offline) :
    TravelStopped (actuatorDrops enabled t) := by
  rw [actuatorDrops, if_pos ((runs_iff _ _).2 ⟨role, on⟩)]
  exact ⟨rfl, rfl, rfl⟩

theorem powerZeroed_actuatorDrops (role : t.role = some .power) (on : t.cycle.state ≠ .offline) :
    PowerZeroed (actuatorDrops true t) := by
  have rests : ¬ t.runs .travel = true := fun runs => by simp [((runs_iff _ _).1 runs).1] at role
  rw [actuatorDrops, if_neg rests, if_pos rfl]
  exact powerZeroed_zeroPower ((runs_iff _ _).2 ⟨role, on⟩)

theorem ne_offline_of_inCycle (h : t.inCycle = true) : t.cycle.state ≠ .offline := by
  rcases (inCycle_iff t).1 h with e | e | e <;> simp [e]

/-- What an actuator input that drops does, whether or not ACTUATOR_FAULT is reported for it. -/
theorem actuator_dropped {v : Pins} (n : Nat) (reports : Bool) (bad : (v.actReady && !v.actFault) = false) :
    let x := actuatorDrops s.enable ((advance n s).setPins v)
    let t := settled s (if reports then reportPlain .actuatorFault x else x)
    t.pins = v ∧ t.drvEn = false ∧ t.enable = false ∧
      (s.role = some .travel → s.cycle.state ≠ .offline →
        t.travel.command = 0 ∧ t.travel.load = none ∧ t.travel.move = none) ∧
      (s.enable = true → t.power.command = 0 ∧ t.power.setpoint = some 0) ∧
      (s.isMasked .actuatorFault = false → reports = true → t.isLatched .actuatorFault = true) ∧
      ((reports = false ∨ s.latchable .actuatorFault = false) → t.fault = s.fault ∧ t.cycle = (advance n s).cycle ∧
        t.quench = (advance n s).quench) := by
  intro x t
  have w : Writes [.power, .travel] ((advance n s).setPins v) x := writes_actuatorDrops _ _
  have fault : x.fault = s.fault := w.2 .fault (by decide)
  have cycle : x.cycle = (advance n s).cycle := w.2 .cycle (by decide)
  have quench : x.quench = (advance n s).quench := w.2 .quench (by decide)
  have settings : x.settings = s.settings := w.2 .settings (by decide)
  have pins : t.pins = v := by
    have before : x.pins = v := w.2 .pins (by decide)
    rw [settled_pins]
    split <;> simp [before]
  have bad' : t.actuatorGood = false := by rw [State.actuatorGood, pins]; exact bad
  refine ⟨pins, drvEn_of_not_good bad', enable_of_not_good bad', fun role on => ?_, fun enabled => ?_, fun mask reported => ?_, fun silent => ?_⟩
  · have stopped : TravelStopped x := travelStopped_actuatorDrops s.enable role on
    refine travelStopped_same (t := if reports then reportPlain .actuatorFault x else x) ?_ (settled_travel _ _)
    split
    · exact keeps_report reportKeeps_travelStopped _ stopped
    · exact stopped
  · obtain ⟨role, inCycle, -⟩ := (enable_iff s).1 enabled
    have off : PowerZeroed x := by
      unfold x
      rw [enabled]
      exact powerZeroed_actuatorDrops role (ne_offline_of_inCycle inCycle)
    refine powerZeroed_same (t := if reports then reportPlain .actuatorFault x else x) ?_ (settled_power _ _)
    split
    · exact keeps_report reportKeeps_powerZeroed _ off
    · exact off
  · rw [settled_isLatched, if_pos reported]
    exact reportPlain_latched ((isMasked_of_settings settings _).trans mask)
  · have still : (if reports then reportPlain .actuatorFault x else x) = x := by
      rcases silent with e | e
      · rw [e, if_neg Bool.false_ne_true]
      · have stands : x.latchable .actuatorFault = false := by
          rw [State.latchable, State.isMasked, State.isLatched, settings, fault]
          exact e
        rw [reportPlain, report_of_not (by exact stands), ite_self]
    rw [settled_fault, settled_cycle, settled_quench, still]
    exact ⟨fault, cycle, quench⟩

theorem actuatorTrips_eq (on : t.cycle.state ≠ .offline) :
    actuatorTrips t = reportPlain .actuatorFault (actuatorDrops t.enable (t.setPins { t.pins with actFault := true })) := by
  refine if_neg ?_
  rw [(writes_actuatorDrops _ _).2 .cycle (by decide)]
  exact on

theorem actuatorUnready_eq (t : State) :
    actuatorUnready t =
      if t.inCycle then reportPlain .actuatorFault (actuatorDrops t.enable (t.setPins { t.pins with actReady := false }))
      else actuatorDrops t.enable (t.setPins { t.pins with actReady := false }) := by
  have cycle : (actuatorDrops t.enable (t.setPins { t.pins with actReady := false })).inCycle = t.inCycle := by
    rw [State.inCycle, (writes_actuatorDrops _ _).2 .cycle (by decide)]
    rfl
  unfold actuatorUnready
  dsimp only
  rw [cycle]

/-- Settles O31. -/
theorem actuatorInputs : Obligations.ActuatorInputs := by
  intro ticks s u
  refine ⟨fun inactive on => ?_, fun active => ?_, fun active => ?_, fun inactive => ?_, ?_, ?_⟩
  · have trips : exec (.actFaultActive ticks) s = .next (settled s
        (if true then reportPlain .actuatorFault (actuatorDrops s.enable (u.setPins { s.pins with actFault := true }))
        else actuatorDrops s.enable (u.setPins { s.pins with actFault := true }))) := by
      have changed : ¬ (u.pins.actFault = true) := fun active => Bool.false_ne_true (inactive.symm.trans active)
      show settle s (if u.pins.actFault then u else actuatorTrips u) = _
      rw [if_neg changed, actuatorTrips_eq (t := u) on]
      rfl
    obtain ⟨pins, drive, enable, travel, power, latched, silent⟩ :=
      actuator_dropped (s := s) (v := { s.pins with actFault := true }) ticks true (by simp)
    exact ⟨_, trips, pins, drive, enable, fun role => travel role on, power, fun _ stands => (silent (.inr stands)).2.2,
      fun mask => latched mask rfl, fun stands => ⟨(silent (.inr stands)).1, (silent (.inr stands)).2.1⟩⟩
  · have drops : exec (.actReadyInactive ticks) s = .next (settled s
        (if s.inCycle then reportPlain .actuatorFault (actuatorDrops s.enable (u.setPins { s.pins with actReady := false }))
        else actuatorDrops s.enable (u.setPins { s.pins with actReady := false }))) := by
      show settle s (if u.pins.actReady then actuatorUnready u else u) = _
      rw [if_pos (show u.pins.actReady = true from active), actuatorUnready_eq]
      rfl
    obtain ⟨pins, drive, enable, travel, power, latched, silent⟩ :=
      actuator_dropped (s := s) (v := { s.pins with actReady := false }) ticks s.inCycle (by simp)
    exact ⟨_, drops, pins, drive, enable, travel, power, fun cycle mask => latched mask cycle,
      fun rest => ⟨(silent (.inl rest)).1, (silent (.inl rest)).2.1⟩⟩
  · show settle s (if u.pins.actFault then u else actuatorTrips u) = _
    rw [if_pos (show u.pins.actFault = true from active)]
    exact congrArg Host.Outcome.next (settled_advance ticks s)
  · show settle s (if u.pins.actReady then actuatorUnready u else u) = _
    rw [if_neg fun active : u.pins.actReady = true => Bool.false_ne_true (inactive.symm.trans active)]
    exact congrArg Host.Outcome.next (settled_advance ticks s)
  · exact next_settled (n := ticks) rfl rfl rfl
  · exact next_settled (n := ticks) rfl rfl rfl

/-! ## O32: an interlock sample -/

/-- The state in which a sample has been taken and the hold acted on. -/
def sampled (pins : Marks8) (s : State) : State :=
  holdBegins s.hold (s.setInterlock (takeSample (activeInputs s pins) (fallsAt s (activeInputs s pins)) s.interlock))

theorem interlockSample_of_on (pins : Marks8) (on : s.cycle.state ≠ .offline) :
    interlockSample pins s = groupATrips (fallsAt s (activeInputs s pins)) (sampled pins s) := if_neg on

theorem activeInputs_getLsbD (s : State) (pins : Marks8) (n : Nat) :
    (activeInputs s pins).getLsbD n = (pins.getLsbD n != s.settings.polarity.getLsbD n) := by
  simp [activeInputs]

theorem fallsAt_getLsbD (s : State) (level : Marks8) {n : Nat} (inside : n < 8) :
    (fallsAt s level).getLsbD n = (s.interlock.sampled && s.interlock.level.getLsbD n && !level.getLsbD n) := by
  unfold fallsAt
  cases s.interlock.sampled <;> simp [inside]

theorem writes_sampled (pins : Marks8) (s : State) : Writes [.power, .interlock] s (sampled pins s) :=
  writes_trans (by decide) (writes_mono (bs := [.power, .interlock]) (by decide) (writes_setInterlock _ s)) (writes_holdBegins _ _)

theorem sampled_interlock (pins : Marks8) (s : State) :
    (sampled pins s).interlock = takeSample (activeInputs s pins) (fallsAt s (activeInputs s pins)) s.interlock := by
  rw [sampled, (writes_holdBegins _ _).2 .interlock (by decide)]
  rfl

theorem hold_iff (t : State) :
    t.hold = true ↔ t.cycle.state ≠ .offline ∧ t.interlock.level &&& t.settings.groupB ≠ t.settings.groupB := by
  simp [State.hold]

/-- A hold that a sample begins zeroes a POWER station's command. -/
theorem sampled_powerZeroed {pins : Marks8} (role : s.role = some .power) (on : s.cycle.state ≠ .offline) (before : s.hold = false)
    (now : (sampled pins s).hold = true) : PowerZeroed (sampled pins s) := by
  have w := writes_holdBegins s.hold (s.setInterlock (takeSample (activeInputs s pins) (fallsAt s (activeInputs s pins)) s.interlock))
  have holds : (s.setInterlock (takeSample (activeInputs s pins) (fallsAt s (activeInputs s pins)) s.interlock)).hold = true := by
    rw [← now, State.hold, State.hold, sampled, w.2 .cycle (by decide), w.2 .interlock (by decide), w.2 .settings (by decide)]
  rw [sampled, holdBegins, before, holds, if_pos (by decide)]
  exact powerZeroed_zeroPower ((runs_iff _ _).2 ⟨role, on⟩)

theorem groupATrips_of_not {falls : Marks8}
    (none_ : ¬ (falls &&& t.settings.groupA ≠ 0 ∧ (t.cycle.state = .starting ∨ t.cycle.state = .scanning))) :
    groupATrips falls t = t := if_neg none_

theorem groupATrips_of {falls : Marks8} (trips : falls &&& t.settings.groupA ≠ 0)
    (state : t.cycle.state = .starting ∨ t.cycle.state = .scanning) :
    groupATrips falls t = reportPlain .interlockTrip t := if_pos ⟨trips, state⟩

theorem keeps_groupATrips {P : State → Prop} (w : ReportKeeps P) (falls : Marks8) (h : P t) : P (groupATrips falls t) := by
  unfold groupATrips
  split
  · exact keeps_report w _ h
  · exact h

theorem groupATrips_kept (falls : Marks8) (t : State) :
    (groupATrips falls t).settings = t.settings ∧ (groupATrips falls t).tracker = t.tracker ∧
      (groupATrips falls t).peers = t.peers ∧ (groupATrips falls t).interlock = t.interlock ∧
      (groupATrips falls t).store = t.store := by
  unfold groupATrips
  split <;> simp

/-- Settles O32. -/
theorem interlockSample_settles : Obligations.InterlockSample := by
  intro ticks pins s u
  refine ⟨fun off => ?_, fun on => ?_⟩
  · have still : interlockSample pins u = u := if_pos off
    exact next_settled (n := ticks) still (congrArg State.cycle still) ((congrArg State.store still).trans rfl)
  let falls := fallsAt u (activeInputs u pins)
  let v := sampled pins u
  let w := groupATrips falls v
  have sample : exec (.interlockSample ticks pins) s = .next (settled s w) := by
    show settle s (interlockSample pins u) = _
    rw [interlockSample_of_on (s := u) pins on, settle_next]
  have wrote : Writes [.power, .interlock] u v := writes_sampled pins u
  have vCycle : v.cycle = u.cycle := wrote.2 .cycle (by decide)
  have vSettings : v.settings = s.settings := wrote.2 .settings (by decide)
  have vFault : v.fault = s.fault := wrote.2 .fault (by decide)
  have vStore : v.store = s.store := wrote.2 .store (by decide)
  have vInterlock : v.interlock = takeSample (activeInputs u pins) falls u.interlock := sampled_interlock pins u
  obtain ⟨wSettings, wTracker, wPeers, wInterlock, wStore⟩ := groupATrips_kept falls v
  obtain ⟨carried, tInterlock⟩ := settled_interlock (t := w) s
  have interlock : (settled s w).interlock = { takeSample (activeInputs u pins) falls u.interlock with carried := carried } := by
    rw [tInterlock, show w.interlock = v.interlock from wInterlock, vInterlock]
  have quiet (none_ : ¬ (falls &&& v.settings.groupA ≠ 0 ∧ (v.cycle.state = .starting ∨ v.cycle.state = .scanning))) :
      settled s w = v := by
    unfold w
    rw [groupATrips_of_not none_]
    exact settled_eq (n := ticks) vCycle vStore
  refine ⟨settled s w, sample, by rw [interlock]; rfl, fun n inside => ?_, fun before now role => ?_, fun ⟨notStarting, notScanning⟩ => ?_,
    fun noFall => ?_, fun mild => ?_, ?_, ?_, ?_⟩
  · intro wasActive isActive falling
    have fallen : falls.getLsbD n = falling := by
      unfold falls
      rw [fallsAt_getLsbD u _ inside, activeInputs_getLsbD]
      rfl
    refine ⟨?_, ?_, fun fell state => ?_, fun fell groupA state mask => ?_⟩
    · rw [interlock]
      exact activeInputs_getLsbD u pins n
    · rw [interlock, ← fallen]
      show (u.interlock.drop ||| falls).getLsbD n = _
      rw [BitVec.getLsbD_or]
      rfl
    · have state' : w.cycle.state = s.cycle.state := (congrArg Cycle.state (settled_cycle s w)).symm.trans state
      have kept : w.cycle.number = s.cycle.number ∧ w.cycle.last = s.cycle.last :=
        keeps_groupATrips (reportKeeps_number_last _ _) falls (by rw [vCycle]; exact ⟨rfl, rfl⟩)
      have same : settled s w = w :=
        settled_of_same (by simp [sameFields, state', kept, show w.store = s.store from wStore.trans vStore])
      rw [same, show w.interlock = v.interlock from wInterlock, vInterlock]
      show (u.interlock.carried &&& ~~~falls).getLsbD n = false
      rw [BitVec.getLsbD_and, BitVec.getLsbD_not, fallen, fell]
      simp
    · have trips : falls &&& v.settings.groupA ≠ 0 := fun none_ => by
        have bit := congrArg (fun b => BitVec.getLsbD b n) none_
        rw [vSettings] at bit
        simp only [BitVec.getLsbD_and, fallen, fell, groupA] at bit
        simp at bit
      rw [settled_isLatched]
      unfold w
      rw [groupATrips_of trips (by rw [vCycle]; exact state)]
      exact reportPlain_latched ((isMasked_of_settings vSettings _).trans mask)
  · have holds : v.hold = true := by
      obtain ⟨-, level⟩ := (hold_iff _).1 now
      rw [settled_settings, show w.settings = v.settings from wSettings, tInterlock, show w.interlock = v.interlock from wInterlock] at level
      exact (hold_iff v).2 ⟨by rw [vCycle]; exact on, level⟩
    have off : PowerZeroed v := sampled_powerZeroed (s := u) role on before holds
    exact powerZeroed_same (keeps_groupATrips reportKeeps_powerZeroed falls off) (settled_power s w)
  · rw [quiet fun ⟨_, state⟩ => by rw [vCycle] at state; exact state.elim notStarting notScanning]
    exact ⟨vFault, vCycle⟩
  · have still : settled s w = v := quiet fun ⟨trips, _⟩ => trips (by
      refine BitVec.eq_of_getLsbD_eq fun n inside => ?_
      rw [BitVec.getLsbD_and, vSettings, fallsAt_getLsbD u _ inside, activeInputs_getLsbD]
      have rises := noFall n inside
      show (s.interlock.sampled && s.interlock.level.getLsbD n && !(pins.getLsbD n != s.settings.polarity.getLsbD n) &&
        s.settings.groupA.getLsbD n) = _
      cases h1 : s.interlock.sampled <;> cases h2 : s.interlock.level.getLsbD n <;> cases h3 : s.settings.groupA.getLsbD n <;>
        simp_all)
    rw [still]
    exact ⟨vFault, vCycle, wrote.2 .sched (by decide), wrote.2 .quench (by decide), wrote.2 .travel (by decide)⟩
  · rw [settled_cycle, ← vCycle]
    unfold w groupATrips
    split
    · rcases mild with stands | ⟨mild, overflow⟩
      · rw [reportPlain, report_of_not]
        rw [State.latchable, State.isMasked, State.isLatched, vSettings, vFault]
        exact stands
      · exact (writes_report_of_mild ((isFatal_of_settings vSettings _).trans mild)
          ((isFatal_of_settings vSettings _).trans overflow)).2 .cycle (by decide)
    · rfl
  · rw [settled_settings]
    exact wSettings.trans vSettings
  · rw [settled_tracker]
    exact wTracker.trans (wrote.2 .tracker (by decide))
  · rw [settled_peers]
    exact wPeers.trans (wrote.2 .peers (by decide))

end Sys2Proof.Machine
end

section
/-! The Travel Engine: the speed target, moves, the step generator and the spindle (O33, O36 to O39). -/

namespace Sys2Proof.Machine

variable {s t u : State}

/-! ## O33: the segment speed and the speed target -/

section
variable {a : ActiveCopy} {pos k v : Nat} {g b : Segment}

theorem speedOf_of_travel (fields : g.fields = .travel v) : speedOf g = v := by
  simp only [speedOf, fields]

/-- The speed at a position is that of its segment, blended in from a neighbour that abuts it. -/
theorem speedIn_of_holds (h : Holds a pos k g) :
    speedIn a pos = ((entryNeighbour a k g).map fun n =>
      blendIn (speedOf n) (speedOf g) (entryDistance a.header.direction g pos) g.blend).getD (speedOf g) := by
  simp only [speedIn, findSegment_of_holds h, h.1]
  cases entryNeighbour a k g <;> rfl

theorem speedIn_of_gap {first last : Segment} (head : a.segments.head? = some first) (tail : a.segments.getLast? = some last)
    (gap : ∀ g ∈ a.segments, ¬ (g.start ≤ pos ∧ pos < g.stop)) :
    speedIn a pos = if pos < first.start then speedOf first else speedOf last := by
  simp only [speedIn, findSegment_of_gap gap, head, tail]
  rfl

end

theorem speedAtCarriage_eq (s : State) :
    s.speedAtCarriage = match s.store.active with | some a => speedIn a s.tracker.estimate | none => 0 := by
  unfold State.speedAtCarriage
  cases s.store.active <;> rfl

theorem foldl_min_mem_le {l : List Nat} {x : Nat} (a : Nat) (mem : x ∈ l) : l.foldl min a ≤ x := by
  induction l generalizing a with
  | nil => cases mem
  | cons y l ih =>
    rcases List.mem_cons.1 mem with rfl | mem
    · exact (foldl_min_le l _).trans (Nat.min_le_right _ _)
    · exact ih _ mem

/-- The least is one of the values. -/
theorem foldl_min_eq_or_mem (l : List Nat) (a : Nat) : l.foldl min a = a ∨ l.foldl min a ∈ l := by
  induction l generalizing a with
  | nil => exact .inl rfl
  | cons y l ih =>
    rcases ih (min a y) with e | mem
    · rw [List.foldl_cons, e]
      rcases Nat.le_total a y with le | le
      · exact .inl (Nat.min_eq_left le)
      · exact .inr (by rw [Nat.min_eq_right le]; exact List.mem_cons_self)
    · exact .inr (List.mem_cons_of_mem _ mem)

theorem mem_peerCeilings {c : Nat} :
    c ∈ s.peerCeilings ↔ ∃ p, (p ∈ s.peers ∧ s.inRoster p.number = true ∧ p.live = true ∧ p.role ≠ .travel) ∧ ceilingOf p = c := by
  simp only [State.peerCeilings, State.rosterPeers, List.mem_map, List.mem_filter, Bool.and_eq_true, bne_iff_ne]
  exact ⟨fun ⟨p, ⟨⟨mem, roster⟩, live, role⟩, e⟩ => ⟨p, ⟨mem, roster, live, role⟩, e⟩,
    fun ⟨p, ⟨mem, roster, live, role⟩, e⟩ => ⟨p, ⟨⟨mem, roster⟩, live, role⟩, e⟩⟩

theorem rosterLost_iff (s : State) :
    s.rosterLost = true ↔ ∃ p ∈ s.peers, s.inRoster p.number = true ∧ p.live = false := by
  simp [State.rosterLost, State.rosterPeers]

/-- The conditions that make the target 0. -/
theorem travels_iff (s : State) :
    s.travels = true ↔ ¬ (s.cycle.state ≠ .scanning ∨ (0 < s.spindleTarget ∧ s.travel.atSpeed = false) ∨
      (∃ p ∈ s.peers, s.inRoster p.number = true ∧ p.live = false) ∨ s.hold = true ∨ s.pastTravelEnd = true) := by
  rw [← rosterLost_iff]
  have spindle : (s.spindleTarget == 0 || s.travel.atSpeed) = true ↔ ¬ (0 < s.spindleTarget ∧ s.travel.atSpeed = false) := by
    cases s.travel.atSpeed <;> simp
  simp only [State.travels, Bool.and_eq_true, spindle, not_or, beq_iff_eq, Bool.not_eq_true', not_not, Bool.not_eq_true, and_assoc]

/-- Settles O33. -/
theorem speedTargetIsTheLeast : Obligations.SpeedTargetIsTheLeast := by
  refine ⟨speedAtCarriage_eq, fun a pos k g v holds fields => ⟨fun b prev abuts prevFields => ?_, fun alone => ?_⟩,
    fun a pos v first last head tail gap => ⟨fun before fields => ?_, fun after _ fields => ?_⟩, fun s => ?_⟩
  · rw [speedIn_of_holds holds, entryNeighbour_eq_some_iff.2 abuts, Option.map_some, Option.getD_some,
      speedOf_of_travel fields, speedOf_of_travel prevFields]
    exact blended_blendIn a g pos prev v
  · rw [speedIn_of_holds holds, entryNeighbour_eq_none alone, Option.map_none, Option.getD_none, speedOf_of_travel fields]
  · rw [speedIn_of_gap head tail gap, if_pos before, speedOf_of_travel fields]
  · rw [speedIn_of_gap head tail gap, if_neg (Nat.not_lt.2 after), speedOf_of_travel fields]
  · intro stopped contributes
    refine ⟨fun stops => if_neg fun travels => (travels_iff s).1 travels stops, fun goes => ?_⟩
    have target : travelTarget s = s.peerCeilings.foldl min (min s.speedAtCarriage s.settings.ratedSpeed) :=
      if_pos ((travels_iff s).2 goes)
    have base := foldl_min_le s.peerCeilings (min s.speedAtCarriage s.settings.ratedSpeed)
    have ceiling (p : Peer) (h : contributes p) : travelTarget s ≤ ceilingOf p := by
      rw [target]
      exact foldl_min_mem_le _ (mem_peerCeilings.2 ⟨p, h, rfl⟩)
    refine ⟨by omega, by omega, fun p h => ⟨ceiling p h, fun bare => ?_⟩, ?_⟩
    · have zero : ceilingOf p = 0 := by simp [ceilingOf, bare]
      have le := ceiling p h
      omega
    · rw [target]
      rcases foldl_min_eq_or_mem s.peerCeilings (min s.speedAtCarriage s.settings.ratedSpeed) with e | mem
      · rw [e]
        rcases Nat.le_total s.speedAtCarriage s.settings.ratedSpeed with le | le
        · exact .inl (Nat.min_eq_left le)
        · exact .inr (.inl (Nat.min_eq_right le))
      · obtain ⟨p, h, e⟩ := mem_peerCeilings.1 mem
        exact .inr (.inr ⟨p, h, e.symm⟩)

/-! ## What a report leaves of the carriage in a cycle -/

/-- Out of IDLE: in a cycle, or past its end. -/
def CycleOrHalted (t : State) : Prop := t.inCycle = true ∨ t.cycle.state = .aborted ∨ t.cycle.state = .silent

/-- The Travel Engine is as `v` has it but for move and spindle hold, the station in a cycle or halted. -/
def TravelStandsAs (v : Travel) (t : State) : Prop :=
  (∃ hold move, t.travel = { v with spindleHold := hold, move := move }) ∧ CycleOrHalted t

theorem travelStandsAs_spindle {v : Travel} (h : ∃ hold move, t.travel = { v with spindleHold := hold, move := move }) :
    ∃ hold move, (beginSpindleHold t).travel = { v with spindleHold := hold, move := move } := by
  obtain ⟨hold, move, e⟩ := h
  rcases beginSpindleHold_travel t with ⟨-, hold', e'⟩ | ⟨-, e'⟩
  · exact ⟨hold', move, by rw [e', e]⟩
  · exact ⟨hold, move, e'.trans e⟩

theorem abortFromCycle_travel_of {v : Travel} (h : ∃ hold move, t.travel = { v with spindleHold := hold, move := move }) :
    ∃ hold move, (abortFromCycle t).travel = { v with spindleHold := hold, move := move } :=
  travelStandsAs_spindle (t := floodRing (zeroPower (t.setPower t.power.abandon))) (by simpa using h)

/-- In a cycle, and after it, a report leaves speed command, direction and generator. -/
theorem reportKeeps_travelStandsAs (v : Travel) : ReportKeeps (TravelStandsAs v) where
  sched _ h := h
  line _ h := h
  latch _ _ h := h
  aborted c _ h := by
    obtain ⟨⟨hold, move, e⟩, -⟩ := h
    have marked : ∃ hold move, (markAborted c _).travel = { v with spindleHold := hold, move := move } :=
      ⟨hold, none, congrArg (fun w : Travel => { w with move := none }) e⟩
    refine ⟨?_, .inr (.inl (enterAborted_state _ _))⟩
    unfold enterAborted
    split
    · exact abortFromCycle_travel_of marked
    · exact marked
  silent k on h := by
    obtain ⟨⟨hold, move, e⟩, state⟩ := h
    refine ⟨?_, .inr (.inr (enterSilent_state _ _))⟩
    unfold enterSilent
    split
    case isTrue => exact abortFromCycle_travel_of ⟨hold, none, congrArg (fun w : Travel => { w with move := none }) e⟩
    case isFalse rest =>
      have aborted := (state.resolve_left rest).resolve_right ((onLine_iff _).1 on).2
      rw [if_pos aborted]
      exact ⟨hold, move, e⟩

theorem travelStandsAs_enterDone {v : Travel} (e : EndKind)
    (h : ∃ hold move, t.travel = { v with spindleHold := hold, move := move }) : TravelStandsAs v (enterDone e t) := by
  refine keeps_handReport (reportKeeps_travelStandsAs v) _ ⟨?_, .inl (by simp [State.inCycle, markDone_cycle, StationState.inCycle])⟩
  exact travelStandsAs_spindle (t := zeroPower (doneMarked e t)) (by simpa [doneMarked] using h)

/-! ## The step generator -/

theorem loadSteps_of_rest {v : Travel} (rest : generatorLoad v.command = none) : loadSteps v = { v with load := none, rise := none } := by
  simp only [loadSteps, rest]

theorem loadSteps_of_running {v : Travel} {l : Nat × Nat} (runs : generatorLoad v.command = some l) (load : v.load ≠ none)
    (half : v.half ≠ none) : loadSteps v = { v with load := some l } := by
  simp only [loadSteps, runs]
  exact if_pos ⟨Option.isSome_iff_ne_none.2 load, Option.isSome_iff_ne_none.2 half⟩

theorem loadSteps_of_rise {v : Travel} {l : Nat × Nat} (runs : generatorLoad v.command = some l)
    (rises : v.load = none ∨ v.half = none) : loadSteps v = { v.risen (halfTicks l) with load := some l } := by
  simp only [loadSteps, runs]
  refine if_neg fun ⟨load, half⟩ => ?_
  rcases rises with e | e
  · simp [e] at load
  · simp [e] at half

theorem risen_of_pulse {v : Travel} (first : Nat) (half : v.half ≠ none) (step : v.step = true) :
    v.risen first = { v with rise := some first } := if_pos ⟨Option.isSome_iff_ne_none.2 half, step⟩

theorem risen_of_rest {v : Travel} (first : Nat) (rest : v.half = none ∨ v.step = false) :
    v.risen first = { v with half := some first, rise := none } := by
  refine if_neg fun ⟨half, step⟩ => ?_
  rcases rest with e | e
  · simp [e] at half
  · simp [e] at step

/-- The generator is told the command and changes neither it nor the direction nor a move. -/
theorem loadSteps_keeps (v : Travel) :
    (loadSteps v).dir = v.dir ∧ (loadSteps v).move = v.move ∧ (loadSteps v).target = v.target ∧ (loadSteps v).rpm = v.rpm ∧
      (loadSteps v).spindleHold = v.spindleHold := by
  unfold loadSteps
  split
  · exact ⟨rfl, rfl, rfl, rfl, rfl⟩
  · split
    · exact ⟨rfl, rfl, rfl, rfl, rfl⟩
    · unfold Travel.risen
      split <;> exact ⟨rfl, rfl, rfl, rfl, rfl⟩

/-- What a control step drives. -/
def driven (s : State) : Travel := drive s { s.travel with target := travelTarget s }

/-- A control step changes command, direction and move before the generator is loaded. -/
theorem driven_eq (s : State) :
    ∃ command dir move, driven s =
      { s.travel with target := travelTarget s, command := command, dir := dir, move := move } := by
  unfold driven drive
  split
  iterate 3 exact ⟨0, s.travel.dir, s.travel.move, rfl⟩
  · split
    · unfold moveDrive
      split <;> exact ⟨_, _, _, rfl⟩
    · exact ⟨0, s.travel.dir, s.travel.move, rfl⟩
  iterate 3 exact ⟨_, _, s.travel.move, rfl⟩
  iterate 2 exact ⟨_, s.travel.dir, s.travel.move, rfl⟩

theorem travelStep_eq (s : State) : travelStep s = travelRoleEnd (s.setTravel (loadSteps (driven s))) := rfl

/-- The engine after a control step, whatever the role end brings. -/
theorem travelStep_travel (s : State) :
    ∃ hold move, (travelStep s).travel = { loadSteps (driven s) with spindleHold := hold, move := move } := by
  rw [travelStep_eq]
  unfold travelRoleEnd
  split
  · exact (travelStandsAs_enterDone (v := loadSteps (driven s)) .normal ⟨_, _, rfl⟩).1
  · exact ⟨_, _, rfl⟩

/-- Settles O36. -/
theorem stepToggle : Obligations.StepToggle := by
  intro ticks s u
  have toggles : exec (.stepToggle ticks) s =
      .next (settled s (if Timer.due u.travel.half then u.setTravel (toggle u.travel) else u)) := rfl
  have ends {v : Travel} (due : u.travel.half = some 0) (e : toggle u.travel = v) :
      exec (.stepToggle ticks) s = .next (u.setTravel v) := by
    rw [toggles, if_pos (by simp [Timer.due, due]), e]
    exact next_settled (n := ticks) rfl rfl rfl
  refine ⟨fun p preset due load rise => ends due ?_, fun p preset left due load rise => ends due ?_, fun due load => ends due ?_,
    fun early => ?_, fun role on => ?_⟩
  · have load' : u.travel.load = some (p, preset) := load
    have rise' : u.travel.rise = none := (pass_eq_none ticks s.travel.rise).2 rise
    simp only [toggle, load', rise']
    rfl
  · have load' : u.travel.load = some (p, preset) := load
    simp only [toggle, load', rise]
    rfl
  · have load' : u.travel.load = none := load
    simp only [toggle, load']
  · rw [toggles, if_neg (by simpa [Timer.due] using early)]
    exact congrArg Host.Outcome.next (settled_advance ticks s)
  · obtain ⟨hold, move, travel⟩ := travelStep_travel u
    obtain ⟨command, dir, move', d⟩ := driven_eq u
    have running : s.runs .travel = true := (runs_iff _ _).2 ⟨role, on⟩
    have half_iff : u.travel.half = none ↔ s.travel.half = none := pass_eq_none ticks s.travel.half
    have loaded : u.travel.load = s.travel.load := rfl
    refine ⟨_, exec_travelControlStep_of_runs ticks running, ?_⟩
    rw [settled_travel, travel]
    cases l : generatorLoad (driven u).command with
    | none =>
      rw [loadSteps_of_rest l, d]
      exact ⟨fun _ => ⟨rfl, rfl⟩, fun some_ => absurd rfl some_, fun some_ => absurd rfl some_⟩
    | some l =>
      have half : (driven u).half = u.travel.half := by rw [d]
      have load : (driven u).load = s.travel.load := by rw [d]; exact loaded
      have step : (driven u).step = s.travel.step := by rw [d]; rfl
      have rise : (driven u).rise = u.travel.rise := by rw [d]
      by_cases rises : s.travel.load = none ∨ s.travel.half = none
      · rw [loadSteps_of_rise l (by rw [load, half, half_iff]; exact rises)]
        refine ⟨fun none_ => absurd none_ (by simp), fun _ a b => absurd rises (not_or.2 ⟨a, b⟩),
          fun _ _ => ⟨fun ⟨under, pulse⟩ => ?_, fun rest => ?_⟩⟩
        · rw [risen_of_pulse _ (by rw [half]; exact fun e => under (half_iff.1 e)) (step.trans pulse)]
          exact ⟨half, rfl⟩
        · rw [risen_of_rest _ (by rw [half, half_iff, step]; exact rest)]
          exact ⟨rfl, rfl⟩
      · obtain ⟨loads, runs⟩ := not_or.1 rises
        rw [loadSteps_of_running l (by rw [load]; exact loads) (by rw [half]; exact fun e => runs (half_iff.1 e))]
        exact ⟨fun none_ => absurd none_ (by simp), fun _ _ _ => ⟨half, rise⟩, fun _ none_ => absurd none_ rises⟩

/-! ## Frames that arrive -/

/-- A command comes from the line's master, number 0, which no table holds. -/
theorem receipt_of_master (s : State) : receipt 0 s = s := by
  have none_ : s.tablesNumber 0 = false := Bool.eq_false_iff.2 fun tables => ((tablesNumber_iff s 0).1 tables).2.1 rfl
  rw [receipt, none_, if_neg Bool.false_ne_true]

theorem source_of_command {k : Kind} {f : Rx} (command : classOf k = .command) (accepted : s.accepts k f = true) : f.source = 0 := by
  have free : excluded k f.source = false := by
    have both := accepted
    simp only [State.accepts, Bool.and_eq_true, Bool.not_eq_true'] at both
    exact both.2
  simpa [excluded, command] using free

/-- An accepted frame that is not a JOIN or BEACON is its sender's receipt, and then acts. -/
theorem receive_of_arrives {k : Kind} {f : Rx} {act : State → State} (n : Nat) (arrives : Arrives k f s)
    (plain : ¬ (k = .beacon ∨ k = .join)) :
    receive k f act (advance n s) = act (receipt f.source (s.heard n)) := by
  obtain ⟨good, other, accepted, hears⟩ := arrives
  have whole := receive_of_accepted (act := act) (s := advance n s) good other accepted hears
  rw [if_neg plain] at whole
  exact whole

/-- An accepted command acts in the state in which the reception has ended. -/
theorem receive_of_command {k : Kind} {f : Rx} {act : State → State} (n : Nat) (arrives : Arrives k f s)
    (command : classOf k = .command) : receive k f act (advance n s) = act (s.heard n) := by
  have plain : ¬ (k = .beacon ∨ k = .join) := by
    rintro (rfl | rfl) <;> exact absurd command (by decide)
  rw [receive_of_arrives n arrives plain, source_of_command command arrives.2.2.1, receipt_of_master]

/-! ## O37: POSITION -/

/-- Settles O37. -/
theorem positionFrame : Obligations.PositionFrame := by
  intro ticks f s arrives u target speed result
  have takes : exec (.position ticks f) s = .next (settled s (takePosition target speed u)) := by
    show settle s (receive .position f (takePosition (u32 f.words 0) (u16 f.words 2)) (advance ticks s)) = _
    rw [receive_of_command ticks arrives rfl]
    rfl
  refine ⟨fun refused => ?_, fun role idle range => ?_, fun role idle low slow fast => ?_⟩
  · have act : takePosition target speed u = result .refusedState := if_pos refused
    rw [takes, act]
  · have state : ¬ (u.role ≠ some .travel ∨ u.cycle.state ≠ .idle) := fun h => h.elim (· role) (· idle)
    have act : takePosition target speed u = result .refusedRange := (if_neg state).trans (if_pos range)
    rw [takes, act]
  · have state : ¬ (u.role ≠ some .travel ∨ u.cycle.state ≠ .idle) := fun h => h.elim (· role) (· idle)
    have range : ¬ (Config.maxPosition < target ∨ speed = 0 ∨ Config.maxSpeed < speed) := by
      have position : Config.maxPosition = 300000 := rfl
      have top : Config.maxSpeed = 5000 := rfl
      omega
    refine ⟨⟨target, min speed s.settings.ratedSpeed, aheadOf u.travel.dir u.tracker.estimate target⟩, rfl, rfl, ?_⟩
    rw [takes]
    refine congrArg Host.Outcome.next (congrArg (settled s) ?_)
    exact (if_neg state).trans (if_neg range)

/-! ## O38: moves -/

/-- Outside a cycle no role ends. -/
theorem travelRoleEnd_of_not (rest : ¬ (t.cycle.state = .scanning ∧ t.pastTravelEnd = true ∧ t.travel.command = 0)) :
    travelRoleEnd t = t := if_neg rest

theorem travelStep_of_rest (rest : ¬ (s.cycle.state = .scanning ∧ s.pastTravelEnd = true ∧ (driven s).command = 0)) :
    travelStep s = s.setTravel (loadSteps (driven s)) := by
  rw [travelStep_eq]
  refine travelRoleEnd_of_not ?_
  rw [State.setTravel_travel, loadSteps_command]
  exact rest

/-- A control step that ends no role answers the engine it loaded. -/
theorem exec_travelControlStep_of_rest (n : Nat) (role : s.role = some .travel) (on : s.cycle.state ≠ .offline)
    (rest : ¬ (s.cycle.state = .scanning ∧ (advance n s).pastTravelEnd = true ∧ (driven (advance n s)).command = 0)) :
    exec (.travelControlStep n) s = .next ((advance n s).setTravel (loadSteps (driven (advance n s)))) := by
  rw [exec_travelControlStep_of_runs n ((runs_iff _ _).2 ⟨role, on⟩), travelStep_of_rest (s := advance n s) rest]
  exact next_settled (n := n) rfl rfl rfl

theorem driven_of_move {m : Move} (idle : s.cycle.state = .idle) (move : s.travel.move = some m) :
    driven s = moveDrive s m { s.travel with target := travelTarget s } := by
  simp only [driven, drive, idle, move]

theorem moveEnds_iff (s : State) (m : Move) (v : Travel) :
    moveEnds s m v = true ↔ s.tracker.estimate = m.target ∨
      (v.command ≠ 0 ∧ m.ahead = true ∧ ¬ ((v.dir = .up ∧ s.tracker.estimate < m.target) ∨ (v.dir = .down ∧ m.target < s.tracker.estimate))) := by
  have ahead : aheadOf v.dir s.tracker.estimate m.target = true ↔
      (v.dir = .up ∧ s.tracker.estimate < m.target) ∨ (v.dir = .down ∧ m.target < s.tracker.estimate) := by
    cases v.dir <;> simp [aheadOf]
  rw [← ahead]
  simp [moveEnds, and_assoc]

theorem moveDrive_of_not {m : Move} {v : Travel} (still : ¬ moveEnds s m v = true) (good : s.actuatorGood = true) :
    moveDrive s m v =
      let command := moveToward s.settings.acceleration (moveGoal s m v) v.command
      let dir := if command = 0 ∧ s.atRest = true then moveDir s.tracker.estimate m.target else v.dir
      { v with command := command, dir := dir, move := some { m with ahead := aheadOf dir s.tracker.estimate m.target } } := by
  rw [moveDrive, if_neg still, if_pos good]

/-- Settles O38. -/
theorem moveControlStep : Obligations.MoveControlStep := by
  refine ⟨isqrt_spec, fun ticks s m role idle move => ?_⟩
  intro e d goal ahead
  have step := exec_travelControlStep_of_rest ticks role (by simp [idle]) fun h => by simp [idle] at h
  rw [driven_of_move (s := advance ticks s) idle move] at step
  let v : Travel := { (advance ticks s).travel with target := travelTarget (advance ticks s) }
  have ends_iff := moveEnds_iff (advance ticks s) m v
  refine ⟨fun ends => ?_, fun away goes ready sound => ?_⟩
  · have drives : moveDrive (advance ticks s) m v = { v with command := 0, move := none } := if_pos (ends_iff.2 ends)
    rw [drives] at step
    exact ⟨_, step, rfl, by rw [State.setTravel_travel, loadSteps_command], (loadSteps_keeps _).2.1,
      by rw [State.setTravel_travel, loadSteps_load, generatorLoad_zero], (loadSteps_keeps _).1⟩
  · have still : ¬ moveEnds (advance ticks s) m v = true := fun ends => by
      rcases ends_iff.1 ends with at_ | ⟨moving, was, passed⟩
      · exact away at_
      · rcases goes with rest | behind | front
        · exact moving rest
        · exact Bool.false_ne_true (behind.symm.trans was)
        · exact passed front
    have good : (advance ticks s).actuatorGood = true := by
      show (s.pins.actReady && !s.pins.actFault) = true
      rw [ready, sound]
      rfl
    have toward : moveGoal (advance ticks s) m v = goal := by
      show (if s.hold = true ∨ s.travel.dir ≠ (if e ≤ m.target then Dir.up else Dir.down) then 0
        else min m.speed (isqrt (2000 * s.settings.acceleration * (if m.target ≤ e then e - m.target else m.target - e)))) = _
      have same : (if m.target ≤ e then e - m.target else m.target - e) = d := by
        unfold d
        split <;> split <;> omega
      rw [same]
    rw [moveDrive_of_not still good, toward] at step
    refine ⟨_, step, rfl, ?_, ?_, ?_, ?_⟩
    · rw [State.setTravel_travel, (loadSteps_keeps _).2.1]
      rfl
    · rw [State.setTravel_travel, loadSteps_command]
      rfl
    · rw [State.setTravel_travel, loadSteps_load, loadSteps_command]
    · rw [State.setTravel_travel, (loadSteps_keeps _).1, loadSteps_command]
      simp only [State.atRest, beq_iff_eq]
      rfl

/-! ## O39: the spindle -/

/-- A window ends with SPIN_LOST. -/
def spinFalls (s : State) : Prop :=
  s.travel.atSpeed = true ∧ nearTarget (rpmOf s.travel.tachCount s.settings.tachPulses) s.spindleTarget = false ∧
    s.spinRun = true ∧ s.cycle.state.watchesSpindle = true

theorem tachWindow_of_fall (falls : spinFalls s) : tachWindow s = reportPlain .spinLost (endTachWindow s) := by
  obtain ⟨was, far, runs, state⟩ := falls
  have now : (endTachWindow s).travel.atSpeed = false := far
  simp [tachWindow, was, now, runs, state]

theorem tachWindow_of_not (stays : ¬ spinFalls s) : tachWindow s = endTachWindow s := by
  refine if_neg fun h => stays ?_
  simp only [Bool.and_eq_true, Bool.not_eq_true'] at h
  exact ⟨h.1.1.1, h.1.1.2, h.1.2, h.2⟩

theorem watchesSpindle_iff (c : StationState) :
    c.watchesSpindle = true ↔ c = .starting ∨ c = .scanning ∨ c = .done ∨ c = .aborted := by
  cases c <;> simp [StationState.watchesSpindle]

/-- Settles O39. -/
theorem spindleTach : Obligations.SpindleTach := by
  intro ticks s role on u rpm off lost
  have runs : u.runs .travel = true := (runs_iff _ _).2 ⟨role, on⟩
  have window : exec (.tachWindowEnd ticks) s =
      .next (settled s (if u.runs .travel && Timer.due u.travel.tachWindow then tachWindow u else u)) := rfl
  have near : nearTarget rpm s.spindleTarget = true ↔ off ≤ s.spindleTarget / 20 := by
    show decide (off ≤ s.spindleTarget / 20) = true ↔ _
    exact decide_eq_true_iff
  have falls_iff : spinFalls u ↔ lost := by
    have far : nearTarget rpm s.spindleTarget = false ↔ s.spindleTarget / 20 < off := by
      rw [← Bool.not_eq_true, near, not_le]
    show s.travel.atSpeed = true ∧ nearTarget rpm s.spindleTarget = false ∧ s.spinRun = true ∧ s.cycle.state.watchesSpindle = true ↔ _
    rw [far, watchesSpindle_iff]
  refine ⟨?_, fun due => ?_, fun early => ?_⟩
  · show Host.Outcome.next (settled s (if u.runs .travel then _ else u)) = _
    rw [if_pos runs]
    exact next_settled (n := ticks) rfl rfl rfl
  · have ended : exec (.tachWindowEnd ticks) s = .next (settled s (tachWindow u)) := by
      rw [window, runs, due]
      rfl
    have stands : ∃ hold move, (tachWindow u).travel = { (endTachWindow u).travel with spindleHold := hold, move := move } := by
      by_cases falls : spinFalls u
      · rw [tachWindow_of_fall falls]
        refine (keeps_report (reportKeeps_travelStandsAs (endTachWindow u).travel) _ ⟨⟨_, _, rfl⟩, ?_⟩).1
        obtain ⟨-, -, -, state⟩ := falls
        rcases (watchesSpindle_iff _).1 state with e | e | e | e
        · exact .inl ((inCycle_iff _).2 (.inl e))
        · exact .inl ((inCycle_iff _).2 (.inr (.inl e)))
        · exact .inl ((inCycle_iff _).2 (.inr (.inr e)))
        · exact .inr (.inl e)
      · rw [tachWindow_of_not falls]
        exact ⟨_, _, rfl⟩
    obtain ⟨hold, move, travel⟩ := stands
    refine ⟨_, ended, ?_, ?_, ?_, ?_, ?_, ?_, fun falls mask => ?_, fun stays => ?_⟩
    · rw [settled_travel, travel]; rfl
    · rw [settled_travel, travel]; exact near
    · rw [settled_travel, travel]; rfl
    · rw [settled_travel, travel]; rfl
    · rw [settled_travel, travel]; rfl
    · rw [settled_travel, travel]; rfl
    · rw [settled_isLatched, tachWindow_of_fall (falls_iff.2 falls)]
      exact reportPlain_latched mask
    · have same : tachWindow u = endTachWindow u := tachWindow_of_not fun falls => stays (falls_iff.1 falls)
      have whole : settled s (endTachWindow u) = endTachWindow u := settled_eq (n := ticks) rfl rfl
      rw [same, whole]
      rfl
  · rw [window, runs]
    have early' : Timer.due u.travel.tachWindow = false := by simpa [Timer.due] using early
    rw [early']
    exact congrArg Host.Outcome.next (settled_advance ticks s)

end Sys2Proof.Machine
end

section
/-! A control step of the Travel Engine outside moves, and the CYCLE SUMMARY (O34). -/

namespace Sys2Proof.Machine

variable {s t u : State}

/-! ## The CYCLE SUMMARY -/

/-- Word 0 of a CYCLE SUMMARY. -/
def summaryWord0 (s : State) : Word :=
  toWord (put 14 2 s.ownRoleCode + (if s.role = some .power then putFlag 12 s.power.clampedSeen else 0) +
    put 9 3 (summaryCode s.summary) + put 8 1 ((s.cycle.endKind.map endKindCode).getD 0) + put 0 8 s.cycle.number)

theorem summaryWord0_fields (s : State) :
    bitsOf (summaryWord0 s) 15 14 = s.loader.roleCode.toNat ∧
    bitsOf (summaryWord0 s) 12 12 = (if s.role = some .power then s.power.clampedSeen.toNat else 0) ∧
    bitsOf (summaryWord0 s) 11 11 = s.summary.fatal.toNat ∧ bitsOf (summaryWord0 s) 10 10 = s.summary.nonFatal.toNat ∧
    bitsOf (summaryWord0 s) 9 9 = s.summary.hold.toNat ∧
    bitsOf (summaryWord0 s) 8 8 = (if s.cycle.endKind = some .shortTravel then 1 else 0) ∧
    bitsOf (summaryWord0 s) 7 0 = s.cycle.number % 256 := by
  have clamped : (if s.role = some .power then putFlag 12 s.power.clampedSeen else 0) =
      (if s.role = some .power then s.power.clampedSeen.toNat else 0) * 4096 := by
    split
    · exact putFlag_eq 12 _
    · rfl
  have ends : (s.cycle.endKind.map endKindCode).getD 0 = if s.cycle.endKind = some .shortTravel then 1 else 0 := by
    rcases s.cycle.endKind with _ | _ | _ <;> rfl
  have code : summaryCode s.summary = s.summary.fatal.toNat * 4 + s.summary.nonFatal.toNat * 2 + s.summary.hold.toNat := by
    simp only [summaryCode, putFlag_eq]
    omega
  have role : s.ownRoleCode = s.loader.roleCode.toNat := rfl
  have roleFits : s.loader.roleCode.toNat < 4 := s.loader.roleCode.isLt
  have clampedFits : (if s.role = some .power then s.power.clampedSeen.toNat else 0) < 2 := by
    split
    · exact Bool.toNat_lt _
    · decide
  have endsFits : (if s.cycle.endKind = some EndKind.shortTravel then 1 else 0) < 2 := by split <;> decide
  have fatal := Bool.toNat_lt s.summary.fatal
  have nonFatal := Bool.toNat_lt s.summary.nonFatal
  have hold := Bool.toNat_lt s.summary.hold
  simp only [summaryWord0, clamped, ends, code, role, bitsOf_toWord, put]
  refine ⟨?_, ?_, ?_, ?_, ?_, ?_, ?_⟩ <;> omega

theorem cycleSummaryFrame_layout (s : State) :
    let f := cycleSummaryFrame s
    let w := fun i : Nat => f.words.getD i 0
    f.kind = .cycleSummary ∧ f.source = s.loader.number ∧ f.destination = 0 ∧ w 0 = summaryWord0 s ∧
    w 1 = toWord s.armedRecipe ∧ w 2 = toWord s.cycle.scanTenths ∧ w 3 = toWord s.sched.dropCount :=
  ⟨rfl, rfl, rfl, rfl, rfl, rfl, rfl⟩

theorem cycleSummaryFrame_words_of_travel (role : s.role = some .travel) :
    (cycleSummaryFrame s).words = [summaryWord0 s, toWord s.armedRecipe, toWord s.cycle.scanTenths, toWord s.sched.dropCount,
      toWord (put 0 3 (s.tracker.estimate / 65536)), toWord s.tracker.estimate] := by
  simp only [cycleSummaryFrame, State.ownFrame, role]
  simp only [summaryWord0, role]
  rfl

theorem cycleSummaryFrame_words_of_power (role : s.role = some .power) :
    (cycleSummaryFrame s).words = [summaryWord0 s, toWord s.armedRecipe, toWord s.cycle.scanTenths, toWord s.sched.dropCount,
      toWord s.power.notices] := by
  simp only [cycleSummaryFrame, State.ownFrame, role]
  simp only [summaryWord0, role]
  rfl

theorem cycleSummaryFrame_words_of_quench (role : s.role = some .quench) :
    (cycleSummaryFrame s).words = [summaryWord0 s, toWord s.armedRecipe, toWord s.cycle.scanTenths, toWord s.sched.dropCount,
      toWord s.quench.nJudged, toWord s.quench.nGood, toWord s.quench.nRejected, toWord s.quench.nFlushed] := by
  simp only [cycleSummaryFrame, State.ownFrame, role]
  simp only [summaryWord0, role]
  rfl

/-! ## The control step -/

theorem driven_of_cycle (cycle : s.inCycle = true) : driven s = cycleDrive s { s.travel with target := travelTarget s } := by
  rcases (inCycle_iff s).1 cycle with e | e | e <;> simp only [driven, drive, e]

theorem driven_of_halted (state : s.cycle.state = .aborted ∨ s.cycle.state = .silent) :
    driven s = abortDrive s { s.travel with target := travelTarget s } := by
  rcases state with e | e <;> simp only [driven, drive, e]

theorem driven_of_rest (state : s.cycle.state = .joining ∨ s.cycle.state = .armed ∨ (s.cycle.state = .idle ∧ s.travel.move = none)) :
    driven s = { s.travel with target := travelTarget s, command := 0 } := by
  rcases state with e | e | ⟨e, none_⟩
  · simp only [driven, drive, e]
  · simp only [driven, drive, e]
  · simp only [driven, drive, e, none_]

theorem travelTarget_of_not_scanning (state : s.cycle.state ≠ .scanning) : travelTarget s = 0 :=
  if_neg fun travels => (travels_iff s).1 travels (.inl state)

theorem actuatorGood_iff (s : State) : s.actuatorGood = true ↔ s.pins.actReady = true ∧ s.pins.actFault = false := by
  simp [State.actuatorGood]

theorem spindleReleased_congr (cycle : u.cycle = t.cycle) (peers : u.peers = t.peers) :
    t.spindleReleased = u.spindleReleased := by
  have releases : t.releasesSpindle = u.releasesSpindle := by
    funext p
    rw [State.releasesSpindle, State.releasesSpindle, cycle]
  have roster : t.rosterPeers = u.rosterPeers := by
    simp only [State.rosterPeers, State.inRoster, cycle, peers]
  rw [State.spindleReleased, State.spindleReleased, releases, roster]

/-- A frame queued is no part of a CYCLE SUMMARY. -/
theorem cycleSummaryFrame_queued {q : Sched} (drops : q.dropCount = t.sched.dropCount) :
    cycleSummaryFrame (t.setSched q) = cycleSummaryFrame t :=
  cycleSummaryFrame_congr rfl rfl rfl rfl rfl rfl rfl rfl drops rfl rfl

/-- Spindle hold begins at entry to DONE, and is released at once where no roster QUENCH peer holds it. -/
theorem markDone_spindleHold {e : EndKind} (role : t.role = some .travel) :
    (markDone e t).travel.spindleHold = !(markDone e t).spindleReleased := by
  have role' : (zeroPower (doneMarked e t)).role = some .travel := (role_of_loader (zeroPower_loader _)).trans role
  have begun : markDone e t = testSpindleHold ((zeroPower (doneMarked e t)).setTravel { (zeroPower (doneMarked e t)).travel with spindleHold := true }) :=
    (markDone_eq e t).trans (if_pos role')
  rw [begun, testSpindleHold]
  exact Bool.true_and _

/-- Settles O34. -/
theorem travelControlStep : Obligations.TravelControlStep := by
  refine ⟨fun s => ?_, fun ticks s role => ?_⟩
  · intro f w
    obtain ⟨kind, source, destination, w0, w1, w2, w3⟩ := cycleSummaryFrame_layout s
    obtain ⟨role, clamped, fatal, nonFatal, hold, ends, number⟩ := summaryWord0_fields s
    rw [← w0] at role clamped fatal nonFatal hold ends number
    refine ⟨kind, source, destination, role, clamped, fatal, nonFatal, hold, ends, number, ?_, ?_, ?_, fun role => ?_, fun role => ?_,
      fun role => ?_⟩
    · rw [show w 1 = _ from w1, toNat_toWord, State.armedRecipe]
      cases s.store.active <;> rfl
    · rw [show w 2 = _ from w2, toNat_toWord]
    · rw [show w 3 = _ from w3, toNat_toWord]
    · simp only [w, f, cycleSummaryFrame_words_of_travel role]
      refine ⟨rfl, ?_, toNat_toWord _⟩
      show bitsOf (toWord (put 0 3 (s.tracker.estimate / 65536))) 2 0 = _
      simp only [bitsOf_toWord, put]
      omega
    · simp only [w, f, cycleSummaryFrame_words_of_power role]
      exact ⟨rfl, toNat_toWord _⟩
    · simp only [w, f, cycleSummaryFrame_words_of_quench role]
      exact ⟨rfl, toNat_toWord _, toNat_toWord _, toNat_toWord _, toNat_toWord _⟩
  · intro u ready rest
    have good_iff : u.actuatorGood = true ↔ ready := actuatorGood_iff u
    refine ⟨fun cycle => ?_, fun state => ?_, fun state => ?_⟩
    · obtain ⟨hold, move, travel⟩ := travelStep_travel u
      obtain ⟨dir, -, target, -, -⟩ := loadSteps_keeps (driven u)
      have cycleDriven : driven u = cycleDrive u { u.travel with target := travelTarget u } := driven_of_cycle (s := u) cycle
      have on : s.cycle.state ≠ .offline := ne_offline_of_inCycle cycle
      let t := settled s (travelStep u)
      have stepTravel : t.travel = { loadSteps (driven u) with spindleHold := hold, move := move } := by
        unfold t
        rw [settled_travel, travel]
      have command : t.travel.command = (driven u).command := by rw [stepTravel]; exact loadSteps_command _
      have turns : (driven u).dir = if (driven u).command = 0 ∧ rest then s.direction else s.travel.dir := by
        rw [cycleDriven]
        simp only [cycleDrive, State.atRest, beq_iff_eq]
        rfl
      have drives : (driven u).command = if s.travel.dir = s.direction ∧ ready then
          moveToward s.settings.acceleration (travelTarget u) s.travel.command else 0 := by
        rw [cycleDriven]
        refine if_congr (and_congr Iff.rfl good_iff) rfl rfl
      have kept : (travelStep u).tracker = u.tracker ∧ (travelStep u).peers = u.peers := by
        rw [travelStep_eq]
        unfold travelRoleEnd
        split
        · simp
        · exact ⟨rfl, rfl⟩
      refine ⟨t, exec_travelControlStep_of_runs ticks ((runs_iff _ _).2 ⟨role, on⟩), ?_, command.trans drives, ?_, ?_,
        (settled_tracker _ _).trans kept.1, (settled_peers _ _).trans kept.2, fun goes => ?_, fun scanning past stopped waits => ?_⟩
      · rw [stepTravel]
        exact target.trans (by rw [cycleDriven]; rfl)
      · rw [command, ← turns, stepTravel]
        exact dir
      · rw [command, stepTravel]
        exact loadSteps_load _
      · have goes' : ¬ (u.cycle.state = .scanning ∧ u.pastTravelEnd = true ∧ (driven u).command = 0) := fun ⟨scanning, past, stopped⟩ => by
          rcases goes with e | e | e
          · exact e scanning
          · exact Bool.false_ne_true (e.symm.trans past)
          · exact e (command.trans stopped)
        have whole : t = u.setTravel (loadSteps (driven u)) := by
          unfold t
          rw [travelStep_of_rest goes']
          exact settled_eq (n := ticks) rfl rfl
        obtain ⟨-, -, -, rpm, spindle⟩ := loadSteps_keeps (driven u)
        obtain ⟨_, _, _, e⟩ := driven_eq u
        rw [whole]
        exact ⟨rfl, rpm.trans (by rw [e]; rfl), spindle.trans (by rw [e]; rfl)⟩
      · let v := u.setTravel (loadSteps (driven u))
        have rests : v.travel.command = 0 := (loadSteps_command _).trans (command.symm.trans stopped)
        obtain ⟨onLine, room, still⟩ := waits
        have ended : travelStep u =
            (markDone .normal v).setSched { v.sched with reportQ := v.sched.reportQ ++ [cycleSummaryFrame (markDone .normal v)] } :=
          (travelStep_eq u).trans ((if_pos ⟨scanning, past, rests⟩).trans (enterDone_of_waits .normal (v := v) onLine still room))
        refine ⟨?_, ?_, ?_⟩
        · unfold t
          rw [settled_cycle, ended, State.setSched_cycle, markDone_cycle]
          rfl
        · unfold t
          rw [settled_travel, ended, State.setSched_travel, markDone_spindleHold (show v.role = some .travel from role)]
          refine congrArg (!·) (spindleReleased_congr ?_ ?_)
          · rw [settled_cycle, State.setSched_cycle]
          · rw [settled_peers, State.setSched_peers]
        · have drops : v.sched.dropCount = (markDone .normal v).sched.dropCount := by rw [markDone_sched]
          unfold t
          rw [(settled_queues s).2.1, cycleSummaryFrame_settled, ended, State.setSched_sched]
          refine congrArg (fun f => s.sched.reportQ ++ [f]) ?_
          exact (cycleSummaryFrame_queued (t := markDone .normal v) drops).symm
    · have on : s.cycle.state ≠ .offline := by rcases state with e | e <;> simp [e]
      have idle : s.cycle.state ≠ .scanning := by rcases state with e | e <;> simp [e]
      rw [exec_travelControlStep_of_rest ticks role on fun ends => idle ends.1, driven_of_halted (s := u) state]
      have none_ : travelTarget u = 0 := travelTarget_of_not_scanning (s := u) idle
      have slows : abortDrive u { u.travel with target := travelTarget u } =
          { u.travel with target := 0, command := if ready then s.travel.command - s.settings.abortDecel else 0 } := by
        rw [abortDrive, none_]
        have same : (if u.actuatorGood = true then u.travel.command - u.settings.abortDecel else 0) =
            if ready then s.travel.command - s.settings.abortDecel else 0 := if_congr good_iff rfl rfl
        rw [← same]
      rw [slows]
    · have on : s.cycle.state ≠ .offline := by rcases state with e | e | ⟨e, -⟩ <;> simp [e]
      have idle : s.cycle.state ≠ .scanning := by rcases state with e | e | ⟨e, -⟩ <;> simp [e]
      rw [exec_travelControlStep_of_rest ticks role on fun ends => idle ends.1, driven_of_rest (s := u) state]
      have none_ : travelTarget u = 0 := travelTarget_of_not_scanning (s := u) idle
      rw [none_, loadSteps_of_rest generatorLoad_zero]

end Sys2Proof.Machine
end

section
/-! The Quench Engine's timers, flow, verdicts and valves (O44 to O46). -/

namespace Sys2Proof.Machine

variable {s t u : State}

/-- What flood and flush and the entry to rest keep of the engine, every report keeps. -/
theorem reportKeeps_quench {P : Quench → Prop} (flood : ∀ q n, P q → P (q.flushAndFlood n)) (down : ∀ q, P q → P q.standDown) :
    ReportKeeps fun t => P t.quench where
  sched _ h := h
  line _ h := h
  latch _ _ h := h
  aborted c _ h := by
    rcases enterAborted_quench c _ with ⟨-, -, e⟩ | ⟨-, -, e⟩ | ⟨-, e⟩ | ⟨-, e⟩ <;> rw [e]
    · exact flood _ _ h
    · exact h
    · exact down _ h
    · exact h
  silent k _ h := by
    rcases enterSilent_quench k _ with ⟨-, -, e⟩ | ⟨-, -, e⟩ | ⟨-, e⟩ | ⟨-, e⟩ <;> rw [e]
    · exact flood _ _ h
    · exact h
    · exact down _ h
    · exact h

theorem due_iff (timer : Timer) : Timer.due timer = true ↔ timer = some 0 := beq_iff_eq

/-! ## O45: timers and flow -/

theorem any_decide_iff {o : Option Nat} (p : Nat → Prop) [DecidablePred p] :
    (o.any fun d => decide (p d)) = true ↔ ∃ d, o = some d ∧ p d := by
  cases o <;> simp

theorem flowChecked_iff (s : State) :
    flowChecked s = true ↔ ∃ o, s.quench.openTime = some o ∧ s.settings.settleTime * 20000 + 2000000 ≤ o := by
  refine (any_decide_iff (s.settings.settleTime * Config.ticksPerMs + Config.windowTicks ≤ ·)).trans ?_
  simp only [Config.windowTicks, Config.ticksPerMs]

/-- Settles O45. -/
theorem quenchTimersAndFlow : Obligations.QuenchTimersAndFlow := by
  intro ticks s u
  have soak : exec (.soakExpiry ticks) s =
      .next (settled s (if Timer.due u.quench.soak then u.setQuench { u.quench with soak := none } else u)) := rfl
  have flood : exec (.floodTimerExpiry ticks) s = .next (settled s (if Timer.due u.quench.floodTimer then
      u.setQuench { u.quench.closeSpray with flood := false, floodTimer := none } else u)) := rfl
  have pulse : exec (.flowPulse ticks) s =
      .next (settled s (if u.runs .quench then u.setQuench { u.quench with flowCount := u.quench.flowCount + 1 } else u)) := rfl
  have window : exec (.flowWindowEnd ticks) s =
      .next (settled s (if u.runs .quench && Timer.due u.quench.flowWindow then endFlowWindow u else u)) := rfl
  refine ⟨fun due => ?_, fun early => ?_, fun due => ?_, fun early => ?_, fun role on => ⟨?_, fun due => ?_⟩, fun early => ?_⟩
  · rw [soak, if_pos ((due_iff _).2 due)]
    exact next_settled (n := ticks) rfl rfl rfl
  · rw [soak, if_neg (mt (due_iff _).1 early), settled_advance]
  · rw [flood, if_pos ((due_iff _).2 due)]
    exact next_settled (n := ticks) rfl rfl rfl
  · rw [flood, if_neg (mt (due_iff _).1 early), settled_advance]
  · rw [pulse, if_pos ((runs_iff u _).2 ⟨role, on⟩)]
    exact next_settled (n := ticks) rfl rfl rfl
  · intro low
    have runs : u.runs .quench = true := (runs_iff u _).2 ⟨role, on⟩
    have ended : exec (.flowWindowEnd ticks) s = .next (settled s (endFlowWindow u)) := by
      rw [window, runs, (due_iff _).2 due]
      rfl
    have low_iff : (flowChecked u && decide (u.quench.flowCount < u.settings.flowMinimum)) = true ↔ low := by
      rw [Bool.and_eq_true, flowChecked_iff, decide_eq_true_iff, and_comm]
      rfl
    refine ⟨fun fine => ?_, fun falls => ⟨_, ended, ?_, ?_, fun mask => ?_⟩⟩
    · rw [ended, endFlowWindow, if_neg (mt low_iff.1 fine)]
      exact next_settled (n := ticks) rfl rfl rfl
    all_goals
      rw [endFlowWindow, if_pos (low_iff.2 falls)]
    · rw [settled_quench]
      exact keeps_report (reportKeeps_quench (P := (·.flowCount = 0)) (fun _ _ h => h) fun _ h => h) _ rfl
    · rw [settled_quench]
      exact keeps_report (reportKeeps_quench (P := (·.flowWindow = some 2000000)) (fun _ _ h => h) fun _ h => h) _ rfl
    · rw [settled_isLatched]
      exact reportPlain_latched mask
  · rw [window, if_neg fun h => early ((due_iff _).1 (Bool.and_eq_true _ _ ▸ h).2), settled_advance]

/-! ## O44: delay, verdict and the SLICE RESULT -/

theorem quenchIn_of_holds {a : ActiveCopy} {pos k : Nat} {g : Segment} {q : QuenchFields} (h : Holds a pos k g)
    (fields : g.fields = .quench q) : quenchIn a pos = q := by
  simp only [quenchIn, findSegment_of_holds h, Option.bind_some, h.1, fields]

theorem quenchIn_of_gap {a : ActiveCopy} {pos : Nat} (gap : ∀ g ∈ a.segments, ¬ (g.start ≤ pos ∧ pos < g.stop)) :
    quenchIn a pos = noQuench := by
  simp only [quenchIn, findSegment_of_gap gap, Option.bind_none]

theorem quenchAtRing_of_gap
    (gap : ∀ a, s.store.active = some a → ∀ g ∈ a.segments, ¬ (g.start ≤ s.tracker.tool ∧ s.tracker.tool < g.stop)) :
    s.quenchAtRing = noQuench := by
  cases active : s.store.active with
  | none => simp only [State.quenchAtRing, active, Option.map_none, Option.getD_none]
  | some a => simp only [State.quenchAtRing, active, Option.map_some, Option.getD_some, quenchIn_of_gap (gap a active)]

/-- Delays and judged energies saturate at 16 bits. -/
theorem delayOf_le {now : LocalTime} {e : Entry} {d : Nat} (delay : delayOf now e = some d) : d ≤ 65535 := by
  obtain ⟨t, -, rfl⟩ := Option.map_eq_some_iff.1 delay
  exact Nat.min_le_left _ _

theorem judgedEnergy_le (n : Nat) (l : List (Nat × Nat)) : judgedEnergy n l ≤ 65535 := Nat.min_le_left _ _

theorem verdict_good_iff (v : Verdict) : v.good = true ↔
    v.short = false ∧ v.late = false ∧ v.low = false ∧ v.high = false ∧ v.partialHeat = false ∧ v.lost = false ∧
    v.untracked = false ∧ v.unquenched = false := by
  simp only [Verdict.good, Bool.not_eq_true', Bool.or_eq_false_iff]
  tauto

theorem sliceResultFrame_word4 (v : Verdict) :
    let w := toWord v.code
    bitsOf w 7 7 = v.unquenched.toNat ∧ bitsOf w 6 6 = v.untracked.toNat ∧ bitsOf w 5 5 = v.lost.toNat ∧
    bitsOf w 4 4 = v.partialHeat.toNat ∧ bitsOf w 3 3 = v.high.toNat ∧ bitsOf w 2 2 = v.low.toNat ∧
    bitsOf w 1 1 = v.short.toNat ∧ bitsOf w 0 0 = v.late.toNat := by
  have unquenched := Bool.toNat_lt v.unquenched
  have untracked := Bool.toNat_lt v.untracked
  have lost := Bool.toNat_lt v.lost
  have partialHeat := Bool.toNat_lt v.partialHeat
  have high := Bool.toNat_lt v.high
  have low := Bool.toNat_lt v.low
  have short := Bool.toNat_lt v.short
  have late := Bool.toNat_lt v.late
  simp only [Verdict.code, bitsOf_toWord, putFlag_eq]
  refine ⟨?_, ?_, ?_, ?_, ?_, ?_, ?_, ?_⟩ <;> omega

theorem sliceResultFrame_word0 (s : State) (r : SliceResult) :
    let w := toWord (putFlag 10 r.delay.isSome + put 8 2 r.energies.length + put 0 8 s.cycle.number)
    bitsOf w 10 10 = r.delay.isSome.toNat ∧ bitsOf w 9 8 = r.energies.length % 4 ∧ bitsOf w 7 0 = s.cycle.number % 256 := by
  have delay := Bool.toNat_lt r.delay.isSome
  simp only [bitsOf_toWord, putFlag_eq, put]
  refine ⟨?_, ?_, ?_⟩ <;> omega

/-- Settles O44. -/
theorem entryDelayAndVerdict : Obligations.EntryDelayAndVerdict := by
  refine ⟨fun now e => ⟨fun t heated at_ => ?_, fun t heating at_ => ?_, fun heating none_ => ?_, fun s unquenched => rfl⟩,
    fun s r => ?_, fun s e unquenched => ?_⟩
  · simp only [delayOf, heated, at_]; rfl
  · simp only [delayOf, heating, at_]; rfl
  · simp only [delayOf, heating, none_]; rfl
  · intro f v
    obtain ⟨delay, stages, number⟩ := sliceResultFrame_word0 s r
    refine ⟨rfl, rfl, rfl, _, _, _, _, _, rfl, delay, stages, number, toNat_toWord _, toNat_toWord _, ?_, sliceResultFrame_word4 v⟩
    rw [toNat_toWord]
    cases r.delay <;> rfl
  · intro r q
    have short : r.verdict.short = true ↔ ∃ d, r.delay = some d ∧ d < q.delayMin := any_decide_iff (· < q.delayMin)
    have late : r.verdict.late = true ↔ ∃ d, r.delay = some d ∧ q.delayMax < d := any_decide_iff (q.delayMax < ·)
    have low : r.verdict.low = true ↔ r.judgedEnergy < q.energyLow := decide_eq_true_iff
    have high : r.verdict.high = true ↔ q.energyHigh < r.judgedEnergy := decide_eq_true_iff
    refine ⟨rfl, fun empty => ?_, short, late, low, high, ?_, Iff.rfl, Iff.rfl, rfl, ?_, fun a k g q' active holds fields => ?_,
      fun gap => ?_, fun i => rfl⟩
    · show judgedEnergy s.sliceLength e.energies = 0
      simp [judgedEnergy, empty]
    · show (!e.heated) = true ↔ _
      rw [Bool.not_eq_true']
    · rw [verdict_good_iff]
      have untracked : r.verdict.untracked = false := rfl
      tauto
    · show s.quenchAtRing = q'
      rw [State.quenchAtRing, active]
      exact quenchIn_of_holds holds fields
    · have ring : q = noQuench := quenchAtRing_of_gap gap
      rw [ring] at short late low high ⊢
      refine ⟨rfl, rfl, rfl, rfl, rfl, Bool.eq_false_iff.2 fun h => ?_, Bool.eq_false_iff.2 fun h => ?_,
        Bool.eq_false_iff.2 fun h => ?_, Bool.eq_false_iff.2 fun h => ?_⟩
      · obtain ⟨d, -, below⟩ := short.1 h
        exact absurd below (Nat.not_lt_zero _)
      · obtain ⟨d, delay, beyond⟩ := late.1 h
        exact absurd (delayOf_le delay) (Nat.not_le.2 beyond)
      · exact absurd (low.1 h) (Nat.not_lt_zero _)
      · exact absurd (judgedEnergy_le _ _) (Nat.not_le.2 (high.1 h))

end Sys2Proof.Machine
end

section
/-! The valves: spray demand, SPRAY and FLOOD at a control step, pulse phases (O46). -/

namespace Sys2Proof.Machine

variable {s t u : State}

/-! ## Spray demand -/

theorem edgeWithinLead_iff (h : Header) (lead ring slice : Nat) :
    edgeWithinLead h lead ring slice = true ↔
      (h.direction = .up → (h.scanStart + slice * h.sliceLength : Int) - ring ≤ lead) ∧
      (h.direction = .down → (ring : Int) - (h.scanStart - 1 - slice * h.sliceLength) ≤ lead) := by
  have cast : ((slice * h.sliceLength : Nat) : Int) = slice * h.sliceLength := by push_cast; rfl
  unfold edgeWithinLead
  rw [← cast]
  cases h.direction <;> simp <;> omega

theorem headWithinLead_iff (s : State) :
    headWithinLead s = true ↔ ∃ e a, s.quench.entries.head? = some e ∧ s.store.active = some a ∧
      edgeWithinLead a.header s.settings.sprayLead s.tracker.tool e.slice = true := by
  unfold headWithinLead
  cases s.quench.entries.head? <;> cases s.store.active <;> simp

theorem sprayDemanded_iff (s : State) :
    sprayDemanded s = true ↔ s.quenchAtRing.mode ≠ 0 ∧ (s.quench.soak ≠ none ∨ headWithinLead s = true) := by
  simp [sprayDemanded, Option.isSome_iff_ne_none]

/-- With the list empty and the soak over nothing demands spray. -/
theorem sprayDemanded_of_over (empty : s.quench.entries = []) (over_ : s.quench.soak = none) : sprayDemanded s = false := by
  refine Bool.eq_false_iff.2 fun demand => ?_
  obtain ⟨-, runs | head⟩ := (sprayDemanded_iff s).1 demand
  · exact runs over_
  · obtain ⟨e, a, found, -⟩ := (headWithinLead_iff s).1 head
    simp [empty] at found

/-! ## SPRAY as demand, mode and phase ask for it -/

theorem driveSpray_of_continuous (mode : s.quenchAtRing.mode = 1) (demand : sprayDemanded s = true) :
    driveSpray s = { s.quench with spray := true, pulse := .idle, pulseTimer := none, openTime := some (s.quench.openTime.getD 0) } := by
  rw [driveSpray, if_pos mode, continuousStep, if_pos demand]

theorem driveSpray_of_pulsed (mode : s.quenchAtRing.mode = 2) (idle : s.quench.pulse = .idle) (demand : sprayDemanded s = true) :
    driveSpray s = s.quench.beginOn s.quenchAtRing.onTime := by
  rw [driveSpray, if_neg (by omega), if_pos mode, pulsedStep, if_pos idle, if_pos demand]

theorem driveSpray_of_no_demand (idle : s.quench.pulse = .idle) (rests : sprayDemanded s = false) :
    driveSpray s = s.quench.closeSpray := by
  have none_ : ¬ sprayDemanded s = true := Bool.eq_false_iff.1 rests
  unfold driveSpray
  split
  · rw [continuousStep, if_neg none_, if_pos idle]
  · split
    · rw [pulsedStep, if_pos idle, if_neg none_]
    · rw [offStep, if_pos idle]

/-- A phase under way goes on; the open time stands in CONTINUOUS mode alone. -/
theorem driveSpray_of_phase (phase : s.quench.pulse ≠ .idle) (goes : s.quenchAtRing.mode ≠ 1 ∨ sprayDemanded s = false) :
    driveSpray s = if s.quenchAtRing.mode = 1 then s.quench else { s.quench with openTime := none } := by
  unfold driveSpray
  split
  case isTrue mode =>
    have none_ : ¬ sprayDemanded s = true := Bool.eq_false_iff.1 (goes.resolve_left (not_not_intro mode))
    rw [continuousStep, if_neg none_, if_neg phase]
  case isFalse =>
    split
    · rw [pulsedStep, if_neg phase]
    · rw [offStep, if_neg phase]

theorem driveSpray_stands (s : State) :
    (driveSpray s).judged = s.quench.judged ∧ (driveSpray s).soak = s.quench.soak ∧ (driveSpray s).runout = s.quench.runout := by
  unfold driveSpray continuousStep pulsedStep offStep
  repeat' split
  all_goals exact ⟨rfl, rfl, rfl⟩

/-- Without demand SPRAY is open only in a phase that goes on. -/
theorem driveSpray_spray_of_no_demand (rests : sprayDemanded s = false) :
    (driveSpray s).spray = (s.quench.spray && decide (s.quench.pulse ≠ .idle)) := by
  by_cases idle : s.quench.pulse = .idle
  · rw [driveSpray_of_no_demand idle rests, idle, decide_eq_false (by simp), Bool.and_false]
    rfl
  · rw [driveSpray_of_phase idle (.inr rests), decide_eq_true idle, Bool.and_true]
    split <;> rfl

theorem limitSpray_spray (c : StationState) (q : Quench) : (limitSpray c q).spray = (q.spray && decide (c ≠ .done)) := by
  by_cases done : c = .done
  · simp [done, Quench.closeSpray]
  · simp [limitSpray, done]

/-- What the limit of the state leaves. -/
theorem limitSpray_stands (c : StationState) (q : Quench) :
    (limitSpray c q).entries = q.entries ∧ (limitSpray c q).judged = q.judged ∧ (limitSpray c q).flood = q.flood ∧
    (limitSpray c q).pulse = q.pulse ∧ (limitSpray c q).pulseTimer = q.pulseTimer ∧ (limitSpray c q).soak = q.soak ∧
    (limitSpray c q).runout = q.runout := by
  unfold limitSpray
  split <;> exact ⟨rfl, rfl, rfl, rfl, rfl, rfl, rfl⟩

theorem limitSpray_openTime_of_none (c : StationState) {q : Quench} (none_ : q.openTime = none) : (limitSpray c q).openTime = none := by
  unfold limitSpray
  split
  · rfl
  · exact none_

/-! ## The control step -/

theorem judgeReached_of_not (rests : ¬ (s.cycle.state = .scanning ∧ s.quench.runout = false)) : judgeReached s = s := if_neg rests

theorem judgeReached_of_nothing (nothing : slicesToJudge s = []) : judgeReached s = s := by
  unfold judgeReached
  split
  · rw [nothing]; rfl
  · rfl

/-- The engine as a control step with nothing to judge sets valves and ceiling. -/
def sprayed (s : State) : Quench := { limitSpray s.cycle.state (driveSpray s) with ceiling := quenchCeiling s }

theorem quenchStep_of_still (still : judgeReached s = s) (state : s.cycle.state = .starting ∨ s.cycle.state = .scanning ∨ s.cycle.state = .done) :
    quenchStep s = quenchRoleEnd (s.setQuench (sprayed s)) := by
  have valves : setValves s = s.setQuench (limitSpray s.cycle.state (driveSpray s)) := by
    rcases state with e | e | e <;> simp only [setValves, e]
  rw [quenchStep, still, valves]
  rfl

theorem quenchRoleEnd_of_not_scanning (rests : s.cycle.state ≠ .scanning) : quenchRoleEnd s = s := if_neg fun h => rests h.1

theorem quenchStep_of_rest (rests : s.cycle.state = .joining ∨ s.cycle.state = .idle ∨ s.cycle.state = .armed) :
    quenchStep s = s.setQuench { s.quench.closeSpray with flood := false, ceiling := quenchCeiling s } := by
  have idle : s.cycle.state ≠ .scanning := by rcases rests with e | e | e <;> simp [e]
  have valves : setValves s = s.setQuench { s.quench.closeSpray with flood := false } := by
    rcases rests with e | e | e <;> simp only [setValves, e]
  rw [quenchStep, judgeReached_of_not fun h => idle h.1, valves]
  exact quenchRoleEnd_of_not_scanning idle

theorem quenchStep_of_halted (halted : s.cycle.state = .aborted ∨ s.cycle.state = .silent) :
    quenchStep s = s.setQuench { s.quench with ceiling := quenchCeiling s } := by
  have idle : s.cycle.state ≠ .scanning := by rcases halted with e | e <;> simp [e]
  have valves : setValves s = s := by rcases halted with e | e <;> simp only [setValves, e]
  rw [quenchStep, judgeReached_of_not fun h => idle h.1, valves]
  exact quenchRoleEnd_of_not_scanning idle

theorem quenchCeiling_eq (s : State) :
    quenchCeiling s = if s.hold = true ∨ s.pins.actReady = false ∨ s.pins.actFault = true then 0 else 65535 := by
  unfold quenchCeiling State.actuatorGood
  refine if_congr ?_ rfl rfl
  simp

theorem exec_quenchControlStep (ticks : Nat) (role : s.role = some .quench) (on : s.cycle.state ≠ .offline) :
    exec (.quenchControlStep ticks) s = .next (settled s (quenchStep (advance ticks s))) :=
  congrArg (fun t => Host.Outcome.next (settled s t)) (if_pos ((runs_iff (advance ticks s) _).2 ⟨role, on⟩))

theorem endPulsePhase_of_off (goes : sprayDemanded s = true ∧ s.quenchAtRing.mode = 2) (on : s.quench.pulse = .on) :
    endPulsePhase s = { s.quench with
      spray := false, openTime := none, pulse := .off, pulseTimer := some (s.quenchAtRing.offTime * 20000) } := by
  have next : nextPhase s = { s.quench.closeSpray with pulse := .off, pulseTimer := timerMs s.quenchAtRing.offTime } := by
    simp [nextPhase, on, goes.1, goes.2]
  rw [endPulsePhase, next, limitSpray]
  split <;> rfl

theorem endPulsePhase_of_on (goes : sprayDemanded s = true ∧ s.quenchAtRing.mode = 2) (off : s.quench.pulse = .off) :
    endPulsePhase s = { s.quench with spray := decide (s.cycle.state ≠ .done), openTime := none, pulse := .on, pulseTimer := some (s.quenchAtRing.onTime * 20000) } := by
  have next : nextPhase s = s.quench.beginOn s.quenchAtRing.onTime := by simp [nextPhase, off, goes.1, goes.2]
  rw [endPulsePhase, next, limitSpray]
  split
  case isTrue done => rw [decide_eq_false (not_not_intro done)]; rfl
  case isFalse going => rw [decide_eq_true going]; rfl

theorem endPulsePhase_of_over (stops : ¬ (sprayDemanded s = true ∧ s.quenchAtRing.mode = 2)) :
    endPulsePhase s = { s.quench with spray := false, openTime := none, pulse := .idle, pulseTimer := none } := by
  have cond : (sprayDemanded s && s.quenchAtRing.mode == 2) = false := by
    refine Bool.eq_false_iff.2 fun h => stops ?_
    simpa using h
  have next : nextPhase s = { s.quench.closeSpray with pulse := .idle, pulseTimer := none } := by simp [nextPhase, cond]
  rw [endPulsePhase, next, limitSpray]
  split <;> rfl

/-- The role end of an empty list: the end kind, or none while soak or SPRAY lasts. -/
theorem quenchRoleEnd_of_over (scanning : t.cycle.state = .scanning) (over_ : t.quench.sprayOver = true) (empty : t.quench.entries = [])
    (ends : t.quench.runout = true ∨ t.tracker.zone = .past) :
    quenchRoleEnd t = enterDone (if t.quench.runout then .shortTravel else .normal) t := by
  rw [quenchRoleEnd, if_pos ⟨scanning, over_⟩]
  cases runs : t.quench.runout with
  | true => rfl
  | false =>
    have past : t.tracker.zone = .past := ends.resolve_left (by simp [runs])
    simp only [Bool.false_eq_true, if_false, past, empty, and_self, if_true]

theorem quenchRoleEnd_of_spraying (sprays : t.quench.sprayOver = false) : quenchRoleEnd t = t := if_neg fun h => by simp [sprays] at h

/-- With the list empty, the end of the spray: the soak is over and no phase holds SPRAY open. -/
theorem sprayed_over (scanning : s.cycle.state = .scanning) (empty : s.quench.entries = []) :
    (sprayed s).sprayOver = true ↔ s.quench.soak = none ∧ (s.quench.pulse = .idle ∨ s.quench.spray = false) := by
  have limit : limitSpray s.cycle.state (driveSpray s) = driveSpray s := limitSpray_of_ne_done (by simp [scanning]) _
  have over_ : (sprayed s).sprayOver = true ↔ (driveSpray s).soak = none ∧ (driveSpray s).spray = false := by
    simp [sprayed, Quench.sprayOver, limit]
  rw [over_, (driveSpray_stands s).2.1]
  refine and_congr_right fun soak => ?_
  rw [driveSpray_spray_of_no_demand (sprayDemanded_of_over empty soak)]
  cases s.quench.spray <;> simp

/-- Settles O46. -/
theorem sprayAndPulse : Obligations.SprayAndPulse := by
  refine ⟨fun s => ?_, fun ticks s role => ?_⟩
  · rw [sprayDemanded_iff, headWithinLead_iff]
    simp only [edgeWithinLead_iff]
  · intro u ring ceiling goesOn allowed asked
    have ceiling_eq : quenchCeiling u = ceiling := quenchCeiling_eq u
    have phaseEnd : exec (.pulsePhaseExpiry ticks) s =
        .next (settled s (if Timer.due u.quench.pulseTimer then u.setQuench (endPulsePhase u) else u)) := rfl
    refine ⟨fun rests => ?_, fun halted => ?_, fun goes => ?_, fun scanning empty ends => ?_, fun due => ?_, fun early => ?_⟩
    · have on : s.cycle.state ≠ .offline := by rcases rests with e | e | e <;> simp [e]
      rw [exec_quenchControlStep ticks role on, quenchStep_of_rest (s := u) rests, ceiling_eq]
      exact next_settled (n := ticks) rfl rfl rfl
    · have on : s.cycle.state ≠ .offline := by rcases halted with e | e <;> simp [e]
      rw [exec_quenchControlStep ticks role on, quenchStep_of_halted (s := u) halted, ceiling_eq]
      exact next_settled (n := ticks) rfl rfl rfl
    · have on : s.cycle.state ≠ .offline := by rcases goes with e | e | ⟨e, -⟩ <;> simp [e]
      have still : judgeReached u = u := by
        rcases goes with e | e | ⟨-, nothing, -⟩
        · exact judgeReached_of_not fun h => by simp [show u.cycle.state = _ from e] at h
        · exact judgeReached_of_not fun h => by simp [show u.cycle.state = _ from e] at h
        · exact judgeReached_of_nothing nothing
      have state : u.cycle.state = .starting ∨ u.cycle.state = .scanning ∨ u.cycle.state = .done := by
        rcases goes with e | e | ⟨e, -⟩
        · exact .inl e
        · exact .inr (.inr e)
        · exact .inr (.inl e)
      have roleStands : quenchRoleEnd (u.setQuench (sprayed u)) = u.setQuench (sprayed u) := by
        rcases goes with e | e | ⟨-, -, runout, zone⟩
        · exact quenchRoleEnd_of_not_scanning (by simp [show u.cycle.state = _ from e])
        · exact quenchRoleEnd_of_not_scanning (by simp [show u.cycle.state = _ from e])
        · have runs : (sprayed u).runout = false :=
            (limitSpray_stands _ _).2.2.2.2.2.2.trans ((driveSpray_stands u).2.2.trans runout)
          unfold quenchRoleEnd
          split
          · rw [if_neg (by simp [runs]), if_neg fun h => zone h.1]
          · rfl
      have stepped : exec (.quenchControlStep ticks) s = .next (u.setQuench (sprayed u)) := by
        rw [exec_quenchControlStep ticks role on, quenchStep_of_still (s := u) still state, roleStands]
        exact next_settled (n := ticks) rfl rfl rfl
      obtain ⟨flood, entries, -⟩ := driveSpray_keeps u
      obtain ⟨judged, -, -⟩ := driveSpray_stands u
      obtain ⟨entries', judged', flood', pulse', timer', -⟩ := limitSpray_stands u.cycle.state (driveSpray u)
      have spray' : (sprayed u).spray = asked (driveSpray u).spray := limitSpray_spray u.cycle.state (driveSpray u)
      refine ⟨_, stepped, rfl, ceiling_eq, entries'.trans entries, judged'.trans judged, flood'.trans flood, fun done => ?_,
        fun mode demand => ?_, fun mode idle demand => ?_, fun idle rests => ?_, fun phase goes => ?_⟩
      · have limited : limitSpray u.cycle.state (driveSpray u) = (driveSpray u).closeSpray := if_pos (not_not.1 done)
        show (limitSpray u.cycle.state (driveSpray u)).openTime = none
        rw [limited]
        rfl
      · have drives := driveSpray_of_continuous (s := u) mode demand
        refine ⟨spray'.trans (by rw [drives]), pulse'.trans (by rw [drives]), timer'.trans (by rw [drives]), fun open_ => ?_⟩
        show (limitSpray u.cycle.state (driveSpray u)).openTime = _
        rw [limitSpray_of_ne_done (show u.cycle.state ≠ .done from open_), drives]
      · have drives := driveSpray_of_pulsed (s := u) mode idle demand
        exact ⟨spray'.trans (by rw [drives]; rfl), pulse'.trans (by rw [drives]; rfl), timer'.trans (by rw [drives]; rfl)⟩
      · have drives := driveSpray_of_no_demand (s := u) idle rests
        exact ⟨spray'.trans (by rw [drives]; rfl), limitSpray_openTime_of_none _ (by rw [drives]; rfl),
          pulse'.trans (by rw [drives]; exact idle)⟩
      · have drives := driveSpray_of_phase (s := u) phase goes
        refine ⟨spray'.trans ?_, pulse'.trans ?_, timer'.trans ?_, fun mode => limitSpray_openTime_of_none _ ?_⟩
        · rw [drives]; split <;> rfl
        · rw [drives]; split <;> rfl
        · rw [drives]; split <;> rfl
        · rw [drives, if_neg (show ¬ u.quenchAtRing.mode = 1 from mode)]
    · intro ended
      have on : s.cycle.state ≠ .offline := by simp [scanning]
      have still : judgeReached u = u := by
        rcases ends with runs | ⟨-, nothing⟩
        · exact judgeReached_of_not fun h => by simp [show u.quench.runout = true from runs] at h
        · exact judgeReached_of_nothing nothing
      have stepped : exec (.quenchControlStep ticks) s = .next (settled s (quenchRoleEnd (u.setQuench (sprayed u)))) := by
        rw [exec_quenchControlStep ticks role on, quenchStep_of_still (s := u) still (.inr (.inl scanning))]
      obtain ⟨-, entries, -⟩ := driveSpray_keeps u
      obtain ⟨-, soak, runout⟩ := driveSpray_stands u
      obtain ⟨entries', -, -, -, -, soak', runout'⟩ := limitSpray_stands u.cycle.state (driveSpray u)
      have over_iff : (sprayed u).sprayOver = true ↔ ended := by
        refine (sprayed_over (s := u) scanning empty).trans (and_congr_left' ?_)
        exact Option.map_eq_none_iff
      refine ⟨fun over_ room => ?_, fun goes => ?_⟩
      · let v := u.setQuench (sprayed u)
        have runs : v.quench.runout = s.quench.runout := runout'.trans runout
        have done : quenchRoleEnd v = enterDone (if s.quench.runout then .shortTravel else .normal) v := by
          rw [← runs]
          refine quenchRoleEnd_of_over scanning (over_iff.2 over_) ((entries'.trans entries).trans empty) ?_
          rw [runs]
          exact ends.imp_right (·.1)
        have pushed := done.trans (enterDone_of_room (t := v) _ room)
        refine ⟨_, stepped, ?_, ?_, ?_, ?_, ?_, fun waits => ?_⟩
        · rw [settled_cycle, pushed, pushReport_cycle, markDone_cycle]
          rfl
        · rw [settled_quench, pushed, pushReport_quench, markDone_quench]
          rfl
        · rw [settled_quench, pushed, pushReport_quench, markDone_quench]
        · rw [settled_quench, pushed, pushReport_quench, markDone_quench]
          exact ceiling_eq
        · rw [settled_fault, pushed, pushReport_fault, markDone_fault]
          rfl
        · have onLine : v.onLine = true := onLine_of_inCycle ((inCycle_iff _).2 (.inr (.inl scanning)))
          have queued := done.trans (enterDone_of_waits (v := v) _ onLine waits room)
          have drops : v.sched.dropCount = (markDone (if s.quench.runout then .shortTravel else .normal) v).sched.dropCount := by
            rw [markDone_sched]
          rw [(settled_queues s).2.1, cycleSummaryFrame_settled, queued, State.setSched_sched]
          exact congrArg (fun f => s.sched.reportQ ++ [f]) (cycleSummaryFrame_queued drops).symm
      · have sprays : quenchRoleEnd (u.setQuench (sprayed u)) = u.setQuench (sprayed u) :=
          quenchRoleEnd_of_spraying (Bool.eq_false_iff.2 fun h => goes (over_iff.1 h))
        rw [sprays] at stepped
        refine ⟨u.setQuench (sprayed u), stepped.trans (next_settled (n := ticks) rfl rfl rfl), rfl, ceiling_eq, runout'.trans runout,
          soak'.trans soak⟩
    · refine ⟨fun on goes => ?_, fun off goes => ?_, fun stops => ?_⟩
      all_goals rw [phaseEnd, if_pos ((due_iff _).2 due)]
      · rw [endPulsePhase_of_off (s := u) goes on]
        exact next_settled (n := ticks) rfl rfl rfl
      · rw [endPulsePhase_of_on (s := u) goes off]
        exact next_settled (n := ticks) rfl rfl rfl
      · rw [endPulsePhase_of_over (s := u) stops]
        exact next_settled (n := ticks) rfl rfl rfl
    · rw [phaseEnd, if_neg (mt (due_iff _).1 early), settled_advance]

end Sys2Proof.Machine
end

section
/-! The pending quench list entry by entry, frames that reports add to the REPORT queue, and results delivered, where no kind
they report is fatal. -/

namespace Sys2Proof.Machine

variable {s t u : State}

/-! ## Entries found in the list -/

theorem findEntryOf_changeEntry (i k : Nat) {f : Entry → Entry} (same : ∀ e, (f e).slice = e.slice) (l : List Entry) :
    findEntryOf i (changeEntry k f l) = if i = k then (findEntryOf i l).map f else findEntryOf i l := by
  induction l with
  | nil => simp [findEntryOf, changeEntry]
  | cons e rest ih =>
    have slice : (if e.slice = k then f e else e).slice = e.slice := by split <;> simp [same]
    simp only [changeEntry, List.map_cons, findEntryOf, List.find?_cons, slice] at ih ⊢
    by_cases here : e.slice = i
    · subst here
      by_cases own : e.slice = k <;> simp [own]
    · simp only [beq_false_of_ne here]
      exact ih

theorem findEntryOf_insertEntry (i : Nat) {x : Entry} {l : List Entry} (absent : findEntryOf x.slice l = none) :
    findEntryOf i (insertEntry x l) = if i = x.slice then some x else findEntryOf i l := by
  induction l with
  | nil =>
    by_cases own : i = x.slice
    · subst own; simp [findEntryOf, insertEntry]
    · simp [findEntryOf, insertEntry, own, Ne.symm own]
  | cons y rest ih =>
    have other : y.slice ≠ x.slice := findEntryOf_none.1 absent y (List.mem_cons_self)
    have absent' : findEntryOf x.slice rest = none :=
      findEntryOf_none.2 fun e mem => findEntryOf_none.1 absent e (List.mem_cons_of_mem _ mem)
    have ih := ih absent'
    by_cases own : i = x.slice
    · subst own
      rw [if_pos rfl] at ih ⊢
      unfold insertEntry
      split
      · simp [findEntryOf]
      · simpa [findEntryOf, other] using ih
    · rw [if_neg own] at ih ⊢
      unfold insertEntry
      split
      · simp [findEntryOf, Ne.symm own]
      · by_cases head : y.slice = i
        · simp [findEntryOf, head]
        · simpa [findEntryOf, head] using ih

theorem findEntryOf_removeEntry_ne {i k : Nat} (other : i ≠ k) (l : List Entry) : findEntryOf i (removeEntry k l) = findEntryOf i l := by
  induction l with
  | nil => rfl
  | cons e rest ih =>
    by_cases own : e.slice = k
    · simp [removeEntry, findEntryOf, own, Ne.symm other]
    · by_cases here : e.slice = i
      · simp [removeEntry, findEntryOf, here, other]
      · simpa [removeEntry, findEntryOf, own, here] using ih

/-- In a list in ascending order an entry taken out is the one of its slice. -/
theorem removeEntry_eq_filter {k : Nat} {l : List Entry} (sorted : l.Pairwise fun a b => a.slice < b.slice) :
    removeEntry k l = l.filter fun e => decide (e.slice ≠ k) := by
  induction l with
  | nil => rfl
  | cons e rest ih =>
    obtain ⟨head, tail⟩ := List.pairwise_cons.1 sorted
    by_cases own : e.slice = k
    · have none_ : rest.filter (fun e => decide (e.slice ≠ k)) = rest :=
        List.filter_eq_self.2 fun b mem => decide_eq_true (by have := head b mem; omega)
      rw [List.filter_cons_of_neg (by simp [own]), none_]
      simp [removeEntry, own]
    · rw [List.filter_cons_of_pos (by simpa using own), ← ih tail]
      simp [removeEntry, own]

theorem findEntryOf_removeEntry_self {k : Nat} {l : List Entry} (sorted : l.Pairwise fun a b => a.slice < b.slice) :
    findEntryOf k (removeEntry k l) = none := by
  rw [removeEntry_eq_filter sorted, findEntryOf_none]
  intro e mem
  simpa using (List.mem_filter.1 mem).2

theorem removeEntry_of_absent {k : Nat} {l : List Entry} (absent : findEntryOf k l = none) : removeEntry k l = l :=
  List.eraseP_of_forall_not fun e mem => by simpa using findEntryOf_none.1 absent e mem

theorem changeEntry_length (k : Nat) (f : Entry → Entry) (l : List Entry) : (changeEntry k f l).length = l.length := List.length_map _

/-! ## Frames that a report adds to the REPORT queue -/

/-- Reports and frames handed, none of them fatal and no frame of the station beginning: `added` joins the REPORT queue, drops are
counted, no latch is cleared. -/
structure Told (s : State) (added : List Frame) (t : State) : Prop where
  state : ∃ d v, t = (s.setSched { s.sched with reportQ := s.sched.reportQ ++ added, dropCount := d }).setFault v
  latches : ∀ k, s.isLatched k = true → t.isLatched k = true

theorem told_refl (s : State) : Told s [] s :=
  ⟨⟨s.sched.dropCount, s.fault, by rw [List.append_nil]; rfl⟩, fun _ h => h⟩

theorem told_trans {a b : List Frame} (h : Told s a t) (g : Told t b u) : Told s (a ++ b) u := by
  obtain ⟨⟨d, v, rfl⟩, latches⟩ := h
  obtain ⟨⟨d', v', rfl⟩, latches'⟩ := g
  exact ⟨⟨d', v', by rw [← List.append_assoc]; rfl⟩, fun k h => latches' k (latches k h)⟩

section
variable {a : List Frame} (h : Told s a t)
include h

theorem told_mayBegin : t.mayBegin = s.mayBegin := by obtain ⟨⟨d, v, rfl⟩, -⟩ := h; rfl
theorem told_onLine : t.onLine = s.onLine := by obtain ⟨⟨d, v, rfl⟩, -⟩ := h; rfl
theorem told_isFatal (k : FaultKind) : t.isFatal k = s.isFatal k := by obtain ⟨⟨d, v, rfl⟩, -⟩ := h; rfl
theorem told_isMasked (k : FaultKind) : t.isMasked k = s.isMasked k := by obtain ⟨⟨d, v, rfl⟩, -⟩ := h; rfl
theorem told_reportQ : t.sched.reportQ = s.sched.reportQ ++ a := by obtain ⟨⟨d, v, rfl⟩, -⟩ := h; rfl

theorem told_occupancy : t.sched.reportOccupancy = s.sched.reportOccupancy + a.length := by
  obtain ⟨⟨d, v, rfl⟩, -⟩ := h
  show (s.sched.reportQ ++ a).length + (if s.sched.offers .report then 1 else 0) = s.sched.reportQ.length + _ + a.length
  rw [List.length_append, Nat.add_right_comm]

end

theorem told_placeReport (f : Frame) (still : s.mayBegin = false) :
    ∃ a, Told s a (placeReport f s) ∧ a.length ≤ 1 ∧ (∀ g ∈ a, g = f) ∧
      (s.onLine = true → s.sched.reportOccupancy < Config.reportCapacity → a = [f]) := by
  unfold placeReport
  split
  case isTrue off => exact ⟨[], told_refl s, Nat.zero_le _, by simp, fun on => by simp [on] at off⟩
  case isFalse =>
    split
    case isTrue =>
      rw [pushReport, tryBegin_of_not (by exact still)]
      exact ⟨[f], ⟨⟨s.sched.dropCount, s.fault, rfl⟩, fun _ h => h⟩, le_refl 1, by simp, fun _ _ => rfl⟩
    case isFalse full =>
      exact ⟨[], ⟨⟨satAdd Config.max16 s.sched.dropCount 1, s.fault, by rw [List.append_nil]; rfl⟩, fun _ h => h⟩, Nat.zero_le _,
        by simp, fun _ room => absurd room full⟩

theorem told_latch (r : Report) (s : State) : Told s [] (latch r s) :=
  ⟨⟨s.sched.dropCount, _, by rw [List.append_nil]; rfl⟩, fun k h => by rw [latch_isLatched, h, Bool.true_or]⟩

theorem told_reportOverflow (c : Captured) (mild : s.isFatal .txOverflow = false) (still : s.mayBegin = false) :
    ∃ a, Told s a (reportOverflow c s) ∧ ∀ g ∈ a, g.kind = .faultNotice := by
  unfold reportOverflow
  split
  case isFalse => exact ⟨[], told_refl s, by simp⟩
  case isTrue =>
    have latched := told_latch ⟨.txOverflow, none, some c⟩ s
    obtain ⟨a, placed, -, only, -⟩ := told_placeReport (faultNoticeFrame s .txOverflow none false) ((told_mayBegin latched).trans still)
    have told := told_trans latched placed
    rw [tellCycle_of_not ((told_isFatal told _).trans mild)]
    exact ⟨_, told, fun g mem => by rw [only g mem]; rfl⟩

/-- A report of a kind that is not fatal adds notices alone; with room for its own it adds at most that one, and none where its
kind is latched or masked. -/
theorem told_report {r : Report} (mild : s.isFatal r.kind = false) (overflow : s.isFatal .txOverflow = false)
    (still : s.mayBegin = false) :
    ∃ a, Told s a (report r s) ∧ (∀ g ∈ a, g.kind = .faultNotice) ∧ (s.latchable r.kind = false → a = []) ∧
      (s.sched.reportOccupancy < Config.reportCapacity → a.length ≤ 1) := by
  unfold report
  split
  case isFalse => exact ⟨[], told_refl s, by simp, fun _ => rfl, fun _ => Nat.zero_le _⟩
  case isTrue free =>
    have latched := told_latch r s
    obtain ⟨a, placed, single, only, -⟩ := told_placeReport (faultNoticeFrame s r.kind r.related false) ((told_mayBegin latched).trans still)
    have notices : ∀ g ∈ a, g.kind = .faultNotice := fun g mem => by rw [only g mem]; rfl
    have told : Told s a (takeReport r s) := by
      have both := told_trans latched placed
      rw [takeReport, tellCycle_of_not ((told_isFatal both _).trans mild)]
      exact both
    split
    case isFalse => exact ⟨a, told, notices, fun not => by simp [free] at not, fun _ => single⟩
    case isTrue drops =>
      obtain ⟨b, more, notices'⟩ := told_reportOverflow (capturedHeader (faultNoticeFrame s r.kind r.related false))
        ((told_isFatal told _).trans overflow) ((told_mayBegin told).trans still)
      refine ⟨a ++ b, told_trans told more, fun g mem => (List.mem_append.1 mem).elim (notices g) (notices' g), fun not => by simp [free] at not,
        fun room => ?_⟩
      simp only [State.dropsReport, Bool.and_eq_true, decide_eq_true_eq] at drops
      omega

theorem told_handReport (f : Frame) (overflow : s.isFatal .txOverflow = false) (still : s.mayBegin = false) :
    ∃ a, Told s a (handReport f s) ∧ (∀ g ∈ a, g = f ∨ g.kind = .faultNotice) ∧
      (s.onLine = true → s.sched.reportOccupancy < Config.reportCapacity → a = [f]) := by
  obtain ⟨a, placed, -, only, room⟩ := told_placeReport f still
  unfold handReport
  split
  case isFalse => exact ⟨a, placed, fun g mem => .inl (only g mem), room⟩
  case isTrue drops =>
    obtain ⟨b, more, notices⟩ := told_reportOverflow (capturedHeader f) ((told_isFatal placed _).trans overflow)
      ((told_mayBegin placed).trans still)
    refine ⟨a ++ b, told_trans placed more, fun g mem => (List.mem_append.1 mem).imp (only g) (notices g), fun _ free => ?_⟩
    simp only [State.dropsReport, Bool.and_eq_true, decide_eq_true_eq] at drops
    omega

/-! ## Results delivered -/

/-- No kind that a result can bring is fatal. -/
def Mild (s : State) : Prop := s.isFatal .sliceReject = false ∧ s.isFatal .txOverflow = false

theorem mild_of_settings (same : t.settings = s.settings) (mild : Mild s) : Mild t := by
  unfold Mild
  rw [isFatal_of_settings same, isFatal_of_settings same]
  exact mild

/-- The blocks that results write where nothing is fatal. -/
def resultBlocks : List Block := [.quench, .sched, .line, .fault]

/-- The engine after a result: verdict counts, judged count and soak. -/
def delivered (fromEntry : Bool) (r : SliceResult) (t : State) : Quench :=
  { t.quench with
    nGood := t.quench.nGood + r.verdict.good.toNat
    nRejected := t.quench.nRejected + (!r.verdict.good).toNat
    nJudged := t.quench.nJudged + fromEntry.toNat
    soak := if t.cycle.state = .scanning then some (t.settings.soakTime * 20000) else t.quench.soak }

theorem restartSoak_eq (t : State) :
    restartSoak t = t.setQuench { t.quench with
      soak := if t.cycle.state = .scanning then some (t.settings.soakTime * 20000) else t.quench.soak } := by
  unfold restartSoak
  split <;> rfl

theorem countJudged_eq (fromEntry : Bool) (t : State) :
    countJudged fromEntry t = t.setQuench { t.quench with nJudged := t.quench.nJudged + fromEntry.toNat } := by
  cases fromEntry <;> rfl

theorem writes_countVerdict (good : Bool) (mild : Mild t) :
    Writes resultBlocks t (countVerdict good t) ∧ (countVerdict good t).quench =
      { t.quench with nGood := t.quench.nGood + good.toNat, nRejected := t.quench.nRejected + (!good).toNat } := by
  cases good with
  | true => exact ⟨writes_mono (by decide) (writes_setQuench _ t), rfl⟩
  | false =>
    have counted := writes_setQuench { t.quench with nRejected := t.quench.nRejected + 1 } t
    have reported := writes_report_of_mild (r := ⟨.sliceReject, none, none⟩)
      (t := t.setQuench { t.quench with nRejected := t.quench.nRejected + 1 }) mild.1 mild.2
    exact ⟨writes_trans (by decide) (writes_mono (by decide) counted) reported, reported.2 .quench (by decide)⟩

theorem writes_deliver (fromEntry : Bool) (r : SliceResult) (mild : Mild t) :
    Writes resultBlocks t (deliver fromEntry r t) ∧ (deliver fromEntry r t).quench = delivered fromEntry r t := by
  have handed := writes_handReport_of_mild (sliceResultFrame t r) mild.2
  obtain ⟨verdict, counts⟩ := writes_countVerdict r.verdict.good (mild_of_settings (handed.2 .settings (by decide)) mild)
  have both := writes_trans (bs := resultBlocks) (by decide) (writes_mono (by decide) handed) verdict
  have cycle := both.2 .cycle (by decide)
  have settings := both.2 .settings (by decide)
  have quench : (handReport (sliceResultFrame t r) t).quench = t.quench := handed.2 .quench (by decide)
  simp only [sameBlock] at cycle settings
  rw [quench] at counts
  unfold deliver
  rw [restartSoak_eq, countJudged_eq]
  refine ⟨writes_trans (ws := [.quench]) (by decide) (writes_trans (ws := [.quench]) (by decide) both (writes_setQuench _ _)) (writes_setQuench _ _), ?_⟩
  simp only [State.setQuench_quench, State.setQuench_cycle, State.setQuench_settings, counts, cycle, settings]
  rfl

theorem told_setQuench {a : List Frame} (v : Quench) (h : Told s a t) : Told (s.setQuench v) a (t.setQuench v) := by
  obtain ⟨⟨d, w, rfl⟩, latches⟩ := h
  exact ⟨⟨d, w, rfl⟩, latches⟩

/-- A first SLICE_REJECT can still come. -/
def rejectFree (s : State) : Nat := (s.latchable .sliceReject).toNat

theorem told_rejectFree {a : List Frame} (h : Told s a t) : rejectFree t ≤ rejectFree s := by
  have masked := told_isMasked h .sliceReject
  have latches := h.latches .sliceReject
  unfold rejectFree State.latchable
  rw [masked]
  cases s.isMasked .sliceReject <;> cases e : s.isLatched .sliceReject <;> cases e' : t.isLatched .sliceReject <;> simp_all

/-- A verdict adds at most the notice of the first SLICE_REJECT. -/
theorem told_countVerdict (good : Bool) (mild : Mild t) (still : t.mayBegin = false) :
    ∃ b, Told (t.setQuench (countVerdict good t).quench) b (countVerdict good t) ∧ (∀ g ∈ b, g.kind = .faultNotice) ∧
      (t.sched.reportOccupancy + rejectFree t ≤ Config.reportCapacity → b.length + rejectFree (countVerdict good t) ≤ rejectFree t) := by
  cases good with
  | true => exact ⟨[], told_refl _, by simp, fun _ => Nat.le_of_eq (Nat.zero_add _)⟩
  | false =>
    let v := t.setQuench { t.quench with nRejected := t.quench.nRejected + 1 }
    have quench : (countVerdict false t).quench = v.quench := (writes_countVerdict false mild).2
    obtain ⟨b, told, notices, none_, single⟩ := told_report (s := v) (r := ⟨.sliceReject, none, none⟩) mild.1 mild.2 still
    refine ⟨b, by rw [quench]; exact told, notices, fun room => ?_⟩
    have shrinks : rejectFree (countVerdict false t) ≤ rejectFree t := told_rejectFree (s := v) told
    cases free : t.latchable .sliceReject with
    | false =>
      have empty : b = [] := none_ free
      rw [empty, List.length_nil, Nat.zero_add]
      exact shrinks
    | true =>
      have latched : (countVerdict false t).isLatched .sliceReject = true :=
        reportPlain_latched (t := v) ((latchable_iff _ _).1 free).1
      have spent : rejectFree (countVerdict false t) = 0 := by simp [rejectFree, State.latchable, latched]
      have whole : rejectFree t = 1 := by rw [rejectFree, free]; rfl
      rw [whole] at room ⊢
      rw [spent]
      exact single room

/-- A result is handed as one frame where there is room; the first that is rejected can bring one notice besides. -/
theorem told_deliver (fromEntry : Bool) (r : SliceResult) (mild : Mild t) (still : t.mayBegin = false) :
    ∃ a, Told (t.setQuench (delivered fromEntry r t)) a (deliver fromEntry r t) ∧
      (t.onLine = true → t.sched.reportOccupancy < Config.reportCapacity → ∃ b, a = sliceResultFrame t r :: b ∧
        (∀ g ∈ b, g.kind = .faultNotice) ∧
        (t.sched.reportOccupancy + 1 + rejectFree t ≤ Config.reportCapacity → b.length + rejectFree (deliver fromEntry r t) ≤ rejectFree t)) := by
  let h := handReport (sliceResultFrame t r) t
  have handedWrites := writes_handReport_of_mild (sliceResultFrame t r) mild.2
  have mild' : Mild h := mild_of_settings (handedWrites.2 .settings (by decide)) mild
  obtain ⟨a, handed, -, room⟩ := told_handReport (sliceResultFrame t r) mild.2 still
  obtain ⟨b, verdict, notices, single⟩ := told_countVerdict r.verdict.good mild' ((told_mayBegin handed).trans still)
  have whole : deliver fromEntry r t = (countVerdict r.verdict.good h).setQuench (delivered fromEntry r t) := by
    have quench := (writes_deliver fromEntry r mild).2
    rw [← quench]
    unfold deliver
    rw [restartSoak_eq, countJudged_eq]
    rfl
  have told : Told (t.setQuench (delivered fromEntry r t)) (a ++ b) (deliver fromEntry r t) := by
    have verdict' : Told (h.setQuench (delivered fromEntry r t)) b ((countVerdict r.verdict.good h).setQuench (delivered fromEntry r t)) :=
      told_setQuench (s := h.setQuench (countVerdict r.verdict.good h).quench) (delivered fromEntry r t) verdict
    rw [whole]
    exact told_trans (told_setQuench _ handed) verdict'
  refine ⟨a ++ b, told, fun on free => ⟨b, by rw [room on free]; rfl, notices, fun two => ?_⟩⟩
  have occupancy : h.sched.reportOccupancy = t.sched.reportOccupancy + 1 := by
    rw [told_occupancy handed, room on free]
    rfl
  have bound := single ((Nat.add_le_add (Nat.le_of_eq occupancy) (told_rejectFree handed)).trans two)
  have free' : rejectFree (deliver fromEntry r t) = rejectFree (countVerdict r.verdict.good h) := by rw [whole]; rfl
  rw [free']
  exact bound.trans (told_rejectFree handed)

end Sys2Proof.Machine
end

section
/-! Judgment through the ring's reach (O43). -/

namespace Sys2Proof.Machine

variable {s t u : State}

/-! ## The result of a slice -/

/-- The result a slice gives at the ring, if any. -/
def resultAt (s : State) (i : Nat) : Option SliceResult :=
  match findEntryOf i s.quench.entries with
  | some e => some (resultOf s e false)
  | none => if 0 < s.quenchAtRing.energyLow then some (untrackedResult i) else none

theorem resultAt_of_some {i : Nat} {e : Entry} (found : findEntryOf i s.quench.entries = some e) :
    resultAt s i = some (resultOf s e false) := by rw [resultAt, found]

theorem resultAt_of_none {i : Nat} (absent : findEntryOf i s.quench.entries = none) :
    resultAt s i = if 0 < s.quenchAtRing.energyLow then some (untrackedResult i) else none := by rw [resultAt, absent]

theorem quenchAtRing_congr (store : t.store = s.store) (tracker : t.tracker = s.tracker) : t.quenchAtRing = s.quenchAtRing := by
  rw [State.quenchAtRing, State.quenchAtRing, store, tracker]

theorem resultOf_congr (store : t.store = s.store) (tracker : t.tracker = s.tracker) (clock : t.clock = s.clock) (e : Entry)
    (unquenched : Bool) : resultOf t e unquenched = resultOf s e unquenched := by
  have length : t.sliceLength = s.sliceLength := by rw [State.sliceLength, State.sliceLength, store]
  simp only [resultOf, quenchAtRing_congr store tracker, length, clock]

theorem resultAt_congr (store : t.store = s.store) (tracker : t.tracker = s.tracker) (clock : t.clock = s.clock) {i : Nat}
    (entry : findEntryOf i t.quench.entries = findEntryOf i s.quench.entries) : resultAt t i = resultAt s i := by
  simp only [resultAt, entry, quenchAtRing_congr store tracker, resultOf_congr store tracker clock]

theorem sliceResultFrame_congr (loader : t.loader = s.loader) (number : t.cycle.number = s.cycle.number) (r : SliceResult) :
    sliceResultFrame t r = sliceResultFrame s r := by
  simp only [sliceResultFrame, State.ownFrame, loader, number]

/-- The results of slices judged one after another. -/
def results (s : State) (l : List Nat) : List SliceResult := l.filterMap (resultAt s)

/-- An entry whose result is not that of an untracked slice is a rejected one. -/
theorem untrackedResult_good (i : Nat) : (untrackedResult i).verdict.good = false := rfl

/-! ## Slices judged one after another -/

/-- The SLICE RESULT frames of a list. -/
def resultFrames (l : List Frame) : List Frame := l.filter fun f => decide (f.kind = .sliceResult)

theorem resultFrames_append (l m : List Frame) : resultFrames (l ++ m) = resultFrames l ++ resultFrames m := List.filter_append ..

theorem resultFrames_of_others {l : List Frame} (others : ∀ f ∈ l, f.kind ≠ .sliceResult) : resultFrames l = [] :=
  List.filter_eq_nil_iff.2 fun f mem => by simpa using others f mem

theorem resultFrames_of_notices {l : List Frame} (notices : ∀ f ∈ l, f.kind = .faultNotice) : resultFrames l = [] :=
  resultFrames_of_others fun f mem => by rw [notices f mem]; decide

/-- The slices of `l` have been judged one after another, nothing being fatal: entries taken out, results counted and handed. -/
structure Judged (s : State) (l : List Nat) (t : State) : Prop where
  writes : Writes resultBlocks s t
  stands : t.quench = { s.quench with
    entries := t.quench.entries, judged := t.quench.judged, nJudged := t.quench.nJudged, nGood := t.quench.nGood
    nRejected := t.quench.nRejected, soak := t.quench.soak }
  entries : t.quench.entries = l.foldl (fun es i => removeEntry i es) s.quench.entries
  last : t.quench.judged = l.getLast?.or s.quench.judged
  leaving : t.quench.nJudged + t.quench.entries.length = s.quench.nJudged + s.quench.entries.length
  good : t.quench.nGood = s.quench.nGood + ((results s l).filter (·.verdict.good)).length
  verdicts : t.quench.nGood + t.quench.nRejected = s.quench.nGood + s.quench.nRejected + (results s l).length
  rated : (results s l).length + s.quench.nJudged =
    if 0 < s.quenchAtRing.energyLow then l.length + s.quench.nJudged else t.quench.nJudged
  fewer : t.quench.nJudged ≤ s.quench.nJudged + (results s l).length
  rejects : s.quench.nRejected + (results s l).length + s.quench.nJudged ≤ t.quench.nRejected + t.quench.nJudged
  soak : t.quench.soak = if results s l = [] then s.quench.soak else some (s.settings.soakTime * 20000)
  told : s.onLine = true → s.mayBegin = false → s.sched.reportOccupancy + (results s l).length + rejectFree s ≤ 16 →
    ∃ a, Told (s.setQuench t.quench) a t ∧ resultFrames a = (results s l).map (sliceResultFrame s) ∧
      a.length + rejectFree t ≤ (results s l).length + rejectFree s

theorem judged_refl (s : State) : Judged s [] s where
  writes := writes_refl _ s
  stands := rfl
  entries := rfl
  last := rfl
  leaving := rfl
  good := rfl
  verdicts := rfl
  rated := by simp [results]
  fewer := Nat.le_refl _
  rejects := Nat.le_refl _
  soak := rfl
  told _ _ _ := ⟨[], told_refl _, rfl, Nat.le_refl _⟩

/-- What one slice judged leaves of the results of the others. -/
theorem judged_results {l m : List Nat} (h : Judged s l t) (apart : ∀ i ∈ l, i ∉ m) : results t m = results s m := by
  have store : t.store = s.store := h.writes.2 .store (by decide)
  have tracker : t.tracker = s.tracker := h.writes.2 .tracker (by decide)
  have clock : t.clock = s.clock := h.writes.2 .clock (by decide)
  have kept (i : Nat) (mem : i ∈ m) : findEntryOf i (l.foldl (fun es j => removeEntry j es) s.quench.entries) = findEntryOf i s.quench.entries := by
    generalize s.quench.entries = es
    clear h
    induction l generalizing es with
    | nil => rfl
    | cons j rest ih =>
      rw [List.foldl_cons, ih (fun k inside => apart k (List.mem_cons_of_mem _ inside))]
      refine findEntryOf_removeEntry_ne (fun same : i = j => apart j List.mem_cons_self (same ▸ mem)) _
  exact List.filterMap_congr fun i mem => resultAt_congr store tracker clock (by rw [h.entries]; exact kept i mem)

theorem judged_trans {l m : List Nat} (h : Judged s l t) (g : Judged t m u) (apart : ∀ i ∈ l, i ∉ m) : Judged s (l ++ m) u := by
  have same := judged_results h apart
  have all : results s (l ++ m) = results s l ++ results t m := by rw [same]; exact List.filterMap_append ..
  have ring : t.quenchAtRing = s.quenchAtRing := quenchAtRing_congr (h.writes.2 .store (by decide)) (h.writes.2 .tracker (by decide))
  have settings : t.settings = s.settings := h.writes.2 .settings (by decide)
  have loader : t.loader = s.loader := h.writes.2 .loader (by decide)
  have cycle : t.cycle = s.cycle := h.writes.2 .cycle (by decide)
  obtain ⟨hl, gl⟩ := And.intro h.leaving g.leaving
  obtain ⟨hv, gv⟩ := And.intro h.verdicts g.verdicts
  obtain ⟨hr, gr⟩ := And.intro h.rejects g.rejects
  obtain ⟨hf, gf⟩ := And.intro h.fewer g.fewer
  obtain ⟨hk, gk⟩ := And.intro h.rated g.rated
  have length : (results s (l ++ m)).length = (results s l).length + (results t m).length := by rw [all, List.length_append]
  refine ⟨writes_trans (List.Subset.refl _) h.writes g.writes, ?_, ?_, ?_, by omega, ?_, by omega, ?_, by omega, by omega, ?_,
    fun on still room => ?_⟩
  · rw [g.stands, h.stands]
  · rw [g.entries, h.entries, List.foldl_append]
  · rw [g.last, h.last, List.getLast?_append, Option.or_assoc]
  · rw [g.good, h.good, all, List.filter_append, List.length_append, Nat.add_assoc]
  · rw [ring] at gk
    rw [length, List.length_append]
    split at hk <;> rename_i low <;> simp only [low, if_true, if_false] at gk ⊢ <;> omega
  · rw [g.soak, h.soak, settings, all]
    by_cases some_ : results t m = []
    · simp [some_]
    · simp [some_]
  · obtain ⟨a, told, frames, bound⟩ := h.told on still (by omega)
    have on' : t.onLine = true := (told_onLine told).trans on
    have still' : t.mayBegin = false := (told_mayBegin told).trans still
    have occupancy : t.sched.reportOccupancy = s.sched.reportOccupancy + a.length := told_occupancy (s := s.setQuench t.quench) told
    obtain ⟨b, told', frames', bound'⟩ := g.told on' still' (by omega)
    refine ⟨a ++ b, ?_, ?_, by rw [List.length_append]; omega⟩
    · have first : Told (s.setQuench u.quench) a (t.setQuench u.quench) := told_setQuench (s := s.setQuench t.quench) u.quench told
      exact told_trans first told'
    · rw [resultFrames_append, frames, frames', all, List.map_append]
      refine congrArg (_ ++ ·) (List.map_congr_left fun r _ => sliceResultFrame_congr loader (by rw [cycle]) r)

/-- One result delivered: an entry's, or that of a slice without one where the ring asks for heat. -/
theorem judged_deliver {i : Nat} {fromEntry : Bool} {r : SliceResult} {es : List Entry} (scanning : s.cycle.state = .scanning) (mild : Mild s)
    (only : results s [i] = [r]) (gone : es = removeEntry i s.quench.entries)
    (count : es.length + fromEntry.toNat = s.quench.entries.length) (heats : fromEntry = true ∨ 0 < s.quenchAtRing.energyLow)
    (rejected : fromEntry = true ∨ r.verdict.good = false)
    (run : t = deliver fromEntry r (s.setQuench { s.quench with entries := es, judged := some i })) : Judged s [i] t := by
  have both := writes_deliver (t := s.setQuench { s.quench with entries := es, judged := some i }) fromEntry r mild
  rw [← run] at both
  obtain ⟨writes, quench⟩ := both
  have q : t.quench = { s.quench with
      entries := es, judged := some i
      nGood := s.quench.nGood + r.verdict.good.toNat, nRejected := s.quench.nRejected + (!r.verdict.good).toNat
      nJudged := s.quench.nJudged + fromEntry.toNat, soak := some (s.settings.soakTime * 20000) } :=
    quench.trans (congrArg (fun soak => { s.quench with
      entries := es, judged := some i
      nGood := s.quench.nGood + r.verdict.good.toNat, nRejected := s.quench.nRejected + (!r.verdict.good).toNat
      nJudged := s.quench.nJudged + fromEntry.toNat, soak := soak }) (if_pos scanning))
  refine ⟨writes_trans (ws := resultBlocks) (List.Subset.refl _) (writes_mono (by decide) (writes_setQuench _ s)) writes, ?_, ?_, ?_, ?_, ?_,
    ?_, ?_, ?_, ?_, ?_, fun on still room => ?_⟩
  · rw [q]
  · rw [q]; exact gone
  · rw [q]; rfl
  · rw [q]
    show s.quench.nJudged + fromEntry.toNat + es.length = _
    omega
  · rw [q, only]
    cases good : r.verdict.good <;> simp [good]
  · rw [q, only]
    cases r.verdict.good <;> simp <;> omega
  · rw [q, only]
    rcases heats with rfl | low
    · simp [Nat.add_comm]
    · simp [low]
  · rw [q, only]
    exact Nat.add_le_add_left (Bool.toNat_le _) _
  · rw [q, only]
    rcases rejected with rfl | bad
    · simp only [List.length_singleton, Bool.toNat_true]
      omega
    · simp only [bad, List.length_singleton, Bool.not_false, Bool.toNat_true]
      omega
  · rw [q, only]
    rfl
  · obtain ⟨a, told, handed⟩ := told_deliver (t := s.setQuench { s.quench with entries := es, judged := some i }) fromEntry r mild still
    rw [← quench, ← run] at told
    rw [← run] at handed
    rw [only, List.length_singleton] at room ⊢
    obtain ⟨b, e, notices, bound⟩ := handed on (Nat.lt_of_succ_le ((Nat.le_add_right _ _).trans room))
    refine ⟨a, told, ?_, ?_⟩
    · rw [e, ← List.singleton_append, resultFrames_append, resultFrames_of_notices notices]
      rfl
    · have few : b.length + rejectFree t ≤ rejectFree s := bound room
      rw [e, List.length_cons]
      omega

/-- The judgment of one slice. -/
theorem judged_judgeSlice (i : Nat) (scanning : s.cycle.state = .scanning) (mild : Mild s) : Judged s [i] (judgeSlice i s) := by
  cases found : findEntryOf i s.quench.entries with
  | some e =>
    obtain ⟨mem, rfl⟩ := findEntryOf_some found
    rw [judgeSlice, found]
    exact judged_deliver (fromEntry := true) scanning mild (by simp [results, resultAt_of_some found]) rfl (removeEntry_length mem) (.inl rfl) (.inl rfl) rfl
  | none =>
    have gone := removeEntry_of_absent found
    have result := resultAt_of_none found
    rw [judgeSlice, found]
    by_cases low : 0 < s.quenchAtRing.energyLow
    · rw [if_pos low] at result
      have only : results s [i] = [untrackedResult i] := by simp [results, result]
      have run := judged_deliver scanning mild only rfl (fromEntry := false) (by rw [gone]; rfl) (.inr low)
        (.inr (untrackedResult_good i)) rfl
      rw [gone] at run
      exact (if_pos low : ite _ _ _ = _) ▸ run
    · rw [if_neg low] at result
      have only : results s [i] = [] := by simp [results, result]
      have passed : Judged s [i] (s.setQuench { s.quench with judged := some i }) := by
        refine ⟨writes_mono (by decide) (writes_setQuench _ s), rfl, ?_, rfl, rfl, ?_, ?_, ?_, ?_, ?_, ?_, fun _ _ _ => ⟨[], told_refl _, ?_, ?_⟩⟩
        all_goals simp only [only]
        · exact gone.symm
        · rfl
        · rfl
        · simp [low]
        · exact Nat.le_refl _
        · exact Nat.le_refl _
        · rfl
        · rfl
        · exact Nat.le_refl _
      exact (if_neg low : ite _ _ _ = _) ▸ passed

theorem judged_judgeSlices (l : List Nat) (apart : l.Nodup) (scanning : s.cycle.state = .scanning) (mild : Mild s) :
    Judged s l (judgeSlices l s) := by
  induction l generalizing s with
  | nil => exact judged_refl s
  | cons i rest ih =>
    obtain ⟨fresh, apart⟩ := List.nodup_cons.1 apart
    have one := judged_judgeSlice i scanning mild
    have cycle : (judgeSlice i s).cycle = s.cycle := one.writes.2 .cycle (by decide)
    have more := ih apart (s := judgeSlice i s) (by rw [cycle]; exact scanning) (mild_of_settings (one.writes.2 .settings (by decide)) mild)
    rw [judgeSlices, if_pos scanning]
    exact judged_trans one more fun j own inside => fresh (List.mem_singleton.1 own ▸ inside)

/-! ## The reach -/

/-- Entries in ascending order taken out one after another. -/
theorem foldl_removeEntry (l : List Nat) {es : List Entry} (sorted : es.Pairwise fun a b => a.slice < b.slice) :
    l.foldl (fun es i => removeEntry i es) es = es.filter fun e => decide (e.slice ∉ l) := by
  induction l generalizing es with
  | nil => simp
  | cons i rest ih =>
    rw [List.foldl_cons, ih (removeEntry_sorted sorted), removeEntry_eq_filter sorted, List.filter_filter]
    refine List.filter_congr fun e _ => ?_
    simp only [List.mem_cons, not_or, Bool.decide_and, Bool.and_comm]

/-- The slices from J + 1, or 0, through `r`. -/
def throughReach (judged : Option Nat) (r : Nat) : List Nat :=
  let first := match judged with | some j => j + 1 | none => 0
  List.range' first (r + 1 - first)

theorem slicesToJudge_of_reach {r : Nat} (reached : reach s = some r) : slicesToJudge s = throughReach s.quench.judged r := by
  rw [slicesToJudge, reached]
  rfl

theorem reach_of {r : Nat} (ring : s.tracker.zone = .inside r ∨ (s.tracker.zone = .past ∧ s.tracker.sliceCount = r + 1)) :
    reach s = some r := by
  rcases ring with inside | ⟨past, count⟩
  · simp only [reach, inside]
  · simp [reach, past, count]

theorem throughReach_mem {judged : Option Nat} {r i : Nat} (above : ∀ j, judged = some j → j < i) : i ∈ throughReach judged r ↔ i ≤ r := by
  cases judged with
  | none => simp only [throughReach, List.mem_range'_1]; omega
  | some j =>
    have := above j rfl
    simp only [throughReach, List.mem_range'_1]
    omega

theorem throughReach_last {judged : Option Nat} {r : Nat} (below : ∀ j, judged = some j → j ≤ r) :
    (throughReach judged r).getLast?.or judged = some r := by
  cases judged with
  | none =>
    simp only [throughReach, Nat.sub_zero, List.getLast?_range']
    simp
  | some j =>
    have := below j rfl
    simp only [throughReach, List.getLast?_range']
    by_cases here : j = r
    · simp [here]
    · rw [if_neg (by omega)]
      simp only [Option.some_or, Option.some.injEq]
      omega

theorem mayBegin_of_same (onLine : t.onLine = s.onLine) (line : t.line = s.line) : t.mayBegin = s.mayBegin := by
  rw [State.mayBegin, State.mayBegin, onLine, line]

/-- Entry to DONE hands no SLICE RESULT. -/
theorem enterDone_resultFrames (e : EndKind) (overflow : t.isFatal .txOverflow = false) (on : t.onLine = true) (still : t.mayBegin = false) :
    resultFrames (enterDone e t).sched.reportQ = resultFrames t.sched.reportQ := by
  have still' : (markDone e t).mayBegin = false :=
    (mayBegin_of_same ((markDone_onLine e t).trans on.symm) (markDone_line e t)).trans still
  have overflow' : (markDone e t).isFatal .txOverflow = false := (isFatal_of_settings (markDone_settings e t) _).trans overflow
  obtain ⟨a, told, kinds, -⟩ := told_handReport (cycleSummaryFrame (markDone e t)) overflow' still'
  have none_ : resultFrames a = [] := resultFrames_of_others fun f mem => by
    rcases kinds f mem with rfl | notice
    · exact fun same => by cases same
    · rw [notice]; decide
  rw [enterDone, told_reportQ told, resultFrames_append, none_, List.append_nil, markDone_sched]

theorem enterDone_quench_of_mild (e : EndKind) (overflow : t.isFatal .txOverflow = false) :
    (enterDone e t).quench = { limitSpray .done t.quench with runout := false } := by
  have overflow' : (markDone e t).isFatal .txOverflow = false := (isFatal_of_settings (markDone_settings e t) _).trans overflow
  exact ((writes_handReport_of_mild (cycleSummaryFrame (markDone e t)) overflow').2 .quench (by decide)).trans (markDone_quench e t)

/-- Two engines that differ in valves, pulse phase, ceiling and runout alone. -/
def SameList (q v : Quench) : Prop :=
  ∃ spray pulse timer open_ ceiling runout, v =
    { q with spray := spray, pulse := pulse, pulseTimer := timer, openTime := open_, ceiling := ceiling, runout := runout }

theorem sprayed_sameList (s : State) : SameList s.quench (sprayed s) := by
  unfold sprayed limitSpray driveSpray continuousStep pulsedStep offStep
  repeat' split
  all_goals exact ⟨_, _, _, _, _, _, rfl⟩

theorem quenchRoleEnd_of_listed (runs : t.quench.runout = false) :
    quenchRoleEnd t = t ∨ (t.tracker.zone = .past ∧ t.quench.sprayOver = true ∧ quenchRoleEnd t = enterDone .normal t) := by
  unfold quenchRoleEnd
  rw [runs]
  split
  case isTrue over_ =>
    rw [if_neg Bool.false_ne_true]
    split
    case isTrue ends => exact .inr ⟨ends.1, over_.2, rfl⟩
    case isFalse => exact .inl rfl
  case isFalse => exact .inl rfl

theorem sameList_trans {q v w : Quench} (h : SameList q v) (g : SameList v w) : SameList q w := by
  obtain ⟨_, _, _, _, _, _, rfl⟩ := h
  obtain ⟨_, _, _, _, _, _, rfl⟩ := g
  exact ⟨_, _, _, _, _, _, rfl⟩

/-- A control step after its judgment: valves, ceiling and role end leave list, counts and results handed. -/
theorem quenchStep_of_judged (scanning : s.cycle.state = .scanning) (runs : s.quench.runout = false) (overflow : s.isFatal .txOverflow = false) :
    let t := quenchRoleEnd (computeCeiling (setValves s))
    SameList s.quench t.quench ∧ (s.onLine = true → s.mayBegin = false → resultFrames t.sched.reportQ = resultFrames s.sched.reportQ) ∧
      (s.quench.soak ≠ none ∨ s.tracker.zone ≠ .past → t.cycle.state = .scanning) := by
  let v := s.setQuench (sprayed s)
  have valves : computeCeiling (setValves s) = v := by
    have drives : setValves s = s.setQuench (limitSpray s.cycle.state (driveSpray s)) := by simp only [setValves, scanning]
    rw [drives]
    rfl
  have runs' : v.quench.runout = false := (limitSpray_stands _ _).2.2.2.2.2.2.trans ((driveSpray_stands s).2.2.trans runs)
  have soak : v.quench.soak = s.quench.soak := (limitSpray_stands _ _).2.2.2.2.2.1.trans (driveSpray_stands s).2.1
  rw [valves]
  rcases quenchRoleEnd_of_listed runs' with e | ⟨past, over_, e⟩ <;> rw [e]
  · exact ⟨sprayed_sameList s, fun _ _ => rfl, fun _ => scanning⟩
  · refine ⟨sameList_trans (sprayed_sameList s) ?_, fun on still => enterDone_resultFrames .normal overflow on still, fun stays => ?_⟩
    · rw [enterDone_quench_of_mild (t := v) .normal overflow]
      exact ⟨_, _, _, _, _, _, rfl⟩
    · simp only [Quench.sprayOver, Bool.and_eq_true, Option.isNone_iff_eq_none, soak] at over_
      exact (stays.elim (· over_.1) (· past)).elim

theorem filter_le_length (r : Nat) (es : List Entry) :
    (es.filter fun e => decide (e.slice ≤ r)).length + (es.filter fun e => decide (r < e.slice)).length = es.length := by
  rw [List.length_eq_length_filter_add (l := es) (fun e => decide (e.slice ≤ r))]
  simp only [← decide_not, Nat.not_le]

/-- Settles O43. -/
theorem judgmentThroughReach : Obligations.JudgmentThroughReach := by
  intro ticks s r role scanning runout ring below sorted above reject overflow first tracked untracked u results' ofResults
  have on : s.cycle.state ≠ .offline := by simp [scanning]
  have mild : Mild u := ⟨reject, overflow⟩
  let l := throughReach s.quench.judged r
  let j := judgeSlices l u
  have run : Judged u l j := judged_judgeSlices l (List.nodup_range' ..) scanning mild
  have judged : judgeReached u = j := by
    have nonempty : slicesToJudge u = l := slicesToJudge_of_reach (s := u) (reach_of (s := u) ring)
    rw [judgeReached, if_pos ⟨scanning, runout⟩, nonempty]
  have cycle : j.cycle = u.cycle := run.writes.2 .cycle (by decide)
  have tracker : j.tracker = u.tracker := run.writes.2 .tracker (by decide)
  have runs : j.quench.runout = false := by rw [run.stands]; exact runout
  obtain ⟨sameList, frames, scans⟩ := quenchStep_of_judged (s := j) (by rw [cycle]; exact scanning) runs
    ((isFatal_of_settings (run.writes.2 .settings (by decide)) _).trans overflow)
  let t := quenchRoleEnd (computeCeiling (setValves j))
  have stepped : exec (.quenchControlStep ticks) s = .next (settled s t) := by
    rw [exec_quenchControlStep ticks role on, quenchStep, judged]
  have same : results' = results u l := rfl
  have entries : j.quench.entries = s.quench.entries.filter fun e => decide (r < e.slice) := by
    rw [run.entries]
    refine (foldl_removeEntry l sorted).trans (List.filter_congr fun e mem => ?_)
    exact decide_eq_decide.2 ((not_congr (throughReach_mem (above e mem))).trans Nat.not_le)
  have counted : tracked + j.quench.entries.length = s.quench.entries.length := by
    rw [entries]
    exact filter_le_length r s.quench.entries
  have length : l.length = r + 1 - first := List.length_range' ..
  have leaving : j.quench.nJudged + j.quench.entries.length = s.quench.nJudged + s.quench.entries.length := run.leaving
  have nJudged : j.quench.nJudged = s.quench.nJudged + tracked := by omega
  have rated : (results u l).length = tracked + untracked := by
    have rated := run.rated
    have fewer : j.quench.nJudged ≤ s.quench.nJudged + (results u l).length := run.fewer
    by_cases low : 0 < s.quenchAtRing.energyLow
    · have all : (results u l).length + s.quench.nJudged = l.length + s.quench.nJudged := rated.trans (if_pos low)
      have rest : untracked = r + 1 - first - tracked := if_pos low
      omega
    · have all : (results u l).length + s.quench.nJudged = j.quench.nJudged := rated.trans (if_neg low)
      have rest : untracked = 0 := if_neg low
      omega
  have verdicts : j.quench.nGood + j.quench.nRejected = s.quench.nGood + s.quench.nRejected + (results u l).length := run.verdicts
  have rejects : s.quench.nRejected + (results u l).length + s.quench.nJudged ≤ j.quench.nRejected + j.quench.nJudged := run.rejects
  have soak : 0 < tracked + untracked → j.quench.soak = some (s.settings.soakTime * 20000) := fun some_ =>
    run.soak.trans (if_neg fun none_ => by rw [none_] at rated; simp only [List.length_nil] at rated; omega)
  obtain ⟨_, _, _, _, _, _, e⟩ := sameList
  refine ⟨_, stepped, ?_, ?_, ?_, ?_, ?_, ?_, fun onLine still room => ?_, ?_, ?_, fun some_ => ⟨?_, ?_⟩, fun inside => ?_⟩
  all_goals try rw [settled_quench, e]
  · exact run.last.trans (throughReach_last below)
  · exact entries
  · exact nJudged
  · show j.quench.nGood + j.quench.nRejected = _
    omega
  · show _ ≤ j.quench.nRejected
    omega
  · exact run.good
  · have few : rejectFree u ≤ 1 := Bool.toNat_le _
    have fits : s.sched.reportOccupancy + (results u l).length + 2 ≤ 16 := room
    obtain ⟨a, told, handed, -⟩ := run.told onLine still (show s.sched.reportOccupancy + _ + _ ≤ 16 by omega)
    have onLine' : j.onLine = true := (told_onLine (s := u.setQuench j.quench) told).trans onLine
    have still' : j.mayBegin = false := (told_mayBegin (s := u.setQuench j.quench) told).trans still
    rw [(settled_queues s).2.1]
    refine (frames onLine' still').trans ?_
    rw [told_reportQ (s := u.setQuench j.quench) told, resultFrames_append, handed]
    rfl
  · rw [run.stands]
    rfl
  · rw [run.stands]
    rfl
  · exact soak some_
  · rw [settled_cycle]
    exact scans (.inl (by rw [soak some_]; simp))
  · rw [settled_cycle]
    exact scans (.inr (by rw [tracker]; simp [show u.tracker.zone = _ from inside]))

end Sys2Proof.Machine
end

section
/-! SLICE NOTICE frames: the sender's receipt, the chain link, the notice applied or not (O40 to O42). -/

namespace Sys2Proof.Machine

variable {s t u : State}

/-! ## The sender's receipt -/

theorem writes_receipt (n : StationNo) (t : State) : Writes [.peers, .cycle, .travel, .power] t (receipt n t) := by
  unfold receipt
  split
  · split
    · rename_i p _
      have put : Writes [.peers, .cycle, .travel, .power] t (t.setPeers (putPeer (returned t p) t.peers)) :=
        writes_mono (by decide) (writes_setPeers _ t)
      dsimp only
      split
      · exact put
      · exact writes_trans (by decide) put (writes_notifyPeer_of_not_beacon _ _)
    · exact writes_refl _ t
  · exact writes_refl _ t

theorem receipt_cycle (n : StationNo) (t : State) :
    (receipt n t).cycle = t.cycle ∨ (t.cycle.state = .starting ∧ (receipt n t).cycle = (enterScanning t).cycle) := by
  unfold receipt
  split
  · split
    · rename_i p _
      dsimp only
      split
      · exact .inl rfl
      · exact notifyPeer_cycle (returned t p) (t.setPeers (putPeer (returned t p) t.peers))
    · exact .inl rfl
  · exact .inl rfl

/-- The state that a receipt leaves: the same, or SCANNING where it was STARTING; the cycle number stands. -/
theorem receipt_state (n : StationNo) (t : State) :
    (receipt n t).cycle.number = t.cycle.number ∧ (receipt n t).inCycle = t.inCycle ∧
    ((receipt n t).cycle.state = t.cycle.state ∨ (t.cycle.state = .starting ∧ (receipt n t).cycle.state = .scanning)) := by
  rcases receipt_cycle n t with e | ⟨starting, e⟩
  · exact ⟨by rw [e], by rw [State.inCycle, e]; rfl, .inl (by rw [e])⟩
  · refine ⟨by rw [e]; rfl, ?_, .inr ⟨starting, by rw [e]; rfl⟩⟩
    rw [State.inCycle, e, State.inCycle, starting]
    rfl

/-! ## The chain link -/

theorem checkChain_of_whole (from_ : NoticeSource) {n : NoticeFields}
    (whole : n.previous = none ∨ s.quench.lastNoticeOf from_.sender = n.previous) : checkChain from_ n s = s := by
  unfold checkChain
  rcases whole with e | e
  · rw [e]
  · cases previous : n.previous with
    | none => rfl
    | some l => exact if_pos (e.trans previous)

/-- NOTICE_LOST reported for a broken link. -/
def linkLost (from_ : NoticeSource) (s : State) : State := report ⟨.noticeLost, some from_.sender, some from_.captured⟩ s

theorem checkChain_of_broken {from_ : NoticeSource} {n : NoticeFields} {l : Nat} (previous : n.previous = some l)
    (broken : s.quench.lastNoticeOf from_.sender ≠ some l) :
    checkChain from_ n s = if (linkLost from_ s).inCycle then markLost from_ l (linkLost from_ s) else linkLost from_ s := by
  unfold checkChain
  rw [previous]
  exact if_neg broken

/-- The state once the chain link has been compared and recorded. -/
def linked (from_ : NoticeSource) (n : NoticeFields) (s : State) : State := setLastNotice from_.sender n.slice (checkChain from_ n s)

section
variable {from_ : NoticeSource} {n : NoticeFields}

theorem takeNotice_of_not_meant (not : s.role ≠ some .quench ∨ s.inCycle = false ∨ n.cycle ≠ s.cycle.number) :
    takeNotice from_ n s = s := if_pos not

theorem takeNotice_of_meant (role : s.role = some .quench) (cycle : s.inCycle = true) (number : n.cycle = s.cycle.number) :
    takeNotice from_ n s =
      if (linked from_ n s).takesNotices then applyNotice from_ n (linked from_ n s)
      else if (linked from_ n s).cycle.state = .done then countLate (linked from_ n s) else linked from_ n s :=
  if_neg (by simp [role, cycle, number])

theorem takesNotices_iff (s : State) : s.takesNotices = true ↔ s.cycle.state = .starting ∨ s.cycle.state = .scanning := by
  simp [State.takesNotices]

theorem takeNotice_of_done (role : s.role = some .quench) (cycle : s.inCycle = true) (number : n.cycle = s.cycle.number)
    (done : (linked from_ n s).cycle.state = .done) : takeNotice from_ n s = countLate (linked from_ n s) := by
  rw [takeNotice_of_meant role cycle number, if_neg (by simp [takesNotices_iff, done]), if_pos done]

theorem takeNotice_of_taken (role : s.role = some .quench) (cycle : s.inCycle = true) (number : n.cycle = s.cycle.number)
    (takes : (linked from_ n s).cycle.state = .starting ∨ (linked from_ n s).cycle.state = .scanning) :
    takeNotice from_ n s = applyNotice from_ n (linked from_ n s) := by
  rw [takeNotice_of_meant role cycle number, if_pos ((takesNotices_iff _).2 takes)]

/-! ## What a notice keeps, whatever it reports -/

/-- Properties that a report keeps, and that the engine's own writes keep which leave the last-notice records. -/
structure NoticeKeeps (P : State → Prop) : Prop extends ReportKeeps P where
  quench : ∀ {t} v, v.lastNotice = t.quench.lastNotice → P t → P (t.setQuench v)
  draws : ∀ {t} v, P t → P (t.setFreeDraws v)

variable {P : State → Prop}

theorem keeps_countVerdict (w : NoticeKeeps P) (good : Bool) (h : P t) : P (countVerdict good t) := by
  unfold countVerdict
  split
  · exact w.quench _ rfl h
  · exact keeps_report w.toReportKeeps _ (w.quench _ rfl h)

theorem keeps_deliver (w : NoticeKeeps P) (fromEntry : Bool) (r : SliceResult) (h : P t) : P (deliver fromEntry r t) := by
  unfold deliver
  rw [restartSoak_eq, countJudged_eq]
  exact w.quench _ rfl (w.quench _ rfl (keeps_countVerdict w _ (keeps_handReport w.toReportKeeps _ h)))

theorem keeps_judgeInRunout (w : NoticeKeeps P) (i : Nat) (h : P t) : P (judgeInRunout i t) := by
  unfold judgeInRunout
  split
  · split
    · exact keeps_deliver w _ _ (w.quench _ rfl h)
    · exact h
  · exact h

theorem keeps_markLost (w : NoticeKeeps P) (from_ : NoticeSource) (i : Nat) (h : P t) : P (markLost from_ i t) := by
  unfold markLost
  split
  · split
    · exact w.quench _ rfl h
    · split
      · exact keeps_judgeInRunout w _ (w.quench _ rfl h)
      · exact keeps_report w.toReportKeeps _ h
  · exact h

theorem keeps_checkChain (w : NoticeKeeps P) (from_ : NoticeSource) (n : NoticeFields) (h : P t) : P (checkChain from_ n t) := by
  unfold checkChain
  split
  · exact h
  · split
    · exact h
    · have reported := keeps_report w.toReportKeeps ⟨.noticeLost, some from_.sender, some from_.captured⟩ h
      dsimp only
      split
      · exact keeps_markLost w _ _ reported
      · exact reported

theorem keeps_addToEntry (w : NoticeKeeps P) (n : NoticeFields) (h : P t) : P (addToEntry n t) := by
  unfold addToEntry countDraw
  split
  · exact w.draws _ (w.quench _ rfl h)
  · exact w.quench _ rfl h

theorem keeps_applyNotice (w : NoticeKeeps P) (from_ : NoticeSource) (n : NoticeFields) (h : P t) : P (applyNotice from_ n t) := by
  unfold applyNotice
  split
  · exact w.quench _ rfl h
  · split
    · exact keeps_report w.toReportKeeps _ h
    · split
      · exact keeps_judgeInRunout w _ (keeps_addToEntry w n h)
      · split
        · exact keeps_judgeInRunout w _ (keeps_addToEntry w n (w.quench _ rfl h))
        · exact keeps_report w.toReportKeeps _ h

theorem noticeKeeps_latched (k : FaultKind) : NoticeKeeps fun t => t.isLatched k = true where
  toReportKeeps := reportKeeps_latched k
  quench _ _ h := h
  draws _ h := h

theorem noticeKeeps_lastNotice (l : List (Option Nat)) : NoticeKeeps fun t => t.quench.lastNotice = l where
  toReportKeeps := reportKeeps_quench (P := (·.lastNotice = l)) (fun _ _ h => h) fun _ h => h
  quench _ same h := same.trans h
  draws _ h := h

/-- Whatever becomes of a notice, the record is set to its own slice. -/
theorem takeNotice_lastNotice (role : s.role = some .quench) (cycle : s.inCycle = true) (number : n.cycle = s.cycle.number) :
    (takeNotice from_ n s).quench.lastNotice = s.quench.lastNotice.set from_.sender.toNat (some n.slice) := by
  have checked := keeps_checkChain (noticeKeeps_lastNotice s.quench.lastNotice) from_ n (t := s) rfl
  have recorded : (linked from_ n s).quench.lastNotice = s.quench.lastNotice.set from_.sender.toNat (some n.slice) :=
    congrArg (·.set from_.sender.toNat (some n.slice)) checked
  rw [takeNotice_of_meant role cycle number]
  split
  · exact keeps_applyNotice (noticeKeeps_lastNotice _) from_ n recorded
  · split
    · exact recorded
    · exact recorded

/-- A broken link leaves NOTICE_LOST latched, unless it is masked. -/
theorem takeNotice_noticeLost {l : Nat} (role : s.role = some .quench) (cycle : s.inCycle = true) (number : n.cycle = s.cycle.number)
    (previous : n.previous = some l) (broken : s.quench.lastNoticeOf from_.sender ≠ some l) (mask : s.isMasked .noticeLost = false) :
    (takeNotice from_ n s).isLatched .noticeLost = true := by
  have keeps := noticeKeeps_latched .noticeLost
  have reported : (linkLost from_ s).isLatched .noticeLost = true := report_latched (r := ⟨.noticeLost, _, _⟩) mask
  have recorded : (linked from_ n s).isLatched .noticeLost = true := by
    unfold linked
    rw [checkChain_of_broken previous broken]
    split
    · exact keeps_markLost keeps from_ l reported
    · exact reported
  rw [takeNotice_of_meant role cycle number]
  split
  · exact keeps_applyNotice keeps from_ n recorded
  · split
    · exact recorded
    · exact recorded

end

end Sys2Proof.Machine
end

section
/-! SLICE NOTICE frames not applied (O41), and applied (O40). -/

namespace Sys2Proof.Machine

variable {s t u : State}

/-! ## The state in which a notice is taken -/

/-- What the end of a reception and the sender's receipt leave to the Quench Engine. -/
structure Receipted (ticks : Nat) (s r : State) : Prop where
  writes : Writes [.peers, .cycle, .travel, .power] (s.heard ticks) r
  number : r.cycle.number = s.cycle.number
  inCycle : r.inCycle = s.inCycle
  state : r.cycle.state = s.cycle.state ∨ (s.cycle.state = .starting ∧ r.cycle.state = .scanning)

theorem received_receipt (ticks : Nat) (n : StationNo) (s : State) : Receipted ticks s (receipt n (s.heard ticks)) := by
  obtain ⟨number, inCycle, state⟩ := receipt_state n (s.heard ticks)
  exact ⟨writes_receipt n _, number, inCycle, state⟩

section
variable {ticks : Nat} {r : State} (h : Receipted ticks s r)
include h

theorem received_quench : r.quench = (advance ticks s).quench := h.writes.2 .quench (by decide)
theorem received_settings : r.settings = s.settings := h.writes.2 .settings (by decide)
theorem received_loader : r.loader = s.loader := h.writes.2 .loader (by decide)
theorem received_tracker : r.tracker = (advance ticks s).tracker := h.writes.2 .tracker (by decide)
theorem received_sliceCount : r.tracker.sliceCount = s.tracker.sliceCount := (congrArg Tracker.sliceCount (received_tracker h)).trans rfl
theorem received_fault : r.fault = s.fault := h.writes.2 .fault (by decide)
theorem received_sched : r.sched = (advance ticks s).sched := h.writes.2 .sched (by decide)
theorem received_clock : r.clock = (s.heard ticks).clock := h.writes.2 .clock (by decide)
theorem received_role : r.role = s.role := role_of_loader (received_loader h)
theorem received_isFatal (k : FaultKind) : r.isFatal k = s.isFatal k := isFatal_of_settings (received_settings h) k
theorem received_isMasked (k : FaultKind) : r.isMasked k = s.isMasked k := isMasked_of_settings (received_settings h) k

/-- A frame has just ended, so no frame of the station begins. -/
theorem received_mayBegin : r.mayBegin = false := by
  have line : r.line = (s.heard ticks).line := h.writes.2 .line (by decide)
  rw [State.mayBegin, line]
  simp [State.heard, endReception]

theorem received_taken (taken : s.cycle.state = .starting ∨ s.cycle.state = .scanning) :
    r.cycle.state = .starting ∨ r.cycle.state = .scanning := by
  rcases h.state with e | ⟨-, e⟩
  · rwa [e]
  · exact .inr e

theorem received_same (settled_ : s.cycle.state ≠ .starting) : r.cycle.state = s.cycle.state :=
  h.state.resolve_right fun e => settled_ e.1

end

theorem exec_sliceNotice {f : Rx} (ticks : Nat) (arrives : Arrives .sliceNotice f s) :
    exec (.sliceNotice ticks f) s =
      .next (settled s (takeNotice ⟨f.source, ⟨f.source, .sliceNotice⟩⟩ (noticeOf f.words) (receipt f.source (s.heard ticks)))) :=
  congrArg (fun t => Host.Outcome.next (settled s t)) (receive_of_arrives ticks arrives (by decide))

/-! ## The engine's own part of a notice -/

section
variable {from_ : NoticeSource} {n : NoticeFields}

theorem above_eq_true (q : Quench) (i : Nat) : q.above i = true ↔ ∀ j, q.judged = some j → j < i := by
  unfold Quench.above
  cases q.judged <;> simp

theorem above_eq_false (q : Quench) (i : Nat) : q.above i = false ↔ ∃ j, q.judged = some j ∧ i ≤ j := by
  unfold Quench.above
  cases q.judged <;> simp

/-- The engine with a slice inferred lost. -/
def Quench.withLost (count l : Nat) (q : Quench) : Quench :=
  if q.above l && decide (l < count) then
    match findEntryOf l q.entries with
    | some _ => { q with entries := changeEntry l (fun e => { e with lost := true }) q.entries }
    | none =>
      if q.entries.length < 48 then
        { q.create l with entries := changeEntry l (fun e => { e with lost := true }) (q.create l).entries }
      else q
  else q

theorem withLost_stands (count l : Nat) (q : Quench) :
    q.withLost count l = { q with entries := (q.withLost count l).entries, nCreated := (q.withLost count l).nCreated } := by
  unfold Quench.withLost
  split
  · split
    · rfl
    · split <;> rfl
  · rfl

theorem judgeInRunout_of_not (i : Nat) (rests : s.quench.runout = false) : judgeInRunout i s = s := if_neg (by simp [rests])

/-- Outside a runout a slice inferred lost is marked, and nothing is reported but TRAIL_FULL. -/
theorem writes_markLost (from_ : NoticeSource) (l : Nat) (rests : s.quench.runout = false)
    (mild : s.isFatal .trailFull = false ∨ s.quench.entries.length < 48) (overflow : s.isFatal .txOverflow = false) :
    Writes [.quench, .sched, .line, .fault] s (markLost from_ l s) ∧
      (markLost from_ l s).quench = s.quench.withLost s.tracker.sliceCount l := by
  have wrote (v : Quench) : Writes [.quench, .sched, .line, .fault] s (s.setQuench v) := writes_mono (by decide) (writes_setQuench v s)
  unfold markLost Quench.withLost
  split
  case isFalse => exact ⟨writes_refl _ s, rfl⟩
  case isTrue =>
    cases findEntryOf l s.quench.entries with
    | some e => exact ⟨wrote _, rfl⟩
    | none =>
      by_cases room : s.quench.entries.length < 48
      · have room' : s.quench.entries.length < Config.listCapacity := room
        simp only [if_pos room, if_pos room']
        rw [judgeInRunout_of_not _ (by exact rests)]
        exact ⟨wrote _, rfl⟩
      · have full : ¬ s.quench.entries.length < Config.listCapacity := room
        simp only [if_neg room, if_neg full]
        have reported := writes_report_of_mild (r := ⟨.trailFull, some from_.sender, some from_.captured⟩) (mild.resolve_right room) overflow
        exact ⟨writes_mono (by decide) reported, reported.2 .quench (by decide)⟩

/-- The stage a notice is taken with is one of 1 to 3. -/
theorem stageTaken_range (ws : List Word) (s : State) :
    1 ≤ stageTaken (noticeOf ws).stage s ∧ stageTaken (noticeOf ws).stage s ≤ 3 ∧
      ((noticeOf ws).stage ≠ 0 → stageTaken (noticeOf ws).stage s = (noticeOf ws).stage) := by
  have small : (noticeOf ws).stage < 4 := Nat.mod_lt _ (by decide)
  have free := (Config.freeStage s.freeDraws).isLt
  unfold stageTaken
  split
  · exact ⟨by omega, by omega, fun some_ => absurd ‹_› some_⟩
  · exact ⟨by omega, by omega, fun _ => rfl⟩

/-- The engine with a notice added to the entry of its slice, made where there is none. -/
def Quench.withEntry (n : NoticeFields) (now : LocalTime) (stage : Nat) (q : Quench) : Quench :=
  let made := if findEntryOf n.slice q.entries = none then q.create n.slice else q
  { made with entries := changeEntry n.slice (addNotice q.finalStage now stage n.energy) made.entries }

theorem withEntry_stands (now : LocalTime) (stage : Nat) (q : Quench) :
    q.withEntry n now stage = { q with
      entries := (q.withEntry n now stage).entries
      nCreated := q.nCreated + if findEntryOf n.slice q.entries = none then 1 else 0 } := by
  unfold Quench.withEntry
  split <;> rfl

theorem writes_addToEntry (n : NoticeFields) (s : State) :
    Writes [.quench, .freeDraws] s (addToEntry n s) ∧ (addToEntry n s).quench = { s.quench with
      entries := changeEntry n.slice (addNotice s.quench.finalStage s.clock.time (stageTaken n.stage s) n.energy) s.quench.entries } := by
  unfold addToEntry countDraw
  split
  · exact ⟨⟨rfl, by rintro ⟨⟩ <;> simp [sameBlock]⟩, rfl⟩
  · exact ⟨⟨rfl, by rintro ⟨⟩ <;> simp [sameBlock]⟩, rfl⟩

/-- The state with a notice added to the entry of its slice, before a runout judges it. -/
def noticeAdded (n : NoticeFields) (s : State) : State :=
  addToEntry n (if findEntryOf n.slice s.quench.entries = none then s.setQuench (s.quench.create n.slice) else s)

theorem writes_noticeAdded (n : NoticeFields) (s : State) :
    Writes [.quench, .freeDraws] s (noticeAdded n s) ∧
      (noticeAdded n s).quench = s.quench.withEntry n s.clock.time (stageTaken n.stage s) := by
  unfold noticeAdded Quench.withEntry
  split
  · obtain ⟨added, quench⟩ := writes_addToEntry n (s.setQuench (s.quench.create n.slice))
    exact ⟨writes_trans (by decide) (writes_mono (by decide) (writes_setQuench _ s)) added, quench⟩
  · exact writes_addToEntry n s

/-- A notice above J and below N whose entry is there or has room is applied. -/
theorem applyNotice_of_room (above : s.quench.above n.slice = true) (inside : n.slice < s.tracker.sliceCount)
    (room : s.quench.entries.length < 48 ∨ (findEntryOf n.slice s.quench.entries).isSome = true) :
    applyNotice from_ n s = judgeInRunout n.slice (noticeAdded n s) := by
  unfold applyNotice noticeAdded
  rw [if_neg (by simp [above]), if_neg (Nat.not_le.2 inside)]
  cases found : findEntryOf n.slice s.quench.entries with
  | some e => simp only [reduceCtorEq, if_false]
  | none =>
    have fits : s.quench.entries.length < Config.listCapacity := room.resolve_right (by simp [found])
    rw [if_pos rfl]
    exact if_pos fits

theorem applyNotice_of_late (late : s.quench.above n.slice = false) : applyNotice from_ n s = countLate s := if_pos late

/-- Beyond N, or where the list is full and holds no entry of the slice. -/
theorem applyNotice_of_full (above : s.quench.above n.slice = true)
    (full : s.tracker.sliceCount ≤ n.slice ∨ (48 ≤ s.quench.entries.length ∧ findEntryOf n.slice s.quench.entries = none)) :
    applyNotice from_ n s = reportTrailFull from_ s := by
  unfold applyNotice
  rw [if_neg (by simp [above])]
  by_cases beyond : s.tracker.sliceCount ≤ n.slice
  · rw [if_pos beyond]
  · obtain ⟨capacity, absent⟩ := full.resolve_left beyond
    have full' : ¬ s.quench.entries.length < Config.listCapacity := Nat.not_lt.2 capacity
    rw [if_neg beyond, absent]
    exact if_neg full'

end

/-! ## O41: notices not applied -/

/-- Settles O41. -/
theorem sliceNoticeNotApplied : Obligations.SliceNoticeNotApplied := by
  intro ticks f s arrives n q
  let source : NoticeSource := ⟨f.source, ⟨f.source, .sliceNotice⟩⟩
  let r := receipt f.source (s.heard ticks)
  have received : Receipted ticks s r := received_receipt ticks f.source s
  have quench : r.quench = q := received_quench received
  have run : exec (.sliceNotice ticks f) s = .next (settled s (takeNotice source n r)) := exec_sliceNotice ticks arrives
  have wholeLink (whole : n.previous = none ∨ s.quench.lastNoticeOf f.source = n.previous) :
      linked source n r = setLastNotice f.source n.slice r := by
    rw [linked, checkChain_of_whole]
    exact whole.imp_right fun e => by rw [quench]; exact e
  have recorded : (setLastNotice f.source n.slice r).quench = { q with lastNotice := q.lastNotice.set f.source.toNat (some n.slice) } := by
    rw [setLastNotice, quench]
    rfl
  refine ⟨fun other => ?_, fun role number done => ⟨fun whole => ?_, fun some_ broken mild overflow trail rests => ?_⟩,
    fun role number taken whole => ⟨fun late => ?_, fun above full mask => ?_⟩⟩
  · have not : r.role ≠ some .quench ∨ r.inCycle = false ∨ n.cycle ≠ r.cycle.number := by
      rw [received_role received, received.inCycle, received.number]
      exact other
    rw [takeNotice_of_not_meant not] at run
    exact ⟨_, run, (settled_quench _ _).trans quench⟩
  · have cycle : r.inCycle = true := received.inCycle.trans ((inCycle_iff s).2 (.inr (.inr done)))
    have link := wholeLink whole
    have state : (linked source n r).cycle.state = .done := by
      rw [link]
      exact (received_same received (by simp [done])).trans done
    rw [takeNotice_of_done ((received_role received).trans role) cycle (number.trans received.number.symm) state, link] at run
    refine ⟨_, run, ?_, ?_⟩
    · rw [settled_fault]
      exact (received_fault received : r.fault = s.fault)
    · rw [settled_quench, countLate, recorded]
      rfl
  · have cycle : r.inCycle = true := received.inCycle.trans ((inCycle_iff s).2 (.inr (.inr done)))
    obtain ⟨l, previous⟩ := Option.ne_none_iff_exists'.1 some_
    have broken' : r.quench.lastNoticeOf f.source ≠ some l := by
      rw [quench, ← previous]
      exact broken
    have reported : Writes [.sched, .line, .fault] r (linkLost source r) :=
      writes_report_of_mild ((received_isFatal received _).trans mild) ((received_isFatal received _).trans overflow)
    have sameCycle : (linkLost source r).cycle = r.cycle := reported.2 .cycle (by decide)
    have sameQuench : (linkLost source r).quench = q := (reported.2 .quench (by decide)).trans quench
    have settings : (linkLost source r).settings = s.settings := (reported.2 .settings (by decide)).trans (received_settings received)
    obtain ⟨marked, lost⟩ := writes_markLost (s := linkLost source r) source l (by rw [sameQuench]; exact rests)
      (trail.imp ((isFatal_of_settings settings _).trans ·) fun room => by rw [sameQuench]; exact room)
      ((isFatal_of_settings settings _).trans overflow)
    have link : linked source n r = setLastNotice f.source n.slice (markLost source l (linkLost source r)) := by
      rw [linked, checkChain_of_broken previous broken', if_pos (by rw [State.inCycle, sameCycle]; exact cycle)]
    have markedCycle : (markLost source l (linkLost source r)).cycle = (linkLost source r).cycle := marked.2 .cycle (by decide)
    have state : (linked source n r).cycle.state = .done := by
      rw [link]
      show (markLost source l (linkLost source r)).cycle.state = .done
      rw [markedCycle, sameCycle]
      exact (received_same received (by simp [done])).trans done
    have meant := (received_role received).trans role
    have late := takeNotice_of_done meant cycle (number.trans received.number.symm) state
    refine ⟨_, run, ?_, ?_, ?_, fun mask => ?_⟩
    · rw [settled_quench, late, link]
      show (markLost source l (linkLost source r)).quench.nLate + 1 = _
      rw [lost, withLost_stands, sameQuench]
    · rw [settled_cycle, late]
      exact state
    · rw [settled_quench, takeNotice_lastNotice meant cycle (number.trans received.number.symm), quench]
    · rw [settled_isLatched]
      exact takeNotice_noticeLost meant cycle (number.trans received.number.symm) previous broken' ((received_isMasked received _).trans mask)
  · have cycle : r.inCycle = true := received.inCycle.trans ((inCycle_iff s).2 (taken.imp_right .inl))
    have link := wholeLink whole
    have takes : (linked source n r).cycle.state = .starting ∨ (linked source n r).cycle.state = .scanning := by
      rw [link]
      exact received_taken (r := r) received taken
    have applied := takeNotice_of_taken ((received_role received).trans role) cycle (number.trans received.number.symm) takes
    have below : (linked source n r).quench.above n.slice = false := by
      rw [link, above_eq_false, recorded]
      exact late
    rw [applied, applyNotice_of_late below, link] at run
    refine ⟨_, run, ?_⟩
    rw [settled_quench, countLate, recorded]
    rfl
  · have cycle : r.inCycle = true := received.inCycle.trans ((inCycle_iff s).2 (taken.imp_right .inl))
    have link := wholeLink whole
    have takes : (linked source n r).cycle.state = .starting ∨ (linked source n r).cycle.state = .scanning := by
      rw [link]
      exact received_taken (r := r) received taken
    have applied := takeNotice_of_taken ((received_role received).trans role) cycle (number.trans received.number.symm) takes
    let w := setLastNotice f.source n.slice r
    have reports : applyNotice source n w = reportTrailFull source w := by
      refine applyNotice_of_full ((above_eq_true _ _).2 ?_) ?_
      · rw [recorded]; exact above
      · rw [recorded]
        exact full.imp_left fun beyond => Nat.le_trans (Nat.le_of_eq (received_sliceCount (r := r) received)) beyond
    rw [applied, link, reports] at run
    have wQuench : w.quench = { q with lastNotice := q.lastNotice.set f.source.toNat (some n.slice) } := recorded
    have keeps {P : Quench → Prop} (flood : ∀ q n, P q → P (q.flushAndFlood n)) (down : ∀ q, P q → P q.standDown) (h : P w.quench) :
        P (reportTrailFull source w).quench := keeps_report (reportKeeps_quench flood down) _ h
    refine ⟨_, run, ?_, ?_, ?_, ?_, ?_, fun mild overflow => ?_⟩
    · rw [settled_isLatched]
      exact report_latched (r := ⟨.trailFull, _, _⟩) ((received_isMasked received _).trans mask)
    · rw [settled_quench]
      exact keeps (P := (·.nCreated = q.nCreated)) (fun _ _ h => h) (fun _ h => h) (by rw [wQuench])
    · rw [settled_quench]
      exact keeps (P := (·.nLate = q.nLate)) (fun _ _ h => h) (fun _ h => h) (by rw [wQuench])
    · rw [settled_quench]
      exact keeps (P := (·.lastNotice = q.lastNotice.set f.source.toNat (some n.slice))) (fun _ _ h => h) (fun _ h => h) (by rw [wQuench])
    · rw [settled_quench]
      exact keeps (P := fun v => ∀ e ∈ v.entries, e ∈ q.entries) (fun _ _ _ e mem => by simp [Quench.flushAndFlood] at mem) (fun _ h => h)
        (by rw [wQuench]; exact fun _ mem => mem)
    · have reported : Writes [.sched, .line, .fault] w (reportTrailFull source w) :=
        writes_report_of_mild ((received_isFatal received _).trans mild) ((received_isFatal received _).trans overflow)
      rw [settled_quench, reported.2 .quench (by decide), wQuench]

end Sys2Proof.Machine
end

section
/-! SLICE NOTICE frames applied (O40). -/

namespace Sys2Proof.Machine

variable {s t u : State} {n : NoticeFields}

/-! ## Energies and entries -/

theorem insertPair_mem {stage energy : Nat} {p : Nat × Nat} {l : List (Nat × Nat)} :
    p ∈ insertPair stage energy l ↔ p = (stage, energy) ∨ p ∈ l := by
  induction l with
  | nil => simp [insertPair]
  | cons q rest ih =>
    unfold insertPair
    split
    · simp
    · simp only [List.mem_cons, ih]
      tauto

theorem insertPair_sorted {stage energy : Nat} {l : List (Nat × Nat)} (sorted : l.Pairwise fun a b => a.1 < b.1)
    (fresh : stage ∉ l.map (·.1)) : (insertPair stage energy l).Pairwise fun a b => a.1 < b.1 := by
  induction l with
  | nil => exact List.pairwise_singleton _ _
  | cons q rest ih =>
    obtain ⟨head, tail⟩ := List.pairwise_cons.1 sorted
    simp only [List.map_cons, List.mem_cons, not_or] at fresh
    unfold insertPair
    split
    case isTrue below =>
      refine List.pairwise_cons.2 ⟨fun b mem => ?_, sorted⟩
      rcases List.mem_cons.1 mem with rfl | mem
      · exact below
      · exact below.trans (head b mem)
    case isFalse beyond =>
      refine List.pairwise_cons.2 ⟨fun b mem => ?_, ih tail fresh.2⟩
      rcases insertPair_mem.1 mem with rfl | mem
      · show q.1 < stage
        omega
      · exact head b mem

theorem any_stage_iff (stage : Nat) (l : List (Nat × Nat)) : l.any (fun p => p.1 == stage) = true ↔ stage ∈ l.map (·.1) := by
  simp only [List.any_eq_true, List.mem_map, beq_iff_eq]

theorem addPair_of_listed {stage energy : Nat} {l : List (Nat × Nat)} (listed : stage ∈ l.map (·.1)) : addPair stage energy l = l :=
  if_pos ((any_stage_iff _ _).2 listed)

theorem addPair_of_fresh {stage energy : Nat} {l : List (Nat × Nat)} (fresh : stage ∉ l.map (·.1)) :
    addPair stage energy l = insertPair stage energy l := if_neg (mt (any_stage_iff _ _).1 fresh)

/-- What a notice does to an entry: energy, t_first, t_heat and HEATED; slice and LOST flag stand. -/
theorem addNotice_spec (finalStage : Option Nat) (now : LocalTime) (stage energy : Nat) (old : Entry) :
    let new := addNotice finalStage now stage energy old
    new.slice = old.slice ∧ new.lost = old.lost ∧ new.tFirst = some (old.tFirst.getD now) ∧
    (∀ p ∈ old.energies, p ∈ new.energies) ∧ (∀ p ∈ new.energies, p ∈ old.energies ∨ p = (stage, energy)) ∧
    (stage ∉ old.energies.map (·.1) → (stage, energy) ∈ new.energies) ∧
    (stage ∈ old.energies.map (·.1) → new.energies = old.energies) ∧
    (old.energies.Pairwise (fun a b => a.1 < b.1) → new.energies.Pairwise (fun a b => a.1 < b.1)) ∧
    (finalStage = some stage → new.heated = true ∧ (old.heated = false → new.tHeat = some now) ∧
      (old.heated = true → new.tHeat = old.tHeat)) ∧
    (finalStage ≠ some stage → new.heated = old.heated ∧ new.tHeat = old.tHeat) := by
  intro new
  have energies : new.energies = addPair stage energy old.energies := by unfold new addNotice; dsimp only; split <;> rfl
  have first : new.tFirst = some (old.tFirst.getD now) := by unfold new addNotice; dsimp only; split <;> rfl
  have lost : new.lost = old.lost := by unfold new addNotice; dsimp only; split <;> rfl
  refine ⟨addNotice_slice .., lost, first, ?_, ?_, ?_, ?_, ?_, fun final => ?_, fun other => ?_⟩
  · intro p mem
    rw [energies, addPair]
    split
    · exact mem
    · exact insertPair_mem.2 (.inr mem)
  · intro p mem
    rw [energies, addPair] at mem
    split at mem
    · exact .inl mem
    · exact (insertPair_mem.1 mem).symm
  · intro fresh
    rw [energies, addPair_of_fresh fresh]
    exact insertPair_mem.2 (.inl rfl)
  · intro listed
    rw [energies, addPair_of_listed listed]
  · intro sorted
    rw [energies]
    by_cases listed : stage ∈ old.energies.map (·.1)
    · rwa [addPair_of_listed listed]
    · rw [addPair_of_fresh listed]
      exact insertPair_sorted sorted listed
  · cases heated : old.heated <;> simp [new, addNotice, final, heated]
  · simp [new, addNotice, other]

/-! ## The entry of a notice -/

theorem findEntryOf_withEntry (now : LocalTime) (stage : Nat) (q : Quench) :
    findEntryOf n.slice (q.withEntry n now stage).entries =
      some (addNotice q.finalStage now stage n.energy ((findEntryOf n.slice q.entries).getD (freshEntry n.slice))) ∧
    ∀ i, i ≠ n.slice → findEntryOf i (q.withEntry n now stage).entries = findEntryOf i q.entries := by
  have keeps := addNotice_slice q.finalStage now stage n.energy
  unfold Quench.withEntry
  cases found : findEntryOf n.slice q.entries with
  | some e =>
    simp only [reduceCtorEq, if_false]
    refine ⟨?_, fun i other => ?_⟩
    · rw [findEntryOf_changeEntry _ _ keeps, if_pos rfl, found]; rfl
    · rw [findEntryOf_changeEntry _ _ keeps, if_neg other]
  | none =>
    have made (i : Nat) : findEntryOf i (q.create n.slice).entries = if i = n.slice then some (freshEntry n.slice) else findEntryOf i q.entries :=
      findEntryOf_insertEntry i (x := freshEntry n.slice) found
    simp only [if_true]
    refine ⟨?_, fun i other => ?_⟩
    · rw [findEntryOf_changeEntry _ _ keeps, if_pos rfl, made, if_pos rfl]; rfl
    · rw [findEntryOf_changeEntry _ _ keeps, if_neg other, made, if_neg other]

theorem changeEntry_sorted {k : Nat} {f : Entry → Entry} (same : ∀ e, (f e).slice = e.slice) {l : List Entry}
    (sorted : l.Pairwise fun a b => a.slice < b.slice) : (changeEntry k f l).Pairwise fun a b => a.slice < b.slice := by
  have slices (e : Entry) : (if e.slice = k then f e else e).slice = e.slice := by split <;> simp [same]
  simpa [changeEntry, List.pairwise_map, slices] using sorted

theorem withEntry_sorted (now : LocalTime) (stage : Nat) {q : Quench} (sorted : q.entries.Pairwise fun a b => a.slice < b.slice) :
    (q.withEntry n now stage).entries.Pairwise fun a b => a.slice < b.slice := by
  refine changeEntry_sorted (addNotice_slice _ now stage n.energy) ?_
  split
  · exact insertEntry_sorted sorted (findEntryOf_none.1 ‹_›)
  · exact sorted

/-! ## Judged at once in a runout -/

theorem resultOf_unquenched_good (s : State) (e : Entry) : (resultOf s e true).verdict.good = false := by
  simp [resultOf, Verdict.good]

/-- In a runout the entry of a slice is judged at once, rejected as UNQUENCHED. -/
theorem writes_judgeInRunout {e : Entry} {i : Nat} (runs : s.quench.runout = true) (found : findEntryOf i s.quench.entries = some e)
    (scanning : s.cycle.state = .scanning) (mild : Mild s) :
    Writes resultBlocks s (judgeInRunout i s) ∧ (judgeInRunout i s).quench = { s.quench with
      entries := removeEntry i s.quench.entries, judged := some i, nJudged := s.quench.nJudged + 1
      nRejected := s.quench.nRejected + 1, soak := some (s.settings.soakTime * 20000) } := by
  obtain ⟨-, rfl⟩ := findEntryOf_some found
  let v := s.setQuench { s.quench with entries := removeEntry e.slice s.quench.entries, judged := some e.slice }
  have run : judgeInRunout e.slice s = deliver true (resultOf s e true) v := by
    rw [judgeInRunout, if_pos runs, found]
    rfl
  obtain ⟨writes, quench⟩ := writes_deliver (t := v) true (resultOf s e true) mild
  rw [run]
  refine ⟨writes_trans (List.Subset.refl _) (writes_mono (by decide) (writes_setQuench _ s)) writes, quench.trans ?_⟩
  rw [delivered, resultOf_unquenched_good, if_pos (show v.cycle.state = .scanning from scanning)]
  rfl

/-- A rejected result leaves SLICE_REJECT latched, unless it is masked. -/
theorem deliver_sliceReject {fromEntry : Bool} {r : SliceResult} (rejected : r.verdict.good = false) (mask : t.isMasked .sliceReject = false)
    (mild : Mild t) : (deliver fromEntry r t).isLatched .sliceReject = true := by
  have handed := writes_handReport_of_mild (sliceResultFrame t r) mild.2
  have mask' : (handReport (sliceResultFrame t r) t).isMasked .sliceReject = false :=
    (isMasked_of_settings (handed.2 .settings (by decide)) _).trans mask
  unfold deliver
  rw [restartSoak_eq, countJudged_eq, rejected]
  exact reportPlain_latched mask'

/-- What an UNQUENCHED result judged at once latches and hands. -/
theorem judgeInRunout_told {e : Entry} {i : Nat} (runs : s.quench.runout = true) (found : findEntryOf i s.quench.entries = some e)
    (mild : Mild s) :
    (s.isMasked .sliceReject = false → (judgeInRunout i s).isLatched .sliceReject = true) ∧
    (s.onLine = true → s.mayBegin = false → s.sched.reportOccupancy < Config.reportCapacity →
      sliceResultFrame s (resultOf s e true) ∈ (judgeInRunout i s).sched.reportQ) := by
  have run : judgeInRunout i s = judgeEntry true e s := by rw [judgeInRunout, if_pos runs, found]
  rw [run]
  refine ⟨fun mask => deliver_sliceReject (resultOf_unquenched_good s e) mask mild, fun on still room => ?_⟩
  obtain ⟨a, told, handed⟩ := told_deliver
    (t := s.setQuench { s.quench with entries := removeEntry e.slice s.quench.entries, judged := some e.slice }) true (resultOf s e true) mild still
  obtain ⟨b, rfl, -⟩ := handed on room
  rw [judgeEntry, told_reportQ told]
  exact List.mem_append_right _ List.mem_cons_self

/-! ## O40: notices applied -/

/-- Settles O40. -/
theorem sliceNoticeApplied : Obligations.SliceNoticeApplied := by
  intro ticks f s arrives n role taken number whole above inside room
  let source : NoticeSource := ⟨f.source, ⟨f.source, .sliceNotice⟩⟩
  let r := receipt f.source (s.heard ticks)
  have received : Receipted ticks s r := received_receipt ticks f.source s
  have quench : r.quench = (advance ticks s).quench := received_quench received
  let w := setLastNotice f.source n.slice r
  have link : linked source n r = w := by
    rw [linked, checkChain_of_whole]
    exact whole.imp_right fun e => by rw [quench]; exact e
  have recorded : w.quench = { (advance ticks s).quench with lastNotice := s.quench.lastNotice.set f.source.toNat (some n.slice) } := by
    unfold w
    rw [setLastNotice, quench]
    rfl
  have takes : (linked source n r).cycle.state = .starting ∨ (linked source n r).cycle.state = .scanning := by
    rw [link]
    exact received_taken (r := r) received taken
  have cycle : r.inCycle = true := received.inCycle.trans ((inCycle_iff s).2 (taken.imp_right .inl))
  have applied : takeNotice source n r = judgeInRunout n.slice (noticeAdded n w) := by
    rw [takeNotice_of_taken ((received_role received).trans role) cycle (number.trans received.number.symm) takes, link]
    refine applyNotice_of_room ((above_eq_true _ _).2 ?_) ?_ ?_
    · rw [recorded]; exact above
    · exact Nat.lt_of_lt_of_eq inside (received_sliceCount (r := r) received).symm
    · rw [recorded]; exact room
  have run : exec (.sliceNotice ticks f) s = .next (settled s (judgeInRunout n.slice (noticeAdded n w))) := by
    rw [← applied]
    exact exec_sliceNotice ticks arrives
  let g := stageTaken n.stage w
  obtain ⟨low, high, same⟩ := stageTaken_range f.words w
  obtain ⟨added, withEntry⟩ := writes_noticeAdded n w
  have clock : w.clock = (s.heard ticks).clock := received_clock (r := r) received
  let old := (findEntryOf n.slice s.quench.entries).getD (freshEntry n.slice)
  obtain ⟨own, others⟩ := findEntryOf_withEntry (n := n) w.clock.time g w.quench
  rw [← withEntry] at own others
  have stands := withEntry.trans (withEntry_stands (n := n) w.clock.time g w.quench)
  simp only [recorded] at own others
  refine ⟨fun rests => ?_, fun runs scanning sorted reject overflow => ?_⟩
  · have still : judgeInRunout n.slice (noticeAdded n w) = noticeAdded n w :=
      judgeInRunout_of_not _ (by rw [stands, recorded]; exact rests)
    rw [still] at run
    refine ⟨_, g, run, low, high, same, ?_⟩
    rw [settled_quench, settled_fault]
    obtain ⟨slice, lost, first, keep, only, fresh, listed, order, final, other⟩ :=
      addNotice_spec s.quench.finalStage w.clock.time g n.energy old
    rw [clock] at own slice lost first keep only fresh listed order final other
    have oldSlice : old.slice = n.slice := by
      unfold old
      cases found : findEntryOf n.slice s.quench.entries with
      | none => rfl
      | some e => exact (findEntryOf_some found).2
    refine ⟨?_, ?_, others, ⟨_, own, slice.trans oldSlice, lost, first, keep, only, fresh, listed, order, final, other⟩, ?_, ?_, ?_, ?_, ?_⟩
    · rw [stands, recorded]
    · rw [stands, recorded]; rfl
    · rw [stands, recorded]; rfl
    · rw [stands, recorded]; rfl
    · rw [stands, recorded]; rfl
    · rw [stands, recorded]; rfl
    · exact ((added.2 .fault (by decide)).trans (received_fault (r := r) received) : (noticeAdded n w).fault = s.fault)
  · let a := noticeAdded n w
    have aQuench := stands
    have settings : a.settings = s.settings := (added.2 .settings (by decide)).trans (received_settings (r := r) received)
    have aCycle : a.cycle = r.cycle := added.2 .cycle (by decide)
    have aScanning : a.cycle.state = .scanning := by
      rw [aCycle]
      exact (received_same received (by simp [scanning])).trans scanning
    have mild : Mild a := mild_of_settings settings ⟨reject, overflow⟩
    have aRuns : a.quench.runout = true := by rw [aQuench, recorded]; exact runs
    obtain ⟨writes, judged⟩ := writes_judgeInRunout aRuns own aScanning mild
    obtain ⟨latches, hands⟩ := judgeInRunout_told aRuns own mild
    have order : a.quench.entries.Pairwise fun a b => a.slice < b.slice := by
      unfold a
      rw [withEntry]
      exact withEntry_sorted _ _ (by rw [recorded]; exact sorted)
    refine ⟨_, run, ?_, ?_, fun i other => ?_, ?_, ?_, ?_, ?_, ?_, ?_, ?_, ?_, ?_, fun mask => ?_, fun room => ?_⟩
    all_goals try rw [settled_quench, judged]
    · exact findEntryOf_removeEntry_self order
    · exact (findEntryOf_removeEntry_ne other _).trans (others i other)
    · rw [aQuench, recorded]
    · rw [aQuench, recorded]; rfl
    · rw [aQuench, recorded]; rfl
    · rw [aQuench, recorded]; rfl
    · rw [aQuench, recorded]; rfl
    · rw [aQuench, recorded]; rfl
    · exact aRuns
    · rw [settings]
    · rw [settled_cycle, writes.2 .cycle (by decide)]
      exact aScanning
    · rw [settled_isLatched]
      exact latches ((isMasked_of_settings settings _).trans mask)
    · have sched : a.sched = (advance ticks s).sched := (added.2 .sched (by decide)).trans (received_sched (r := r) received)
      have line : a.line = r.line := added.2 .line (by decide)
      have onLine : a.onLine = true := onLine_of_inCycle ((inCycle_iff _).2 (.inr (.inl aScanning)))
      have onLine' : r.onLine = true := onLine_of_inCycle cycle
      have still : a.mayBegin = false := (mayBegin_of_same (onLine.trans onLine'.symm) line).trans (received_mayBegin received)
      have handed := hands onLine still (by rw [sched]; exact room)
      refine ⟨resultOf a _ true, (findEntryOf_some own).2, rfl, ?_⟩
      rw [(settled_queues s).2.1]
      have loader : a.loader = s.loader := (added.2 .loader (by decide)).trans (received_loader (r := r) received)
      rw [← sliceResultFrame_congr loader (by rw [aCycle]; exact received.number)]
      exact handed

end Sys2Proof.Machine
end

section
/-! A broken chain link: the missed slice marked LOST (O42). -/

namespace Sys2Proof.Machine

variable {s t u : State} {n : NoticeFields} {from_ : NoticeSource}

/-! ## What a slice inferred lost changes in the list -/

theorem withLost_of_not {count l : Nat} {q : Quench} (not : ¬ (q.above l = true ∧ l < count)) : q.withLost count l = q :=
  if_neg (by simpa using not)

theorem withLost_of_some {count l : Nat} {q : Quench} {e : Entry} (above : q.above l = true) (inside : l < count)
    (found : findEntryOf l q.entries = some e) :
    q.withLost count l = { q with entries := changeEntry l (fun e => { e with lost := true }) q.entries } := by
  rw [Quench.withLost, if_pos (by simp [above, inside]), found]

theorem withLost_of_none {count l : Nat} {q : Quench} (above : q.above l = true) (inside : l < count)
    (absent : findEntryOf l q.entries = none) :
    q.withLost count l = if q.entries.length < 48 then
      { q.create l with entries := changeEntry l (fun e => { e with lost := true }) (q.create l).entries } else q := by
  rw [Quench.withLost, if_pos (by simp [above, inside]), absent]

theorem create_find {l : Nat} {q : Quench} (absent : findEntryOf l q.entries = none) (i : Nat) :
    findEntryOf i (q.create l).entries = if i = l then some (freshEntry l) else findEntryOf i q.entries :=
  findEntryOf_insertEntry i (x := freshEntry l) absent

theorem create_length (l : Nat) (q : Quench) : (q.create l).entries.length = q.entries.length + 1 := insertEntry_length _ _

theorem findEntryOf_flagged (i l : Nat) (es : List Entry) :
    findEntryOf i (changeEntry l (fun e => { e with lost := true }) es) =
      if i = l then (findEntryOf i es).map (fun e => { e with lost := true }) else findEntryOf i es :=
  findEntryOf_changeEntry (f := fun e => { e with lost := true }) i l (fun _ => rfl) es

theorem withLost_others (count l : Nat) (q : Quench) {i : Nat} (other : i ≠ l) :
    findEntryOf i (q.withLost count l).entries = findEntryOf i q.entries := by
  unfold Quench.withLost
  split
  · split
    · exact (findEntryOf_flagged ..).trans (if_neg other)
    · split
      · exact (findEntryOf_flagged ..).trans ((if_neg other).trans ((create_find ‹_› i).trans (if_neg other)))
      · rfl
  · rfl

theorem withLost_length (count l : Nat) (q : Quench) : (q.withLost count l).entries.length ≤ q.entries.length + 1 := by
  unfold Quench.withLost
  split
  · split
    · rw [changeEntry_length]
      exact Nat.le_succ _
    · split
      · rw [changeEntry_length, create_length]
      · exact Nat.le_succ _
  · exact Nat.le_succ _

/-! ## The notice's own slice -/

/-- The engine with a notice taken outside a runout: late, beyond what the list can hold, or added to the entry of its slice. -/
def Quench.withNotice (count : Nat) (n : NoticeFields) (now : LocalTime) (stage : Nat) (q : Quench) : Quench :=
  if q.above n.slice = false then { q with nLate := q.nLate + 1 }
  else if count ≤ n.slice ∨ (48 ≤ q.entries.length ∧ findEntryOf n.slice q.entries = none) then q
  else q.withEntry n now stage

theorem applyNotice_quench (rests : s.quench.runout = false) (mild : s.isFatal .trailFull = false) (overflow : s.isFatal .txOverflow = false) :
    (applyNotice from_ n s).quench = s.quench.withNotice s.tracker.sliceCount n s.clock.time (stageTaken n.stage s) := by
  unfold Quench.withNotice
  by_cases late : s.quench.above n.slice = false
  · rw [applyNotice_of_late late, if_pos late]
    rfl
  · have above : s.quench.above n.slice = true := Bool.not_eq_false _ ▸ late
    rw [if_neg late]
    split
    case isTrue full =>
      rw [applyNotice_of_full above full]
      exact (writes_report_of_mild (r := ⟨.trailFull, some from_.sender, some from_.captured⟩) mild overflow).2 .quench (by decide)
    case isFalse fits =>
      have inside : n.slice < s.tracker.sliceCount := Nat.not_le.1 fun beyond => fits (.inl beyond)
      have room : s.quench.entries.length < 48 ∨ (findEntryOf n.slice s.quench.entries).isSome = true := by
        by_cases room : s.quench.entries.length < 48
        · exact .inl room
        · exact .inr (Option.isSome_iff_ne_none.2 fun absent => fits (.inr ⟨Nat.not_lt.1 room, absent⟩))
      have added := (writes_noticeAdded n s).2
      rw [applyNotice_of_room above inside room, judgeInRunout_of_not _ (by rw [added, withEntry_stands]; exact rests)]
      exact added

theorem withNotice_others (count : Nat) (now : LocalTime) (stage : Nat) (q : Quench) {i : Nat} (other : i ≠ n.slice) :
    findEntryOf i (q.withNotice count n now stage).entries = findEntryOf i q.entries := by
  unfold Quench.withNotice
  split
  · rfl
  · split
    · rfl
    · exact (findEntryOf_withEntry now stage q).2 i other

theorem withNotice_of_room {count : Nat} (now : LocalTime) (stage : Nat) {q : Quench} (above : q.above n.slice = true) (inside : n.slice < count)
    (room : q.entries.length < 48 ∨ (findEntryOf n.slice q.entries).isSome = true) :
    q.withNotice count n now stage = q.withEntry n now stage := by
  rw [Quench.withNotice, if_neg (by simp [above]), if_neg]
  rintro (beyond | ⟨full, absent⟩)
  · omega
  · rcases room with room | found
    · omega
    · simp [absent] at found

/-- A full list makes no entry. -/
theorem withNotice_nCreated_of_full (count : Nat) (now : LocalTime) (stage : Nat) {q : Quench} (full : 48 ≤ q.entries.length) :
    (q.withNotice count n now stage).nCreated = q.nCreated := by
  unfold Quench.withNotice
  split
  · rfl
  · split
    · rfl
    · rename_i fits
      have there : findEntryOf n.slice q.entries ≠ none := fun absent => fits (.inr ⟨full, absent⟩)
      rw [withEntry_stands, if_neg there]
      rfl

/-! ## A broken link -/

theorem setLastNotice_quench (sender : StationNo) (slice : Nat) (t : State) :
    (setLastNotice sender slice t).quench = { t.quench with lastNotice := t.quench.lastNotice.set sender.toNat (some slice) } := rfl

/-- Nothing that a broken link or its notice can report is fatal. -/
structure Steady (s : State) : Prop where
  noticeLost : s.isFatal .noticeLost = false
  txOverflow : s.isFatal .txOverflow = false
  trailFull : s.isFatal .trailFull = false

theorem steady_of_settings (same : t.settings = s.settings) (h : Steady s) : Steady t :=
  ⟨(isFatal_of_settings same _).trans h.noticeLost, (isFatal_of_settings same _).trans h.txOverflow,
    (isFatal_of_settings same _).trans h.trailFull⟩

theorem writes_linkLost (from_ : NoticeSource) (h : Steady s) : Writes [.sched, .line, .fault] s (linkLost from_ s) :=
  writes_report_of_mild h.noticeLost h.txOverflow

/-- The engine after a broken link outside a runout: the missed slice marked, the record set. -/
def Quench.relinked (count l : Nat) (sender : StationNo) (slice : Nat) (q : Quench) : Quench :=
  { q.withLost count l with lastNotice := q.lastNotice.set sender.toNat (some slice) }

theorem writes_linked {l : Nat} (previous : n.previous = some l) (broken : s.quench.lastNoticeOf from_.sender ≠ some l)
    (cycle : s.inCycle = true) (rests : s.quench.runout = false) (steady : Steady s) :
    Writes [.quench, .sched, .line, .fault] s (linked from_ n s) ∧
      (linked from_ n s).quench = s.quench.relinked s.tracker.sliceCount l from_.sender n.slice := by
  have lost := writes_linkLost from_ steady
  have quench : (linkLost from_ s).quench = s.quench := lost.2 .quench (by decide)
  have sameCycle : (linkLost from_ s).cycle = s.cycle := lost.2 .cycle (by decide)
  have tracker : (linkLost from_ s).tracker = s.tracker := lost.2 .tracker (by decide)
  have steady' := steady_of_settings (lost.2 .settings (by decide)) steady
  obtain ⟨marked, withLost⟩ := writes_markLost (s := linkLost from_ s) from_ l (by rw [quench]; exact rests) (.inl steady'.trailFull) steady'.txOverflow
  rw [linked, checkChain_of_broken previous broken, if_pos (by rw [State.inCycle, sameCycle]; exact cycle)]
  refine ⟨writes_trans (ws := [.quench]) (by decide) (writes_trans (by decide) (writes_mono (by decide) lost) marked) (writes_setQuench _ _), ?_⟩
  rw [setLastNotice_quench, withLost, quench, tracker, Quench.relinked]
  rw [show (s.quench.withLost s.tracker.sliceCount l).lastNotice = s.quench.lastNotice by rw [withLost_stands]]

/-- A broken link outside a runout, nothing being fatal: the engine once the notice has gone on to its own slice, or is late. -/
theorem takeNotice_of_broken {l : Nat} (role : s.role = some .quench) (cycle : s.inCycle = true) (number : n.cycle = s.cycle.number)
    (previous : n.previous = some l) (broken : s.quench.lastNoticeOf from_.sender ≠ some l) (rests : s.quench.runout = false)
    (steady : Steady s) :
    let q := s.quench.relinked s.tracker.sliceCount l from_.sender n.slice
    (s.cycle.state ≠ .done → ∃ g, (takeNotice from_ n s).quench = q.withNotice s.tracker.sliceCount n s.clock.time g) ∧
    (s.cycle.state = .done → (takeNotice from_ n s).quench = { q with nLate := q.nLate + 1 }) := by
  intro q
  obtain ⟨wrote, quench⟩ := writes_linked previous broken cycle rests steady
  have sameCycle : (linked from_ n s).cycle = s.cycle := wrote.2 .cycle (by decide)
  have steady' := steady_of_settings (wrote.2 .settings (by decide)) steady
  refine ⟨fun going => ⟨stageTaken n.stage (linked from_ n s), ?_⟩, fun done => ?_⟩
  · have takes : (linked from_ n s).cycle.state = .starting ∨ (linked from_ n s).cycle.state = .scanning := by
      rw [sameCycle]
      have states := (inCycle_iff s).1 cycle
      tauto
    have rests' : (linked from_ n s).quench.runout = false := by
      rw [quench, Quench.relinked, withLost_stands]
      exact rests
    rw [takeNotice_of_taken role cycle number takes, applyNotice_quench rests' steady'.trailFull steady'.txOverflow, quench,
      wrote.2 .tracker (by decide), wrote.2 .clock (by decide)]
  · rw [takeNotice_of_done role cycle number (by rw [sameCycle]; exact done), countLate]
    show { (linked from_ n s).quench with nLate := (linked from_ n s).quench.nLate + 1 } = _
    rw [quench]

/-- A full list and no entry of the missed slice: TRAIL_FULL is latched, unless it is masked. -/
theorem takeNotice_trailFull {l : Nat} (role : s.role = some .quench) (cycle : s.inCycle = true) (number : n.cycle = s.cycle.number)
    (previous : n.previous = some l) (broken : s.quench.lastNoticeOf from_.sender ≠ some l) (steady : Steady s)
    (above : s.quench.above l = true) (inside : l < s.tracker.sliceCount) (absent : findEntryOf l s.quench.entries = none)
    (full : 48 ≤ s.quench.entries.length) (mask : s.isMasked .trailFull = false) :
    (takeNotice from_ n s).isLatched .trailFull = true := by
  have keeps := noticeKeeps_latched .trailFull
  have lost := writes_linkLost from_ steady
  have quench : (linkLost from_ s).quench = s.quench := lost.2 .quench (by decide)
  have sameCycle : (linkLost from_ s).cycle = s.cycle := lost.2 .cycle (by decide)
  have tracker : (linkLost from_ s).tracker = s.tracker := lost.2 .tracker (by decide)
  have marks : markLost from_ l (linkLost from_ s) = reportTrailFull from_ (linkLost from_ s) := by
    have full' : ¬ s.quench.entries.length < Config.listCapacity := Nat.not_lt.2 full
    unfold markLost
    rw [quench, tracker, if_pos (by simp [above, inside]), absent]
    exact if_neg full'
  have recorded : (linked from_ n s).isLatched .trailFull = true := by
    rw [linked, checkChain_of_broken previous broken, if_pos (by rw [State.inCycle, sameCycle]; exact cycle), marks]
    exact report_latched (r := ⟨.trailFull, _, _⟩) ((isMasked_of_settings (lost.2 .settings (by decide)) _).trans mask)
  rw [takeNotice_of_meant role cycle number]
  split
  · exact keeps_applyNotice keeps from_ n recorded
  · split
    · exact recorded
    · exact recorded

/-! ## A broken link in a runout -/

/-- The last entry judged leaves an empty list. -/
theorem removeEntry_of_single {k : Nat} {es : List Entry} {e : Entry} (found : findEntryOf k es = some e) (single : es.length = 1) :
    removeEntry k es = [] := by
  obtain ⟨mem, rfl⟩ := findEntryOf_some found
  have shorter := removeEntry_length mem
  exact List.length_eq_zero_iff.1 (by omega)

theorem withEntry_length_of_empty (now : LocalTime) (stage : Nat) {q : Quench} (empty : q.entries = []) :
    (q.withEntry n now stage).entries.length = 1 := by
  have absent : findEntryOf n.slice q.entries = none := by rw [empty]; rfl
  simp only [Quench.withEntry, absent, if_true, changeEntry_length, create_length]
  rw [empty]
  rfl

/-- What a runout makes of a slice that is entered and judged at once. -/
def Quench.runOut (i soak : Nat) (q : Quench) : Quench :=
  { q with
    entries := [], judged := some i, nCreated := q.nCreated + 1, nJudged := q.nJudged + 1, nRejected := q.nRejected + 1
    soak := some (soak * 20000) }

theorem writes_markLost_of_runout {l : Nat} (runs : s.quench.runout = true) (scanning : s.cycle.state = .scanning) (mild : Mild s)
    (empty : s.quench.entries = []) (above : s.quench.above l = true) (inside : l < s.tracker.sliceCount) :
    Writes resultBlocks s (markLost from_ l s) ∧ (markLost from_ l s).quench = s.quench.runOut l s.settings.soakTime := by
  have absent : findEntryOf l s.quench.entries = none := by rw [empty]; rfl
  let q : Quench := { s.quench.create l with
    entries := changeEntry l (fun e => { e with lost := true }) (s.quench.create l).entries }
  have found : findEntryOf l q.entries = some { freshEntry l with lost := true } := by
    unfold q
    rw [findEntryOf_flagged, if_pos rfl, create_find absent, if_pos rfl]
    rfl
  have single : q.entries.length = 1 := by
    unfold q
    rw [changeEntry_length, create_length, empty]
    rfl
  have room : s.quench.entries.length < Config.listCapacity := by rw [empty]; exact Nat.zero_lt_succ _
  have made : markLost from_ l s = judgeInRunout l (s.setQuench q) := by
    unfold markLost
    rw [if_pos (by simp [above, inside]), absent]
    exact if_pos room
  obtain ⟨writes, quench⟩ := writes_judgeInRunout (s := s.setQuench q) runs found scanning mild
  rw [made]
  refine ⟨writes_trans (List.Subset.refl _) (writes_mono (by decide) (writes_setQuench _ s)) writes, quench.trans ?_⟩
  rw [State.setQuench_quench, removeEntry_of_single found single]
  rfl

theorem applyNotice_of_runout (runs : s.quench.runout = true) (scanning : s.cycle.state = .scanning) (mild : Mild s)
    (empty : s.quench.entries = []) (above : s.quench.above n.slice = true) (inside : n.slice < s.tracker.sliceCount) :
    (applyNotice from_ n s).quench = s.quench.runOut n.slice s.settings.soakTime := by
  have absent : findEntryOf n.slice s.quench.entries = none := by rw [empty]; rfl
  obtain ⟨added, withEntry⟩ := writes_noticeAdded n s
  have found := (findEntryOf_withEntry (n := n) s.clock.time (stageTaken n.stage s) s.quench).1
  have single := withEntry_length_of_empty (n := n) s.clock.time (stageTaken n.stage s) empty
  rw [← withEntry] at found single
  have stands := withEntry.trans (withEntry_stands (n := n) s.clock.time (stageTaken n.stage s) s.quench)
  have settings : (noticeAdded n s).settings = s.settings := added.2 .settings (by decide)
  have cycle : (noticeAdded n s).cycle = s.cycle := added.2 .cycle (by decide)
  have judged := (writes_judgeInRunout (by rw [stands]; exact runs) found (by rw [cycle]; exact scanning) (mild_of_settings settings mild)).2
  rw [applyNotice_of_room above inside (.inl (by rw [empty]; exact Nat.zero_lt_succ _)), judged, removeEntry_of_single found single, settings, stands,
    if_pos absent]
  rfl

/-- A broken link in a runout with the list empty: the missed slice is judged at once; the notice's own slice likewise, or it is
late. -/
theorem takeNotice_of_runout {l : Nat} (role : s.role = some .quench) (scanning : s.cycle.state = .scanning) (number : n.cycle = s.cycle.number)
    (previous : n.previous = some l) (broken : s.quench.lastNoticeOf from_.sender ≠ some l) (runs : s.quench.runout = true)
    (steady : Steady s) (reject : s.isFatal .sliceReject = false) (empty : s.quench.entries = []) (aboveL : s.quench.above l = true)
    (insideL : l < s.tracker.sliceCount) (insideN : n.slice < s.tracker.sliceCount) :
    let q : Quench := { s.quench.runOut l s.settings.soakTime with lastNotice := s.quench.lastNotice.set from_.sender.toNat (some n.slice) }
    (takeNotice from_ n s).quench = if l < n.slice then q.runOut n.slice s.settings.soakTime else { q with nLate := q.nLate + 1 } := by
  intro q
  have lost := writes_linkLost from_ steady
  have quench : (linkLost from_ s).quench = s.quench := lost.2 .quench (by decide)
  have sameCycle : (linkLost from_ s).cycle = s.cycle := lost.2 .cycle (by decide)
  have tracker : (linkLost from_ s).tracker = s.tracker := lost.2 .tracker (by decide)
  have settings : (linkLost from_ s).settings = s.settings := lost.2 .settings (by decide)
  have mild : Mild s := ⟨reject, steady.txOverflow⟩
  have cycle : s.inCycle = true := (inCycle_iff s).2 (.inr (.inl scanning))
  obtain ⟨marked, run⟩ := writes_markLost_of_runout (s := linkLost from_ s) (from_ := from_) (by rw [quench]; exact runs)
    (by rw [sameCycle]; exact scanning) (mild_of_settings settings mild) (by rw [quench]; exact empty) (by rw [quench]; exact aboveL)
    (by rw [tracker]; exact insideL)
  have link : linked from_ n s = setLastNotice from_.sender n.slice (markLost from_ l (linkLost from_ s)) := by
    rw [linked, checkChain_of_broken previous broken, if_pos (by rw [State.inCycle, sameCycle]; exact cycle)]
  have w : (linked from_ n s).quench = q := by
    rw [link]
    rw [setLastNotice_quench, run, quench, settings]
    rfl
  have both := writes_trans (bs := resultBlocks) (List.Subset.refl _) (writes_mono (by decide) lost) marked
  have wCycle : (linked from_ n s).cycle = s.cycle := by rw [link]; exact both.2 .cycle (by decide)
  have wSettings : (linked from_ n s).settings = s.settings := by rw [link]; exact both.2 .settings (by decide)
  have wTracker : (linked from_ n s).tracker = s.tracker := by rw [link]; exact both.2 .tracker (by decide)
  have wScanning : (linked from_ n s).cycle.state = .scanning := by rw [wCycle]; exact scanning
  rw [takeNotice_of_taken role cycle number (.inr wScanning)]
  split
  case isTrue below =>
    have above : (linked from_ n s).quench.above n.slice = true :=
      (above_eq_true _ _).2 fun j e => by rw [w] at e; cases e; exact below
    rw [applyNotice_of_runout (by rw [w]; exact runs) wScanning (mild_of_settings wSettings mild) (by rw [w]; rfl) above (by rw [wTracker]; exact insideN),
      w, wSettings]
  case isFalse beyond =>
    have late : (linked from_ n s).quench.above n.slice = false :=
      (above_eq_false _ _).2 ⟨l, by rw [w]; rfl, Nat.not_lt.1 beyond⟩
    rw [applyNotice_of_late late, countLate, State.setQuench_quench, w]

/-- Settles O42. -/
theorem missedNoticeIsMarkedLost : Obligations.MissedNoticeIsMarkedLost := by
  intro ticks f s l arrives n own above steady role cycle number previous broken
  let source : NoticeSource := ⟨f.source, ⟨f.source, .sliceNotice⟩⟩
  let r := receipt f.source (s.heard ticks)
  have received : Receipted ticks s r := received_receipt ticks f.source s
  have quench : r.quench = (advance ticks s).quench := received_quench received
  have run : exec (.sliceNotice ticks f) s = .next (settled s (takeNotice source n r)) := exec_sliceNotice ticks arrives
  have role' : r.role = some .quench := (received_role received).trans role
  have cycle' : r.inCycle = true := received.inCycle.trans cycle
  have number' : n.cycle = r.cycle.number := number.trans received.number.symm
  have broken' : r.quench.lastNoticeOf source.sender ≠ some l := by rw [quench]; exact broken
  have count : r.tracker.sliceCount = s.tracker.sliceCount := received_sliceCount received
  have steady' (h : steady) : Steady r := by
    obtain ⟨noticeLost, txOverflow, trailFull⟩ := h
    exact steady_of_settings (received_settings received) ⟨noticeLost, txOverflow, trailFull⟩
  have done_iff : r.cycle.state = .done ↔ s.cycle.state = .done := by
    rcases received.state with e | ⟨starting, scanning⟩
    · rw [e]
    · simp [starting, scanning]
  have above_iff (i : Nat) : r.quench.above i = true ↔ above i := by rw [quench]; exact above_eq_true _ _
  have entries : r.quench.entries = s.quench.entries := by rw [quench]; rfl
  let q := r.quench.relinked r.tracker.sliceCount l f.source n.slice
  have qEntries : q.entries = (r.quench.withLost r.tracker.sliceCount l).entries := rfl
  have qAbove (i : Nat) : q.above i = r.quench.above i := by
    have judged : q.judged = r.quench.judged := by
      show (r.quench.withLost r.tracker.sliceCount l).judged = _
      rw [withLost_stands]
    simp only [Quench.above, judged]
  have qLate : q.nLate = s.quench.nLate := by
    show (r.quench.withLost r.tracker.sliceCount l).nLate = _
    rw [withLost_stands, quench]
    rfl
  have outcome (h : steady) (rests : s.quench.runout = false) :
      (s.cycle.state ≠ .done → ∃ g, (takeNotice source n r).quench = q.withNotice r.tracker.sliceCount n r.clock.time g) ∧
      (s.cycle.state = .done → (takeNotice source n r).quench = { q with nLate := q.nLate + 1 }) := by
    rw [← done_iff, Ne, ← done_iff]
    exact takeNotice_of_broken role' cycle' number' previous broken' (by rw [quench]; exact rests) (steady' h)
  have others (h : steady) (rests : s.quench.runout = false) {i : Nat} (other : i ≠ n.slice) :
      findEntryOf i (takeNotice source n r).quench.entries = findEntryOf i q.entries := by
    by_cases done : s.cycle.state = .done
    · rw [(outcome h rests).2 done]
    · obtain ⟨g, e⟩ := (outcome h rests).1 done
      rw [e]
      exact withNotice_others _ _ _ q other
  refine ⟨_, run, ?_, fun mask => ?_, fun h apart rests aboveL insideL => ⟨fun absent room => ?_, fun e found => ?_, fun absent full => ?_⟩,
    fun h rests not i other => ?_, fun h apart rests aboveN insideN room => ⟨fun going => ?_, fun done => ?_⟩,
    fun h apart runs scanning empty reject aboveL insideL aboveN insideN => ?_⟩
  · show (settled s (takeNotice source n r)).quench.lastNotice = _
    rw [settled_quench, takeNotice_lastNotice role' cycle' number', quench]
    rfl
  · rw [settled_isLatched]
    exact takeNotice_noticeLost role' cycle' number' previous broken' ((received_isMasked received _).trans mask)
  · rw [settled_quench, others h rests apart, qEntries,
      withLost_of_none ((above_iff l).2 aboveL) (by rw [count]; exact insideL) (by rw [entries]; exact absent), if_pos (by rw [entries]; exact room),
      findEntryOf_flagged, if_pos rfl, create_find (by rw [entries]; exact absent), if_pos rfl]
    rfl
  · rw [settled_quench, others h rests apart, qEntries,
      withLost_of_some ((above_iff l).2 aboveL) (by rw [count]; exact insideL) (by rw [entries]; exact found),
      findEntryOf_flagged, if_pos rfl, entries, found]
    rfl
  · have stays : r.quench.withLost r.tracker.sliceCount l = r.quench := by
      rw [withLost_of_none ((above_iff l).2 aboveL) (by rw [count]; exact insideL) (by rw [entries]; exact absent),
        if_neg (by rw [entries]; exact Nat.not_lt.2 full)]
    have qSame : q.entries = s.quench.entries := by rw [qEntries, stays, entries]
    have qCreated : q.nCreated = s.quench.nCreated := by
      show (r.quench.withLost r.tracker.sliceCount l).nCreated = _
      rw [stays, quench]
      rfl
    refine ⟨?_, ?_, fun mask => ?_, fun going aboveN insideN e found => ?_⟩
    · rw [settled_quench, others h rests apart, qSame]
      exact absent
    · rw [settled_quench]
      by_cases done : s.cycle.state = .done
      · rw [(outcome h rests).2 done]
        exact qCreated
      · obtain ⟨g, e⟩ := (outcome h rests).1 done
        rw [e, withNotice_nCreated_of_full _ _ _ (by rw [qSame]; exact full)]
        exact qCreated
    · rw [settled_isLatched]
      exact takeNotice_trailFull role' cycle' number' previous broken' (steady' h) ((above_iff l).2 aboveL) (by rw [count]; exact insideL)
        (by rw [entries]; exact absent) (by rw [entries]; exact full) ((received_isMasked received _).trans mask)
    · obtain ⟨g, outcome⟩ := (outcome h rests).1 going
      rw [settled_quench, outcome, withNotice_of_room _ _ (by rw [qAbove]; exact (above_iff _).2 aboveN) (by rw [count]; exact insideN)
        (.inr (by rw [qSame, found]; rfl)), (findEntryOf_withEntry _ _ q).1, qSame, found]
      obtain ⟨-, -, first, -⟩ := addNotice_spec q.finalStage r.clock.time g n.energy e
      exact ⟨_, rfl, first.trans (by rw [received_clock received])⟩
  · have stays : r.quench.withLost r.tracker.sliceCount l = r.quench := by
      refine withLost_of_not fun both => ?_
      rcases not with below | beyond
      · exact below ((above_iff l).1 both.1)
      · exact absurd both.2 (by rw [count]; exact Nat.not_lt.2 beyond)
    rw [settled_quench, others h rests other, qEntries, stays, entries]
  · obtain ⟨g, outcome⟩ := (outcome h rests).1 going
    have room' : q.entries.length < 48 := by
      have := withLost_length r.tracker.sliceCount l r.quench
      rw [entries] at this
      rw [qEntries]
      omega
    rw [settled_quench, outcome, withNotice_of_room _ _ (by rw [qAbove]; exact (above_iff _).2 aboveN) (by rw [count]; exact insideN) (.inl room'),
      (findEntryOf_withEntry _ _ q).1]
    rfl
  · rw [settled_quench, (outcome h rests).2 done]
    refine ⟨congrArg (· + 1) qLate, ?_⟩
    show findEntryOf n.slice q.entries = _
    rw [qEntries, withLost_others _ _ _ (Ne.symm apart), entries]
  · intro more
    have scanning' : r.cycle.state = .scanning := (received_same received (by simp [scanning])).trans scanning
    have e := takeNotice_of_runout role' scanning' number' previous broken' (by rw [quench]; exact runs) (steady' h)
      ((received_isFatal received _).trans reject) (by rw [entries]; exact empty) ((above_iff l).2 aboveL) (by rw [count]; exact insideL)
      (by rw [count]; exact insideN)
    rw [settled_quench, e]
    by_cases below : l < n.slice
    · have two : more = 2 := if_pos below
      rw [if_pos below, if_pos below, two, Nat.max_eq_right below.le, quench]
      exact ⟨rfl, rfl, rfl, rfl, rfl, rfl⟩
    · have one : more = 1 := if_neg below
      rw [if_neg below, if_neg below, one, Nat.max_eq_left (Nat.not_lt.1 below), quench]
      exact ⟨rfl, rfl, rfl, rfl, rfl, rfl⟩

end Sys2Proof.Machine
end

section
/-! Cycle Control's frames: the geometry check, CYCLE_END, CLEAR, STATION_RESET and ARM (O48, O49, O51, O52). -/

namespace Sys2Proof.Machine

variable {s t u : State}

/-! ## O49: the geometry check -/

theorem foldl_max_le_iff (l : List Nat) (a k : Nat) : l.foldl max a ≤ k ↔ a ≤ k ∧ ∀ x ∈ l, x ≤ k := by
  induction l generalizing a with
  | nil => simp
  | cons x rest ih => simp [ih, and_assoc]

theorem ceilDiv_le_iff {a b k : Nat} (pos : 0 < b) : ceilDiv a b ≤ k ↔ a ≤ k * b := by
  rw [ceilDiv, Nat.div_le_iff_le_mul pos]
  omega

theorem mem_livePower (s : State) (p : Peer) : p ∈ s.livePower ↔ p ∈ s.peers ∧ p.live = true ∧ p.role = .power := by
  simp [State.livePower]

theorem coilAhead_iff (d : Dir) (ring coil : Int) :
    coilAhead d ring coil = true ↔ (d = .up → ring < coil) ∧ (d = .down → coil < ring) := by
  cases d <;> simp [coilAhead]

/-- Settles O49. -/
theorem geometryCheck : Obligations.GeometryCheck := by
  intro s h pos coils offsets
  have depth : requiredDepth h.sliceLength
      ((s.livePower.map fun p => offsetDistance s.settings.toolOffset (p.toolOffset.getD s.settings.toolOffset)).foldl max 0) ≤ Config.listCapacity ↔
      ∀ p ∈ s.livePower, offsetDistance s.settings.toolOffset (p.toolOffset.getD s.settings.toolOffset) ≤ 46 * h.sliceLength := by
    rw [requiredDepth, show Config.listCapacity = 46 + 2 from rfl, Nat.add_le_add_iff_right, ceilDiv_le_iff pos, foldl_max_le_iff]
    simp
  have some_ : s.livePower.isEmpty = false ↔ ∃ p, coils p := by
    rw [List.isEmpty_eq_false_iff_exists_mem]
    exact exists_congr (mem_livePower s)
  rw [geometryPasses, Bool.and_eq_true, Bool.and_eq_true, decide_eq_true_iff, depth, Bool.not_eq_true', some_, List.all_eq_true, and_assoc]
  refine and_congr_right fun _ => ⟨fun ⟨ahead, near⟩ p o coil at_ => ?_, fun all => ⟨fun p mem => ?_, fun p mem => ?_⟩⟩
  · have mem := (mem_livePower s p).2 coil
    have front := ahead p mem
    have close := near p mem
    rw [at_] at front close
    obtain ⟨up, down⟩ := (coilAhead_iff _ _ _).1 (by simpa using front)
    exact ⟨up, down, close⟩
  · obtain ⟨o, at_⟩ := Option.ne_none_iff_exists'.1 (offsets p ((mem_livePower s p).1 mem))
    obtain ⟨up, down, -⟩ := all p o ((mem_livePower s p).1 mem) at_
    rw [at_]
    simpa using (coilAhead_iff _ _ _).2 ⟨up, down⟩
  · obtain ⟨o, at_⟩ := Option.ne_none_iff_exists'.1 (offsets p ((mem_livePower s p).1 mem))
    obtain ⟨-, -, near⟩ := all p o ((mem_livePower s p).1 mem) at_
    rw [at_]
    exact near

/-! ## O51: CYCLE_END and CLEAR -/

theorem dropEnable_eq (s : State) : dropEnable s = if s.enable = true then s.setPower s.power.zeroed else s := by
  unfold dropEnable
  split
  case isFalse => rfl
  case isTrue enabled =>
    obtain ⟨role, cycle, -⟩ := (enable_iff s).1 enabled
    exact zeroPower_eq_of_runs ((runs_iff _ _).2 ⟨role, ne_offline_of_inCycle cycle⟩)

theorem enterIdle_of_disabled (off : s.enable = false) : enterIdle s =
    (s.setCycle { s.cycle with state := .idle, number := 0, roster := 0, endKind := none }).setQuench
      { s.quench.closeSpray with pulse := .idle, pulseTimer := none } := by
  rw [enterIdle, dropEnable_eq, if_neg (by simp [off])]

theorem cycleEndAccepted_iff (number : Nat) (s : State) : cycleEndAccepted number s = true ↔
    (s.cycle.state = .done ∧ (number = 0 ∨ number = s.cycle.number) ∧ ¬ (s.role = some .travel ∧ s.travel.spindleHold = true)) ∨
    (s.cycle.state = .armed ∧ number = 0) := by
  unfold cycleEndAccepted
  cases s.cycle.state <;> simp [imp_iff_not_or]

theorem clearable_iff (s : State) : clearable s = true ↔
    s.quench.flood = false ∧ (s.role = some .travel → s.travel.command = 0 ∧ s.travel.spindleHold = false) := by
  simp only [clearable, Bool.and_eq_true, Bool.not_eq_true', Bool.or_eq_true, bne_iff_ne, beq_iff_eq]
  tauto

/-- Settles O51. -/
theorem cycleEndAndClear : Obligations.CycleEndAndClear := by
  intro ticks f s u idle closed power
  refine ⟨fun arrives => ?_, fun arrives => ?_⟩
  · intro number ends
    have run : exec (.cycleEnd ticks f) s = .next (settled s (takeCycleEnd number u)) :=
      congrArg (fun t => Host.Outcome.next (settled s t)) (receive_of_command ticks arrives rfl)
    have accepted : cycleEndAccepted number u = true ↔ ends := cycleEndAccepted_iff number u
    refine ⟨fun ok => ?_, fun no => ?_⟩
    · rw [run, takeCycleEnd, if_pos (accepted.2 ok), enterIdle, dropEnable_eq]
      refine congrArg (fun t => Host.Outcome.next (settled s t)) ?_
      have same : u.enable = s.enable := rfl
      unfold power
      rw [← same]
      split <;> rfl
    · rw [run, takeCycleEnd, if_neg (mt accepted.1 no)]
      rfl
  · intro still cleared
    have run : exec (.clear ticks f) s = .next (settled s (takeClear u)) :=
      congrArg (fun t => Host.Outcome.next (settled s t)) (receive_of_command ticks arrives rfl)
    have ok : clearable u = true ↔ still := clearable_iff u
    refine ⟨fun aborted rests => ?_, fun states => ?_, fun states => ?_⟩
    · have state : u.cycle.state = .aborted := aborted
      have off : (clearFaults u).enable = false := Bool.eq_false_iff.2 fun enabled => by
        obtain ⟨-, cycle, -⟩ := (enable_iff _).1 enabled
        have states := (inCycle_iff _).1 cycle
        simp [clearFaults, state] at states
      have taken : takeClear u = setResult .clear .accepted (enterIdle (clearFaults u)) := by
        simp only [takeClear, state]
        exact if_pos (ok.2 rests)
      rw [run, taken, enterIdle_of_disabled off]
      rfl
    · have taken : takeClear u = setResult .clear .accepted (clearFaults u) := by
        rw [inCycle_iff] at states
        rcases states with e | e | e | e | e | e <;> simp only [takeClear, show u.cycle.state = _ from e]
      rw [run, taken]
      rfl
    · have taken : takeClear u = setResult .clear .refusedState u := by
        rcases states with e | e | ⟨e, no⟩ <;> simp only [takeClear, show u.cycle.state = _ from e]
        exact if_neg (mt ok.1 no)
      rw [run, taken]
      rfl

/-! ## O52: STATION_RESET -/

/-- The state that a reset starts from: from a cycle the setpoint word has gone out. -/
def resetFrom (s : State) : State := if s.inCycle then zeroPower s else s

theorem resetFrom_power (s : State) :
    ∃ command setpoint sent, (resetFrom s).power = { s.power with command := command, setpoint := setpoint, sent := sent } := by
  unfold resetFrom zeroPower
  split
  · split
    · exact ⟨0, some 0, s.power.sent + 1, rfl⟩
    · exact ⟨_, _, _, rfl⟩
  · exact ⟨_, _, _, rfl⟩

theorem resetBlocks_power (s : State) : (resetBlocks s).power = (resetFrom s).power.stationReset := rfl

theorem resetBlocks_kept (s : State) :
    (resetBlocks s).settings = s.settings ∧ (resetBlocks s).peers = s.peers ∧ (resetBlocks s).tracker = s.tracker.stationReset ∧
    (resetBlocks s).interlock = { s.interlock with drop := 0, carried := 0 } := by
  have writes := writes_resetBlocks s
  refine ⟨writes.2 .settings (by decide), writes.2 .peers (by decide), ?_, ?_⟩
  all_goals
    unfold resetBlocks
    dsimp only
    split <;> simp

/-- The state to which an accepted reset takes the station: JOINING from SILENT, IDLE from every other. -/
theorem exec_stationReset_of_on {f : Rx} (ticks : Nat) (arrives : Arrives .stationReset f s) (on : s.cycle.state ≠ .offline) :
    ∃ (c : Cycle) (q : Sched), exec (.stationReset ticks f) s = .next (((resetBlocks (s.heard ticks)).setCycle c).setSched q) ∧
      c = { (s.heard ticks).cycle.stationReset with state := c.state, joinWindow := c.joinWindow } ∧
      (s.cycle.state = .silent → c.state = .joining ∧ c.joinWindow = some (2 * s.settings.stalenessLimit * 20000) ∧
        q = { Sched.powerOn with
          beaconQ := some (joinFrame (resetBlocks (s.heard ticks))), joinTimer := some (s.settings.beaconPeriod * 100 * 20) }) ∧
      (s.cycle.state ≠ .silent → c.state = .idle ∧ c.joinWindow = none ∧ q = { Sched.powerOn with
          beaconTimer := some (s.loader.number.toNat * (s.settings.beaconPeriod * 100) / 16 * 20) }) := by
  let u := s.heard ticks
  have run : exec (.stationReset ticks f) s = .next (settled s (takeStationReset u)) :=
    congrArg (fun t => Host.Outcome.next (settled s t)) (receive_of_command ticks arrives rfl)
  have cycle : (resetBlocks u).cycle = u.cycle.stationReset := resetBlocks_cycle u
  have sched : (resetBlocks u).sched = Sched.powerOn := resetBlocks_sched u
  have settings : (resetBlocks u).settings = s.settings := (resetBlocks_kept u).1
  have loader : (resetBlocks u).loader = s.loader := resetBlocks_loader u
  by_cases silent : s.cycle.state = .silent
  · have idle : (resetBlocks u).line.idle = false := by rw [resetBlocks_line]; rfl
    have taken : takeStationReset u = enterJoining (resetBlocks u) := by
      simp only [takeStationReset, show u.cycle.state = _ from silent]
    have joins := enterJoining_eq idle (by rw [sched]; rfl)
    rw [run, taken, joins, settled_of_no_beacon s (by rfl) (by
      show (resetBlocks u).sched.offersBeacon = false
      rw [sched]; rfl)]
    refine ⟨_, _, rfl, ?_, fun _ => ⟨rfl, ?_, ?_⟩, fun not => absurd silent not⟩
    · rw [cycle]; rfl
    · show some (2 * (resetBlocks u).settings.stalenessLimit * 20000) = _
      rw [settings]
    · show { { (resetBlocks u).sched with
          beaconTimer := none, joinTimer := timerBeacon (resetBlocks u).settings.beaconPeriod } with beaconQ := some (joinFrame (resetBlocks u)) } = _
      rw [sched, settings]
      rfl
  · have taken : takeStationReset u = startBeaconTimer ((resetBlocks u).setCycle { (resetBlocks u).cycle with state := .idle }) := by
      have silent' : u.cycle.state ≠ .silent := silent
      have on' : u.cycle.state ≠ .offline := on
      unfold takeStationReset
      split
      · exact absurd ‹_› on'
      · exact absurd ‹_› silent'
      all_goals rfl
    rw [run, taken, settled_of_no_beacon s (by rw [startBeaconTimer, State.setSched_sched, State.setCycle_sched, sched]; rfl)
      (by rw [startBeaconTimer, State.setSched_sched, State.setCycle_sched, sched]; rfl)]
    refine ⟨_, _, rfl, ?_, fun yes => absurd yes silent, fun _ => ⟨rfl, ?_, ?_⟩⟩
    · rw [cycle]
    · rw [cycle]; rfl
    · show ({ (resetBlocks u).sched with
          beaconTimer := timerUs (staggerDelay ((resetBlocks u).setCycle { (resetBlocks u).cycle with state := .idle })), joinTimer := none } :
          Sched) = _
      rw [staggerDelay, State.setCycle_loader, State.setCycle_settings, sched, settings, loader]
      rfl

/-- Settles O52. -/
theorem stationResetFrame : Obligations.StationResetFrame := by
  intro ticks f s arrives u
  have run : exec (.stationReset ticks f) s = .next (settled s (takeStationReset u)) :=
    congrArg (fun t => Host.Outcome.next (settled s t)) (receive_of_command ticks arrives rfl)
  refine ⟨fun offline => ?_, fun on => ?_⟩
  · have taken : takeStationReset u = setResult .stationReset .refusedState u := by
      simp only [takeStationReset, show u.cycle.state = _ from offline]
    rw [run, taken]
    rfl
  · obtain ⟨c, q, ends, cycle, joining, idle⟩ := exec_stationReset_of_on ticks arrives on
    obtain ⟨settings, peers, tracker, interlock⟩ := resetBlocks_kept u
    obtain ⟨_, _, _, power⟩ := resetFrom_power u
    have power' : (resetBlocks u).power = _ := (resetBlocks_power u).trans (congrArg Power.stationReset power)
    have travel : (resetBlocks u).travel = _ := resetBlocks_travel u
    refine ⟨_, ends, ?_, ?_, ?_, ?_, ?_, ?_, fun silent => ?_, fun other => ?_, rfl, rfl, tracker, ?_, ?_, ?_, ?_, ?_, ?_, ?_, ?_, ?_, ?_, ?_, ?_, ?_, ?_, ?_,
      ?_, resetBlocks_quench u, peers, resetBlocks_line u, interlock, settings, resetBlocks_loader u⟩
    · show c.number = 0
      rw [cycle]; rfl
    · show c.roster = 0
      rw [cycle]; rfl
    · show c.startTimer = none
      rw [cycle]; rfl
    · show c.scanTenths = 0
      rw [cycle]; rfl
    · show c.endKind = none
      rw [cycle]; rfl
    · show c.last = some (.stationReset, .accepted)
      rw [cycle]; rfl
    · obtain ⟨state, window, sched⟩ := joining silent
      exact ⟨state, window, congrArg Sched.beaconTimer sched, sched⟩
    · exact idle other
    iterate 7 exact (congrArg _ power').trans rfl
    all_goals exact (congrArg _ travel).trans rfl

end Sys2Proof.Machine
end

section
/-! ARM (O48). -/

namespace Sys2Proof.Machine

variable {s t u : State}

/-! ## Checks in their order -/

/-- The code the checks give: that of the first that fails, or ACCEPTED. -/
def failureCode (l : List (Bool × ResultCode)) : ResultCode := (firstFailure l).getD .accepted

theorem failureCode_cons {b : Bool} {P : Prop} {d : Decidable P} {c x : ResultCode} {rest : List (Bool × ResultCode)} (fails : b = false ↔ P)
    (more : failureCode rest = x) : failureCode ((b, c) :: rest) = if P then c else x := by
  subst more
  cases b with
  | false => rw [if_pos (fails.1 rfl)]; rfl
  | true => rw [if_neg fun p => by simpa using fails.2 p]; rfl

theorem mem_of_firstFailure {l : List (Bool × ResultCode)} {c : ResultCode} (fails : firstFailure l = some c) : c ∈ l.map (·.2) := by
  induction l with
  | nil => simp [firstFailure] at fails
  | cons x rest ih =>
    unfold firstFailure at fails
    split at fails
    · exact List.mem_cons_of_mem _ (ih fails)
    · cases fails
      exact List.mem_cons_self

/-- No check fails with ACCEPTED, so the code tells whether one does. -/
theorem firstFailure_of_code {l : List (Bool × ResultCode)} (refusals : .accepted ∉ l.map (·.2)) :
    (failureCode l = .accepted → firstFailure l = none) ∧ (failureCode l ≠ .accepted → firstFailure l = some (failureCode l)) := by
  unfold failureCode
  cases fails : firstFailure l with
  | none => exact ⟨fun _ => rfl, fun no => absurd rfl no⟩
  | some c =>
    refine ⟨fun e => ?_, fun _ => rfl⟩
    have same : c = .accepted := e
    exact absurd (same ▸ mem_of_firstFailure fails) refusals

theorem recipeReady_eq_false (recipe : Nat) (r : Readiness) :
    recipeReady recipe r = false ↔ ¬ ∃ h, r.candidate = some h ∧ (recipe = 0 ∨ recipe = h.recipe) := by
  unfold recipeReady
  cases r.candidate <;> simp

/-! ## The store at an accepted ARM -/

theorem armStore_store (s : State) :
    (armStore s).store = match readiness s.store with | .staging _ => applyStaging s.store | _ => s.store := by
  unfold armStore
  dsimp only
  split <;> rfl

theorem armStore_store_of_empty (empty : s.store.staging.state = .empty) : (armStore s).store = s.store := by
  rw [armStore_store, readiness, empty]
  cases s.store.active <;> rfl

theorem armStore_store_of_valid {h : StagedHeader} (valid : s.store.staging.state = .valid) (header : s.store.staging.header = some h) :
    (armStore s).store = { staging := Staging.cleared, active := some ⟨h.header, s.store.staging.clamped.map activeSegment⟩ } := by
  rw [armStore_store, readiness, valid, header]
  show applyStaging s.store = _
  rw [applyStaging, header]

theorem armStore_sliceCount (tool : s.role ≠ some .travel) :
    (armStore s).tracker.sliceCount = ((armStore s).store.active.map fun a => sliceCountOf a.header).getD 0 := by
  unfold armStore
  dsimp only
  rw [if_neg tool]
  rfl

theorem writes_armStore (s : State) : Writes [.store, .tracker] s (armStore s) := by
  unfold armStore
  dsimp only
  split <;> exact ⟨rfl, by rintro ⟨⟩ <;> simp [sameBlock]⟩

theorem sliceCountOf_eq {h : Header} (pos : 0 < h.sliceLength) :
    sliceCountOf h = ((h.scanStart : Int) - h.scanEnd).natAbs / h.sliceLength +
      (if ((h.scanStart : Int) - h.scanEnd).natAbs % h.sliceLength = 0 then 0 else 1) := by
  have far : distance h.scanStart h.scanEnd = ((h.scanStart : Int) - h.scanEnd).natAbs := by
    unfold distance
    split <;> omega
  rw [sliceCountOf, far, ceilDiv]
  generalize ((h.scanStart : Int) - h.scanEnd).natAbs = n
  have split_ := Nat.div_add_mod n h.sliceLength
  have below := Nat.mod_lt n pos
  split
  case isTrue even =>
    rw [even, Nat.add_zero] at split_
    refine Nat.div_eq_of_lt_le ?_ ?_
    · rw [Nat.add_zero, Nat.mul_comm, split_]
      omega
    · rw [Nat.add_zero, Nat.add_mul, Nat.mul_comm (n / _), split_]
      omega
  case isFalse odd =>
    refine Nat.div_eq_of_lt_le ?_ ?_
    · rw [Nat.add_mul, Nat.mul_comm (n / _)]
      omega
    · rw [Nat.add_mul, Nat.add_mul, Nat.mul_comm (n / _)]
      omega

/-! ## The final stage -/

theorem finalStageOf_le_iff (s : State) (k : Nat) :
    finalStageOf s ≤ k ↔ ∀ p ∈ s.peers, p.live = true → p.role = .power → p.stage.getD 0 ≤ k := by
  rw [finalStageOf, foldl_max_le_iff]
  simp only [List.mem_map, mem_livePower, forall_exists_index, and_imp]
  constructor
  · exact fun ⟨_, all⟩ p mem live power => all _ p mem live power rfl
  · exact fun all => ⟨Nat.zero_le _, fun _ p mem live power e => e ▸ all p mem live power⟩

/-- The final stage is the stage of some LIVE POWER peer, where there is one. -/
theorem finalStageOf_attained (some_ : ∃ p ∈ s.peers, p.live = true ∧ p.role = .power) :
    ∃ p ∈ s.peers, p.live = true ∧ p.role = .power ∧ p.stage.getD 0 = finalStageOf s := by
  have below := (finalStageOf_le_iff s _).1 (Nat.le_refl _)
  obtain ⟨q, mem, live, power⟩ := some_
  by_contra none_
  have lower : ∀ p ∈ s.peers, p.live = true → p.role = .power → p.stage.getD 0 ≤ finalStageOf s - 1 := fun p mem live power => by
    have le := below p mem live power
    have ne : p.stage.getD 0 ≠ finalStageOf s := fun e => none_ ⟨p, mem, live, power, e⟩
    omega
  have top := (finalStageOf_le_iff s _).2 lower
  have le := below q mem live power
  exact none_ ⟨q, mem, live, power, by omega⟩

/-- Geometry that passes has a LIVE POWER peer. -/
theorem livePower_of_geometry {h : Header} (passes : geometryPasses s h = true) : ∃ p ∈ s.peers, p.live = true ∧ p.role = .power := by
  have some_ : s.livePower.isEmpty = false := by
    simp only [geometryPasses, Bool.and_eq_true, Bool.not_eq_true'] at passes
    exact passes.1.1
  obtain ⟨p, mem⟩ := List.isEmpty_eq_false_iff_exists_mem.1 some_
  exact ⟨p, (mem_livePower s p).1 mem⟩

theorem livePower_heard (n : Nat) (s : State) : (s.heard n).livePower = s.livePower.map (Peer.pass n) := by
  show (s.peers.map (Peer.pass n)).filter _ = _
  rw [List.filter_map]
  rfl

theorem geometryPasses_heard (n : Nat) (s : State) (h : Header) : geometryPasses (s.heard n) h = geometryPasses s h := by
  have coils : (s.livePower.map (Peer.pass n)).map (fun p => offsetDistance s.settings.toolOffset (p.toolOffset.getD s.settings.toolOffset)) =
      s.livePower.map fun p => offsetDistance s.settings.toolOffset (p.toolOffset.getD s.settings.toolOffset) := by
    rw [List.map_map]
    rfl
  have ring : (s.heard n).settings.toolOffset = s.settings.toolOffset := rfl
  rw [geometryPasses, geometryPasses, livePower_heard, ring, coils, List.all_map, List.isEmpty_map]
  rfl

theorem finalStageOf_heard (n : Nat) (s : State) : finalStageOf (s.heard n) = finalStageOf s := by
  rw [finalStageOf, finalStageOf, livePower_heard, List.map_map]
  rfl

theorem enterArmed_power (s : State) : (enterArmed s).power = (dropEnable s).power := by
  unfold enterArmed
  dsimp only
  split <;> rfl

theorem enterArmed_peers (s : State) : (enterArmed s).peers = s.peers ∧ (enterArmed s).store = s.store ∧ (enterArmed s).tracker = s.tracker := by
  unfold enterArmed
  dsimp only
  split <;> simp

/-- Settles O48. -/
theorem armFrame : Obligations.ArmFrame := by
  intro ticks f s arrives u recipe candidate code
  have run : exec (.arm ticks f) s = .next (settled s (takeArm recipe u)) :=
    congrArg (fun t => Host.Outcome.next (settled s t)) (receive_of_command ticks arrives rfl)
  have coded : failureCode (armChecks recipe u) = code := by
    refine failureCode_cons ?_ (failureCode_cons (recipeReady_eq_false _ _) (failureCode_cons ?_ (failureCode_cons ?_ (failureCode_cons ?_
      (failureCode_cons ?_ (failureCode_cons ?_ (failureCode_cons ?_ rfl)))))))
    · show ((s.cycle.state == .idle || s.cycle.state == .done) && !(s.role == some .travel && s.travel.spindleHold)) = false ↔ _
      rw [← Bool.not_eq_true]
      simp
    · show (!s.isLatched .roleConflict) = false ↔ _
      rw [Bool.not_eq_false']
    · show (s.interlock.level &&& s.settings.groupA == s.settings.groupA) = false ↔ _
      exact beq_eq_false_iff_ne
    · exact Iff.rfl
    · show (s.role != some .travel || s.tracker.referenced) = false ↔ _
      simp
    · show (s.role != some .travel || !s.tracker.outOfRange) = false ↔ _
      simp
    · have same : geometryPasses u = geometryPasses s := funext (geometryPasses_heard ticks s)
      show (s.role != some .quench || candidate.any (geometryPasses u)) = false ↔ _
      rw [same]
      cases candidate <;> simp
  have refusals : .accepted ∉ (armChecks recipe u).map (·.2) := by simp [armChecks]
  obtain ⟨passes, fails⟩ := firstFailure_of_code refusals
  rw [coded] at passes fails
  refine ⟨fun refused => ?_, fun accepted => ?_⟩
  · have taken : takeArm recipe u = setResult .arm code u := by rw [takeArm, fails refused]
    rw [run, taken]
    rfl
  · have taken : takeArm recipe u = setResult .arm .accepted (enterArmed (armStore u)) := by rw [takeArm, passes accepted]
    have checks := firstFailure_none.1 (passes accepted)
    simp only [armChecks, List.forall_mem_cons] at checks
    obtain ⟨-, ready, -, -, -, -, -, geometry, -⟩ := checks
    let v := armStore u
    have stored : Writes [.store, .tracker] u v := writes_armStore u
    have cycle : v.cycle = u.cycle := stored.2 .cycle (by decide)
    have travel : v.travel = u.travel := stored.2 .travel (by decide)
    have role : v.role = s.role := role_of_loader (stored.2 .loader (by decide))
    obtain ⟨peers, store, tracker⟩ := enterArmed_peers v
    rw [taken] at run
    have move : (enterArmed v).travel = { v.travel.stop with move := none } := enterArmed_travel v
    refine ⟨_, run, ?_, fun valid => ?_, fun empty => ?_, fun tool a active pos => ?_, ?_, ?_, ?_, fun quench => ?_, ?_, ?_, ?_⟩
    · rw [settled_cycle]
      show { (enterArmed v).cycle with last := some (Kind.arm, ResultCode.accepted) } = _
      rw [enterArmed_cycle, cycle]
    · obtain ⟨h, header⟩ : ∃ h, s.store.staging.header = some h := by
        cases header : s.store.staging.header with
        | some h => exact ⟨h, rfl⟩
        | none =>
          have empty : readiness u.store = .notReady := by
            show readiness s.store = .notReady
            rw [readiness, valid, header]
          rw [empty] at ready
          cases ready
      have applied : v.store = _ := armStore_store_of_valid (s := u) valid header
      rw [settled_store, setResult_store, store, applied]
      exact ⟨rfl, h, _, header, rfl, rfl, rfl⟩
    · rw [settled_store, setResult_store, store]
      exact armStore_store_of_empty (s := u) empty
    · rw [settled_store, setResult_store, store] at active
      rw [settled_tracker, setResult_tracker, tracker, armStore_sliceCount (s := u) tool, active]
      exact sliceCountOf_eq pos
    · rw [settled_travel, setResult_travel, move]; rfl
    · rw [settled_travel, setResult_travel, move]
    · rw [settled_travel, setResult_travel, move]; rfl
    · have armed : (enterArmed v).quench = v.quench.armed (finalStageOf s) := by
        have same : finalStageOf v = finalStageOf s :=
          (show finalStageOf v = finalStageOf u by rw [finalStageOf, finalStageOf, State.livePower, State.livePower, stored.2 .peers (by decide)]).trans
            (finalStageOf_heard ticks s)
        rw [← same]
        unfold enterArmed
        dsimp only
        rw [if_pos (role.trans quench)]
        simp
      rw [settled_quench, setResult_quench, armed]
      refine ⟨rfl, rfl, rfl, rfl, rfl, rfl, rfl, rfl, rfl, _, rfl, (finalStageOf_le_iff s _).1 (Nat.le_refl _), finalStageOf_attained ?_⟩
      have passes : ∃ h, geometryPasses s h = true := by
        have role' : u.role = some .quench := quench
        rw [role'] at geometry
        cases candidate : (readiness u.store).candidate with
        | none => rw [candidate] at geometry; cases geometry
        | some h =>
          rw [candidate] at geometry
          exact ⟨h, by rw [← geometryPasses_heard ticks s]; exact geometry⟩
      obtain ⟨h, passes⟩ := passes
      exact livePower_of_geometry passes
    · have enable : v.enable = s.enable := by
        show (v.role == some .power && v.inCycle && v.actuatorGood) = _
        rw [role, State.inCycle, cycle, State.actuatorGood, stored.2 .pins (by decide)]
        rfl
      rw [settled_power, setResult_power, enterArmed_power, dropEnable_eq, enable]
      have power : v.power = s.power := stored.2 .power (by decide)
      split
      · rw [State.setPower_power, power]
        rfl
      · exact power
    · rw [settled_fault, setResult_fault, enterArmed_fault]
      exact stored.2 .fault (by decide)
    · rw [settled_peers, setResult_peers, peers]
      exact stored.2 .peers (by decide)

end Sys2Proof.Machine
end

section
/-! ABORT (O47). -/

namespace Sys2Proof.Machine

variable {s t u : State}

/-! ## What a receipt leaves of the Travel Engine, and where no entry is kept -/

theorem notifyPeer_live_travel (p : Peer) (t : State) :
    ∃ target hold, (notifyPeer p false t).travel = { t.travel with target := target, spindleHold := hold } := by
  have cycled : (notifyCycle p false t).travel = t.travel := by
    unfold notifyCycle
    split
    · simp
    · rfl
  rw [notifyPeer_lost_travel, notifyTravel]
  split
  · unfold recomputeTarget
    split
    · exact ⟨travelTarget (notifyCycle p false t), _, by rw [← cycled]; rfl⟩
    · exact ⟨t.travel.target, _, by rw [← cycled]; rfl⟩
  · exact ⟨_, _, cycled⟩

theorem receipt_travel (n : StationNo) (t : State) :
    ∃ target hold, (receipt n t).travel = { t.travel with target := target, spindleHold := hold } := by
  unfold receipt
  split
  · split
    · rename_i p _
      dsimp only
      split
      · exact ⟨_, _, rfl⟩
      · exact notifyPeer_live_travel (returned t p) (t.setPeers (putPeer (returned t p) t.peers))
    · exact ⟨_, _, rfl⟩
  · exact ⟨_, _, rfl⟩

theorem receipt_of_offline (n : StationNo) (offline : t.cycle.state = .offline) : receipt n t = t := by
  have none_ : t.tablesNumber n = false := by simp [State.tablesNumber, offline]
  rw [receipt, none_, if_neg Bool.false_ne_true]

/-! ## An abort out of a cycle -/

/-- Spindle hold begins anew in a TRAVEL station, and is released at once where no roster QUENCH peer holds it. -/
theorem beginSpindleHold_spindleHold (role : t.role = some .travel) :
    (beginSpindleHold t).travel.spindleHold = !(beginSpindleHold t).spindleReleased := by
  rw [beginSpindleHold, if_pos role, testSpindleHold]
  exact Bool.true_and _

theorem enterAborted_of_cycle (c : AbortCause) (cycle : t.inCycle = true) : enterAborted c t = abortFromCycle (markAborted c t) := if_pos cycle

theorem enterAborted_spindleHold (c : AbortCause) (cycle : t.inCycle = true) (role : t.role = some .travel) :
    (enterAborted c t).travel.spindleHold = !(enterAborted c t).spindleReleased := by
  rw [enterAborted_of_cycle c cycle, abortFromCycle]
  refine beginSpindleHold_spindleHold ?_
  refine (role_of_loader ?_).trans role
  simp

theorem enterAborted_travel_of_cycle (c : AbortCause) (cycle : t.inCycle = true) :
    ∃ hold, (enterAborted c t).travel = { t.travel with move := none, spindleHold := hold } := by
  rw [enterAborted_of_cycle c cycle, abortFromCycle]
  rcases beginSpindleHold_travel (floodRing (zeroPower ((markAborted c t).setPower (markAborted c t).power.abandon))) with
    ⟨-, hold, e⟩ | ⟨-, e⟩ <;> rw [e]
  · exact ⟨hold, by simp [markAborted]⟩
  · exact ⟨t.travel.spindleHold, by simp [markAborted]⟩

theorem enterAborted_power_of_cycle (c : AbortCause) (cycle : t.inCycle = true) :
    (enterAborted c t).power.current = none ∧ (enterAborted c t).power.acc = 0 ∧
    (t.role = some .power → (enterAborted c t).power.command = 0 ∧ (enterAborted c t).power.setpoint = some 0) := by
  let v := (markAborted c t).setPower (markAborted c t).power.abandon
  have power : (enterAborted c t).power = (zeroPower v).power := by
    rw [enterAborted_of_cycle c cycle, abortFromCycle]
    simp [v]
  rw [power]
  by_cases runs : v.runs .power = true
  · rw [zeroPower_eq_of_runs runs]
    exact ⟨rfl, rfl, fun _ => ⟨rfl, rfl⟩⟩
  · rw [zeroPower_of_not (Bool.eq_false_iff.2 runs)]
    refine ⟨rfl, rfl, fun role => absurd ((runs_iff v _).2 ⟨?_, by simp [v, markAborted]⟩) runs⟩
    exact (role_of_loader (by simp [v])).trans role

theorem namesCycle_iff (source : StationNo) (number : Nat) (s : State) :
    namesCycle source number s = true ↔ s.inCycle = true ∧ (number = s.cycle.number ∨ (number = 0 ∧ source = 0)) := by
  simp [namesCycle]

theorem enable_of_aborted (aborted : t.cycle.state = .aborted) : t.enable = false := by
  refine Bool.eq_false_iff.2 fun enabled => ?_
  obtain ⟨-, cycle, -⟩ := (enable_iff _).1 enabled
  have states := (inCycle_iff _).1 cycle
  simp [aborted] at states

theorem countAbort_of_on (on : t.cycle.state ≠ .offline) :
    countAbort t = t.setFault { t.fault with abortSeen := min 65535 (t.fault.abortSeen + 1) } := if_neg on

/-- Settles O47. -/
theorem abortFrameTaken : Obligations.AbortFrameTaken := by
  intro ticks f s arrives u number names
  let r := receipt f.source u
  have received : Receipted ticks s r := received_receipt ticks f.source s
  have run : exec (.abort ticks f) s = .next (settled s (takeAbort f.source number r)) :=
    congrArg (fun t => Host.Outcome.next (settled s t)) (receive_of_arrives ticks arrives (by decide))
  have names_iff : namesCycle f.source number r = true ↔ names := by
    rw [namesCycle_iff, received.inCycle, received.number]
  refine ⟨fun named => ?_, fun other on => ?_, fun offline => ?_⟩
  · have cycle' : r.inCycle = true := received.inCycle.trans named.1
    let c := AbortCause.abortFrom f.source
    have taken : takeAbort f.source number r = enterAborted c r := if_pos (names_iff.2 named)
    rw [taken] at run
    have aborted : (enterAborted c r).cycle = { r.cycle with state := .aborted, startTimer := none, joinWindow := none } := enterAborted_cycle c r
    have writes := writes_enterAborted c r
    have roster : r.cycle.roster = s.cycle.roster := by
      rcases receipt_cycle f.source u with e | ⟨-, e⟩
      · exact (congrArg Cycle.roster e).trans rfl
      · exact (congrArg Cycle.roster e).trans rfl
    obtain ⟨hold, travel⟩ := enterAborted_travel_of_cycle c cycle'
    obtain ⟨target, held, before⟩ := receipt_travel f.source u
    have whole : (enterAborted c r).travel = { u.travel with target := target, move := none, spindleHold := hold } := by
      rw [travel, before]
    obtain ⟨current, acc, off⟩ := enterAborted_power_of_cycle c cycle'
    refine ⟨_, run, ?_, ?_, ?_, ?_, ?_, ?_, ?_, ?_, ?_, ?_, ?_, fun role => ?_, ?_, ?_, ?_, fun role => ?_, fun role => ?_⟩
    · rw [settled_cycle, aborted]
    · rw [settled_cycle, aborted]
      exact received.number
    · rw [settled_cycle, aborted]
      exact roster
    · rw [settled_cycle, aborted]
    · rw [settled_fault, enterAborted_fault, received_fault received]
    · rw [settled_store, writes.2 .store (by decide)]
      exact received.writes.2 .store (by decide)
    · rw [settled_tracker, writes.2 .tracker (by decide)]
      exact received_tracker received
    · rw [settled_settings, writes.2 .settings (by decide)]
      exact received_settings received
    · rw [settled_travel, whole]
    · rw [settled_travel, whole]
      rfl
    · rw [settled_travel, whole]
      rfl
    · rw [settled_travel, enterAborted_spindleHold c cycle' ((received_role received).trans role)]
      exact congrArg (!·) (spindleReleased_congr (settled_cycle s _) (settled_peers s _))
    · rw [settled_power]; exact current
    · rw [settled_power]; exact acc
    · exact enable_of_aborted (by rw [settled_cycle, aborted])
    · rw [settled_power]
      exact off ((received_role received).trans role)
    · have role' : r.role = some .quench := (received_role received).trans role
      rcases enterAborted_quench c r with ⟨-, -, e⟩ | ⟨-, no, -⟩ | ⟨rest, -⟩ | ⟨state, -⟩
      · rw [settled_quench, e, received_quench received, received_settings received]
        rfl
      · exact absurd role' no
      · exact absurd (cycle'.symm.trans rest) (by decide)
      · have states := (inCycle_iff r).1 cycle'
        simp [state] at states
  · have on' : r.cycle.state ≠ .offline := by
      rcases received.state with e | ⟨-, e⟩
      · rwa [e]
      · simp [e]
    have taken : takeAbort f.source number r = countAbort r := if_neg (mt names_iff.1 other)
    rw [taken, countAbort_of_on on'] at run
    refine ⟨_, run, ?_, ?_, fun going => ?_, fun master => ?_⟩
    · rw [settled_fault, State.setFault_fault, received_fault received]
    · rw [settled_quench, State.setFault_quench]
      exact received_quench received
    · rw [settled_cycle, State.setFault_cycle]
      exact (receipt_cycle f.source u).resolve_right fun e => going e.1
    · have same : r = u := by
        unfold r
        rw [master, receipt_of_master]
      rw [same]
      have stands : settled s (u.setFault { u.fault with abortSeen := min 65535 (u.fault.abortSeen + 1) }) =
          u.setFault { u.fault with abortSeen := min 65535 (u.fault.abortSeen + 1) } := settled_eq (n := ticks) rfl rfl
      rw [stands]
      rfl
  · have same : r = u := receipt_of_offline f.source offline
    have rests : ¬ names := fun named => by
      have states := (inCycle_iff s).1 named.1
      simp [offline] at states
    have taken : takeAbort f.source number r = u := by
      rw [takeAbort, if_neg (mt names_iff.1 rests), same]
      exact if_pos offline
    rw [run, taken]
    exact next_settled (n := ticks) rfl rfl rfl

end Sys2Proof.Machine
end

section
/-! CYCLE_START and START_TIMER_EXPIRY (O50). -/

namespace Sys2Proof.Machine

variable {s t u : State}

/-! ## Counting a roster's stations -/

theorem peer_isSome_iff (s : State) (n : StationNo) : (s.peer n).isSome = true ↔ ∃ p ∈ s.peers, p.number = n := by
  simp [State.peer]

/-- One element of a list without repetitions counted by its own condition. -/
theorem countP_apart {k : Nat} {l : List Nat} (apart : l.Nodup) (mem : k ∈ l) (a : Bool) (f : Nat → Bool) :
    l.countP (fun i => if i = k then a else f i) = a.toNat + l.countP (fun i => decide (i ≠ k) && f i) := by
  induction l with
  | nil => simp at mem
  | cons i rest ih =>
    obtain ⟨fresh, apart⟩ := List.nodup_cons.1 apart
    rw [List.countP_cons, List.countP_cons]
    by_cases own : i = k
    · subst own
      have same : rest.countP (fun j => if j = i then a else f j) = rest.countP (fun j => decide (j ≠ i) && f j) :=
        List.countP_congr fun j inside => by
          have other : j ≠ i := fun e => fresh (e ▸ inside)
          simp [other]
      rw [same]
      cases a <;> simp [Nat.add_comm]
    · have inside : k ∈ rest := (List.mem_cons.1 mem).resolve_left (Ne.symm own)
      rw [ih apart inside]
      simp only [own, if_false, ne_eq, not_false_eq_true, decide_true, Bool.true_and]
      omega

/-- What station `i` of a roster counts as, the station by its strapped role. -/
def roleAt (s : State) (i : Nat) : Option Role :=
  if i = s.loader.number.toNat then s.role else (s.peer (BitVec.ofNat 4 i)).map (·.role)

theorem rosterCount_of_filter (r : Role) (roster : Marks16) (s : State) :
    rosterCount r roster s = (decide (s.role = some r)).toNat + (List.range 16).countP fun i =>
      decide (i ≠ s.loader.number.toNat) && (roster.getLsbD i && decide ((s.peer (BitVec.ofNat 4 i)).map (·.role) = some r)) := by
  have own : (s.role.toList.filter (· == r)).length = (decide (s.role = some r)).toNat := by
    cases role : s.role with
    | none => rfl
    | some x => by_cases e : x = r <;> simp [e]
  have others : (((rosterNumbers s.loader.number roster).filterMap fun n => (s.peer n).map (·.role)).filter (· == r)).length =
      (List.range 16).countP fun i =>
        decide (i ≠ s.loader.number.toNat) && (roster.getLsbD i && decide ((s.peer (BitVec.ofNat 4 i)).map (·.role) = some r)) := by
    rw [← List.countP_eq_length_filter, List.countP_filterMap, rosterNumbers, List.countP_filter, List.countP_map]
    refine List.countP_congr fun i mem => ?_
    have small : i < 16 := List.mem_range.1 mem
    have value : (BitVec.ofNat 4 i).toNat = i := by simp [Nat.mod_eq_of_lt small]
    have same : BitVec.ofNat 4 i = s.loader.number ↔ i = s.loader.number.toNat := by
      rw [← BitVec.toNat_inj, value]
    have value' : i % 16 = i := Nat.mod_eq_of_lt small
    cases role : s.peer (BitVec.ofNat 4 i) with
    | none => simp [role]
    | some x =>
      have other : (BitVec.ofNat 4 i != s.loader.number) = decide (i ≠ s.loader.number.toNat) := by
        rw [bne, beq_eq_decide, decide_eq_decide.2 same, decide_not]
      simp only [Function.comp, role, Option.map_some, Option.getD_some, other, value, Bool.and_eq_true, beq_iff_eq, decide_eq_true_iff,
        Option.some.injEq]
      tauto
  rw [rosterCount, List.filter_append, List.length_append, own, others]

/-- In a roster that marks the station, and neither 0 nor 15, the stations of a role are counted over 1..14. -/
theorem rosterCount_eq {roster : Marks16} (r : Role) (own : roster.getLsbD s.loader.number.toNat = true) (zero : roster.getLsbD 0 = false)
    (top : roster.getLsbD 15 = false) :
    rosterCount r roster s =
      (((List.range' 1 14).filter fun i => roster.getLsbD i).filter fun i => decide (roleAt s i = some r)).length := by
  have inside : s.loader.number.toNat ∈ List.range 16 := List.mem_range.2 s.loader.number.isLt
  have notZero : s.loader.number.toNat ≠ 0 := fun e => by rw [e, zero] at own; cases own
  have notTop : s.loader.number.toNat ≠ 15 := fun e => by rw [e, top] at own; cases own
  let g : Nat → Bool := fun i => if i = s.loader.number.toNat then decide (s.role = some r) else
    roster.getLsbD i && decide ((s.peer (BitVec.ofNat 4 i)).map (·.role) = some r)
  have all : rosterCount r roster s = (List.range 16).countP g := by
    rw [rosterCount_of_filter, ← countP_apart List.nodup_range inside]
  have inner : (List.range 16).countP g = (List.range' 1 14).countP g := by
    have first : g 0 = false := by simp only [g, if_neg notZero.symm, zero, Bool.false_and]
    have last : g 15 = false := by simp only [g, if_neg notTop.symm, top, Bool.false_and]
    rw [show List.range 16 = 0 :: (List.range' 1 14 ++ [15]) from rfl, List.countP_cons_of_neg (by simp [first]), List.countP_append,
      List.countP_singleton]
    simp [last]
  rw [all, inner, List.filter_filter, ← List.countP_eq_length_filter]
  refine List.countP_congr fun i _ => ?_
  by_cases here : i = s.loader.number.toNat
  · simp only [g, roleAt, here, if_true, own, Bool.and_true]
  · simp only [g, roleAt, here, if_false, Bool.and_comm]

theorem mem_rosterNumbers (own : StationNo) (roster : Marks16) (n : StationNo) :
    n ∈ rosterNumbers own roster ↔ n ≠ own ∧ roster.getLsbD n.toNat = true := by
  have every : n ∈ (List.range 16).map (BitVec.ofNat 4) :=
    List.mem_map.2 ⟨n.toNat, List.mem_range.2 n.isLt, by simp⟩
  simp only [rosterNumbers, List.mem_filter, every, true_and, Bool.and_eq_true, bne_iff_ne]

theorem rosterValid_iff (roster : Marks16) (s : State) (notZero : s.loader.number ≠ 0) (notTop : s.loader.number ≠ 15) :
    rosterValid roster s = true ↔
      roster.getLsbD s.loader.number.toNat = true ∧ roster.getLsbD 0 = false ∧ roster.getLsbD 15 = false ∧
      (∀ n : StationNo, n ≠ s.loader.number → roster.getLsbD n.toNat = true → (s.peer n).isSome = true) ∧
      rosterCount .travel roster s = 1 ∧ 1 ≤ rosterCount .power roster s ∧ rosterCount .power roster s ≤ 3 ∧
      1 ≤ rosterCount .quench roster s ∧ rosterCount .quench roster s ≤ 3 := by
  have own : s.ownNumber = some s.loader.number := if_neg fun h => h.elim notZero notTop
  have marks : marksOwn roster s = roster.getLsbD s.loader.number.toNat := by rw [marksOwn, own]; rfl
  simp only [rosterValid, Bool.and_eq_true, marks, Bool.not_eq_true', List.all_eq_true, mem_rosterNumbers, beq_iff_eq, decide_eq_true_iff,
    and_assoc, and_imp]

theorem cycleStart_rosterValid (roster : Marks16) (s : State) (notZero : s.loader.number ≠ 0) (notTop : s.loader.number ≠ 15) :
    let marked := (List.range' 1 14).filter fun i => roster.getLsbD i
    let count := fun r : Role => (marked.filter fun i => decide (roleAt s i = some r)).length
    rosterValid roster s = true ↔
      roster.getLsbD s.loader.number.toNat = true ∧ roster.getLsbD 0 = false ∧ roster.getLsbD 15 = false ∧
      (∀ i, 1 ≤ i → i ≤ 14 → roster.getLsbD i = true → i ≠ s.loader.number.toNat →
        ∃ p ∈ s.peers, p.number = BitVec.ofNat 4 i) ∧
      count .travel = 1 ∧ 1 ≤ count .power ∧ count .power ≤ 3 ∧ 1 ≤ count .quench ∧ count .quench ≤ 3 := by
  intro marked count
  rw [rosterValid_iff roster s notZero notTop]
  refine and_congr_right fun own => and_congr_right fun zero => and_congr_right fun top => ?_
  have counts (r : Role) : rosterCount r roster s = count r := rosterCount_eq r own zero top
  rw [counts, counts, counts]
  refine and_congr_left fun _ => ⟨fun all i low high mark other => ?_, fun all n other mark => ?_⟩
  · have value : (BitVec.ofNat 4 i).toNat = i := by simp; omega
    exact (peer_isSome_iff s _).1 (all _ (fun e => other (by rw [← e, value])) (by rw [value]; exact mark))
  · have low : n.toNat ≠ 0 := fun e => by rw [e, zero] at mark; cases mark
    have high : n.toNat ≠ 15 := fun e => by rw [e, top] at mark; cases mark
    have small := n.isLt
    obtain ⟨p, mem, number⟩ := all n.toNat (by omega) (by omega) mark (fun e => other (BitVec.eq_of_toNat_eq e))
    exact (peer_isSome_iff s _).2 ⟨p, mem, by rw [number]; simp⟩

/-! ## The start barrier -/

theorem holdsBarrier_eq_false (n : StationNo) : s.holdsBarrier n = false ↔ AtBarrier s s.cycle.number n := by
  unfold State.holdsBarrier AtBarrier
  cases s.peer n with
  | none => simp
  | some p => simp only [State.reached, Bool.not_eq_false', Bool.and_eq_true, Bool.or_eq_true, beq_iff_eq, Bool.not_eq_true',
      Option.some.injEq, exists_eq_left', and_assoc]

theorem mem_rosterOthers (n : StationNo) :
    n ∈ s.rosterOthers ↔ n ≠ 0 ∧ n ≠ 15 ∧ n ≠ s.loader.number ∧ s.cycle.roster.getLsbD n.toNat = true := by
  have inside : n ∈ (List.range 15).map (BitVec.ofNat 4) ↔ n ≠ 15 := by
    constructor
    · rintro mem rfl
      obtain ⟨i, small, e⟩ := List.mem_map.1 mem
      have value := congrArg BitVec.toNat e
      have bound := List.mem_range.1 small
      simp at value
      omega
    · intro top
      have small := n.isLt
      have notTop : n.toNat ≠ 15 := fun e => top (BitVec.eq_of_toNat_eq e)
      exact List.mem_map.2 ⟨n.toNat, List.mem_range.2 (by omega), by simp⟩
  simp only [State.rosterOthers, List.mem_filter, inside, Bool.and_eq_true, bne_iff_ne, State.inRoster]
  tauto

theorem barrierComplete_iff : s.barrierComplete = true ↔ BarrierMet s s.cycle.number s.cycle.roster := by
  simp only [State.barrierComplete, List.all_eq_true, Bool.not_eq_true', holdsBarrier_eq_false, mem_rosterOthers, BarrierMet, and_imp]

/-- Passing time brings no peer to the barrier and takes none from it. -/
theorem atBarrier_of_pass {k number : Nat} {n : StationNo} (peer : t.peer n = (s.peer n).map (Peer.pass k)) :
    AtBarrier t number n ↔ AtBarrier s number n := by
  unfold AtBarrier
  rw [peer]
  cases s.peer n <;> simp [Peer.pass]

theorem barrierMet_of_pass {k number : Nat} {roster : Marks16} (loader : t.loader = s.loader)
    (peer : ∀ n, t.peer n = (s.peer n).map (Peer.pass k)) : BarrierMet t number roster ↔ BarrierMet s number roster := by
  simp only [BarrierMet, loader, fun n => atBarrier_of_pass (number := number) (peer n)]

theorem heard_peer (k : Nat) (s : State) (n : StationNo) : (s.heard k).peer n = (s.peer n).map (Peer.pass k) := advance_peer k s n

theorem testBarrier_of_complete (starting : t.cycle.state = .starting) (complete : t.barrierComplete = true) :
    testBarrier t = enterScanning t := if_pos ⟨starting, complete⟩

theorem testBarrier_of_open (holds : t.barrierComplete = false) : testBarrier t = t := if_neg fun h => by simp [holds] at h

/-! ## The roster at the checks -/

theorem rosterCount_heard (r : Role) (roster : Marks16) (k : Nat) (s : State) :
    rosterCount r roster (s.heard k) = rosterCount r roster s := by
  have roles (n : StationNo) : ((s.heard k).peer n).map (·.role) = (s.peer n).map (·.role) := by
    rw [heard_peer]
    cases s.peer n <;> rfl
  unfold rosterCount
  simp only [roles]
  rfl

theorem rosterValid_heard (roster : Marks16) (k : Nat) (s : State) : rosterValid roster (s.heard k) = rosterValid roster s := by
  have entries (n : StationNo) : ((s.heard k).peer n).isSome = (s.peer n).isSome := by
    rw [heard_peer]
    cases s.peer n <;> rfl
  unfold rosterValid
  simp only [rosterCount_heard, entries]
  rfl

/-! ## The start of a cycle -/

/-- What STARTING changes of the Travel Engine. -/
theorem travelStarted_of_travel (role : s.role = some .travel) :
    travelStarted s = { s.travel with
      target := 0, command := 0, load := none, rise := none, spindleHold := false
      dir := if s.tracker.window.sum = 0 then s.direction else s.travel.dir } := by
  unfold travelStarted
  rw [if_neg (not_not.2 role)]
  by_cases rest : s.tracker.window.sum = 0
  · simp [Travel.stop, State.atRest, rest]
  · simp [Travel.stop, State.atRest, rest]

theorem cycleStart_frame (ticks : Nat) (f : Rx) (s : State) (arrives : Arrives .cycleStart f s) :
    let u := s.heard ticks
    let number := (f.words.getD 0 0).toNat
    let roster := f.words.getD 1 0
    let code : ResultCode :=
      if s.cycle.state ≠ .armed then .refusedState
      else if number = 0 ∨ 255 < number then .refusedRange
      else if rosterValid roster s = false then .refusedRoster
      else if s.interlock.level &&& s.settings.groupA ≠ s.settings.groupA then .refusedInterlock
      else if s.pins.actReady = false then .refusedNotReady
      else .accepted
    let complete := BarrierMet s number roster
    (marksOwn roster s = false → exec (.cycleStart ticks f) s = .next u) ∧
    (marksOwn roster s = true → code ≠ .accepted → exec (.cycleStart ticks f) s =
      .next (settled s (u.setCycle { u.cycle with last := some (.cycleStart, code) }))) ∧
    (marksOwn roster s = true → code = .accepted → ∃ t, exec (.cycleStart ticks f) s = .next t ∧
      t.cycle.number = number ∧ t.cycle.roster = roster ∧ t.cycle.last = some (.cycleStart, .accepted) ∧
      (¬ complete → t.cycle.state = .starting ∧ t.cycle.startTimer = some (s.settings.startTimeout * 20000)) ∧
      (complete → t.cycle.state = .scanning ∧ t.cycle.startTimer = none ∧ t.cycle.scanTenths = 0) ∧
      t.tracker = { u.tracker with seedDue := true } ∧ t.sched.dropCount = 0 ∧
      t.power = { s.power with target := 0, command := 0, clamped := false, clampedSeen := false, current := none
                               acc := 0, link := none, notices := 0, inbox := [] } ∧
      (s.role ≠ some .travel → t.travel = u.travel) ∧
      (s.role = some .travel → t.travel = { u.travel with
        target := 0, command := 0, load := none, rise := none, spindleHold := false
        dir := if s.tracker.window.sum = 0 then s.direction else s.travel.dir }) ∧
      t.quench = u.quench ∧ t.fault = s.fault ∧ t.store = s.store) := by
  intro u number roster code complete
  have run : exec (.cycleStart ticks f) s = .next (settled s (takeCycleStart number roster u)) :=
    congrArg (fun t => Host.Outcome.next (settled s t)) (receive_of_command ticks arrives rfl)
  have marks : marksOwn roster u = marksOwn roster s := rfl
  have coded : failureCode (startChecks number roster u) = code := by
    refine failureCode_cons ?_ (failureCode_cons ?_ (failureCode_cons ?_ (failureCode_cons ?_ (failureCode_cons Iff.rfl rfl))))
    · show (s.cycle.state == .armed) = false ↔ _
      exact beq_eq_false_iff_ne
    · rw [← Bool.not_eq_true]
      simp only [Bool.and_eq_true, decide_eq_true_iff]
      omega
    · rw [rosterValid_heard]
    · show (s.interlock.level &&& s.settings.groupA == s.settings.groupA) = false ↔ _
      exact beq_eq_false_iff_ne
  have refusals : .accepted ∉ (startChecks number roster u).map (·.2) := by simp [startChecks]
  obtain ⟨passes, fails⟩ := firstFailure_of_code refusals
  rw [coded] at passes fails
  refine ⟨fun other => ?_, fun own refused => ?_, fun own accepted => ?_⟩
  · have taken : takeCycleStart number roster u = u := by rw [takeCycleStart, marks, other]; rfl
    rw [run, taken]
    exact congrArg Host.Outcome.next (settled_eq (n := ticks) rfl rfl)
  · have taken : takeCycleStart number roster u = setResult .cycleStart code u := by
      rw [takeCycleStart, marks, if_pos own, fails refused]
    rw [run, taken]
    rfl
  · let v := started number roster (setResult .cycleStart .accepted u)
    have taken : takeCycleStart number roster u = testBarrier v := by
      rw [takeCycleStart, marks, if_pos own, passes accepted]
      rfl
    have barrier : v.barrierComplete = true ↔ complete :=
      barrierComplete_iff.trans (barrierMet_of_pass (s := s) (t := v) (k := ticks) rfl (heard_peer ticks s))
    have numbers : (testBarrier v).cycle.number = number ∧ (testBarrier v).cycle.roster = roster ∧
        (testBarrier v).cycle.last = some (.cycleStart, .accepted) := by
      by_cases done : v.barrierComplete = true
      · rw [testBarrier_of_complete rfl done]
        exact ⟨rfl, rfl, rfl⟩
      · rw [testBarrier_of_open (Bool.eq_false_iff.2 done)]
        exact ⟨rfl, rfl, rfl⟩
    obtain ⟨number', roster', last⟩ := numbers
    rw [taken] at run
    refine ⟨_, run, ?_, ?_, ?_, fun waits => ?_, fun met => ?_, ?_, ?_, ?_, fun tool => ?_, fun travel => ?_, ?_, ?_, ?_⟩
    · rw [settled_cycle, number']
    · rw [settled_cycle, roster']
    · rw [settled_cycle, last]
    · rw [settled_cycle, testBarrier_of_open (Bool.eq_false_iff.2 fun done => waits (barrier.1 done))]
      exact ⟨rfl, rfl⟩
    · rw [settled_cycle, testBarrier_of_complete rfl (barrier.2 met)]
      exact ⟨rfl, rfl, rfl⟩
    · rw [settled_tracker, testBarrier_tracker]
      rfl
    · rw [(settled_queues s).2.2, testBarrier_sched]
      rfl
    · rw [settled_power, testBarrier_power]
      rfl
    · rw [settled_travel, testBarrier_travel]
      exact if_pos tool
    · rw [settled_travel, testBarrier_travel]
      exact travelStarted_of_travel (s := setResult .cycleStart .accepted u) travel
    · rw [settled_quench, testBarrier_quench]
      rfl
    · rw [settled_fault, testBarrier_fault]
      rfl
    · rw [settled_store, testBarrier_store]
      rfl

/-! ## The start timer -/

/-- A report leaves the cycle number, and the start timer stopped. -/
theorem reportKeeps_startTimer (n : Nat) : ReportKeeps fun t => t.cycle.startTimer = none ∧ t.cycle.number = n where
  sched _ h := h
  line _ h := h
  latch _ _ h := h
  aborted c _ h := by rw [enterAborted_cycle]; exact ⟨rfl, h.2⟩
  silent k _ h := by rw [enterSilent_cycle]; exact ⟨rfl, h.2⟩

/-- A refresh of beacons leaves an ABORT handed. -/
theorem settled_abortHanded (old : State) (h : AbortHanded s t) : AbortHanded s (settled old t) := by
  rcases settled_cases old t with e | e | ⟨-, e⟩
  · rw [e]
    exact h
  · rw [e]
    exact h
  · rw [e]
    rcases h with waits | ⟨o, offered, frame⟩
    · exact .inl waits
    · have other : t.sched.offersBeacon = false := by simp [Sched.offersBeacon, offered, frame, abortFrame, State.ownFrame]
      refine .inr ⟨o, ?_, frame⟩
      show (if (t.sched.offersBeacon && !t.line.attempt.isSome) = true then _ else t.sched.offered) = some o
      rw [other]
      exact offered

theorem startTimer_expiry (ticks : Nat) (s : State) :
    let u := advance ticks s
    (s.cycle.state = .starting → u.cycle.startTimer = some 0 →
      ∃ t, exec (.startTimerExpiry ticks) s = .next t ∧ t.cycle.startTimer = none ∧ t.cycle.number = s.cycle.number ∧
        (s.isMasked .startTimeout = false → t.isLatched .startTimeout = true) ∧
        (s.latchable .startTimeout = false → t = u.setCycle { u.cycle with startTimer := none }) ∧
        (s.latchable .startTimeout = true → s.isFatal .startTimeout = true →
          s.sched.reportOccupancy < Config.reportCapacity →
          t.cycle.state = .aborted ∧ t.fault.cause = some (.fault .startTimeout) ∧ AbortHanded s t)) ∧
    ((s.cycle.state ≠ .starting ∨ u.cycle.startTimer ≠ some 0) → exec (.startTimerExpiry ticks) s = .next u) := by
  intro u
  refine ⟨fun starting due => ?_, fun idle => ?_⟩
  · let v := u.setCycle { u.cycle with startTimer := none }
    let r : Report := ⟨.startTimeout, u.rosterOthers.find? u.holdsBarrier, none⟩
    have run : exec (.startTimerExpiry ticks) s = .next (settled s (report r v)) :=
      congrArg (fun t => Host.Outcome.next (settled s t)) (if_pos ⟨starting, (due_iff _).2 due⟩)
    obtain ⟨stopped, number⟩ := keeps_report (reportKeeps_startTimer s.cycle.number) r (t := v) ⟨rfl, rfl⟩
    refine ⟨_, run, ?_, ?_, fun mask => ?_, fun latched => ?_, fun free fatal _ => ?_⟩
    · rw [settled_cycle, stopped]
    · rw [settled_cycle, number]
    · rw [settled_isLatched]
      exact report_latched (r := r) mask
    · rw [report_of_not (r := r) (s := v) latched]
      exact settled_of_same (by simp [sameFields, v, u])
    · obtain ⟨-, -, mild, -⟩ := fatalKindOutcome r v fatal free
      obtain ⟨-, -, ends⟩ := mild rfl
      obtain ⟨state, cause, handed⟩ := ends ((inCycle_iff v).2 (.inl starting))
      rw [settled_cycle, settled_fault]
      exact ⟨state, cause, settled_abortHanded s handed⟩
  · have stays : ¬ (u.cycle.state = .starting ∧ Timer.due u.cycle.startTimer = true) :=
      fun h => idle.elim (fun other => other h.1) fun early => early ((due_iff _).1 h.2)
    have taken : exec (.startTimerExpiry ticks) s = .next (settled s u) :=
      congrArg (fun t => Host.Outcome.next (settled s t)) (if_neg stays)
    rw [taken, settled_advance]

/-- Settles O50. -/
theorem cycleStartFrame : Obligations.CycleStartFrame :=
  ⟨cycleStart_rosterValid, cycleStart_frame, startTimer_expiry⟩

end Sys2Proof.Machine
end

section
/-! Receptions no block acts on (O57). -/

namespace Sys2Proof.Machine

variable {s t u : State}

/-! ## Where no reception is under way -/

theorem settle_of_deaf {act : State → State} (n : Nat) (deaf : s.line.hears = false) :
    settle s (hear act (advance n s)) = .next (advance n s) := by
  rw [hear_of_not (s := advance n s) deaf, settle_next, settled_advance]

theorem settle_receive_of_deaf {k : Kind} {f : Rx} {act : State → State} (n : Nat) (deaf : s.line.hears = false) :
    settle s (receive k f act (advance n s)) = .next (advance n s) := settle_of_deaf n deaf

theorem hear_now {act : State → State} (n : Nat) (hears : s.line.hears = true) : hear act (advance n s) = act (s.heard n) :=
  hear_of hears

theorem deaf_receptions (ticks : Nat) (s : State) (deaf : s.line.hears = false) (k : Kind) (c : RxCheck) (f : Rx) :
    let idle : Host.Outcome State Fault Refusal := .next (advance ticks s)
    exec (.frameNotAccepted ticks k f) s = idle ∧ exec (.discardedFrame ticks c) s = idle ∧
    exec (.duplicateFrame ticks k) s = idle ∧
    ∀ i ∈ [Instr.abort ticks f, .arm ticks f, .cycleStart ticks f, .cycleEnd ticks f, .clear ticks f,
      .stationReset ticks f, .recipeHeader ticks f, .segment ticks f, .commit ticks f, .position ticks f,
      .faultQuery ticks f, .beacon ticks f, .join ticks f, .sliceNotice ticks f], exec i s = idle := by
  intro idle
  refine ⟨settle_of_deaf ticks deaf, settle_of_deaf ticks deaf, settle_of_deaf ticks deaf, ?_⟩
  have received {k : Kind} {act : State → State} : settle s (receive k f act (advance ticks s)) = idle :=
    settle_receive_of_deaf ticks deaf
  simp only [List.forall_mem_cons]
  exact ⟨received, received, received, received, received, received, received, received, received, received, received, received,
    received, received, by simp⟩

/-! ## A good frame not accepted -/

theorem receipt_of_stranger {n : StationNo} (none_ : t.peer n = none) : receipt n t = t := by
  unfold receipt
  rw [none_]
  split <;> rfl

theorem receipt_of_live {n : StationNo} {p : Peer} (tables : t.tablesNumber n = true) (entry : t.peer n = some p) (live : p.live = true) :
    receipt n t = t.setPeers (putPeer (returned t p) t.peers) := by
  unfold receipt
  rw [if_pos tables, entry]
  exact if_pos live

theorem receipt_of_lost {n : StationNo} {p : Peer} (tables : t.tablesNumber n = true) (entry : t.peer n = some p) (lost : p.live = false) :
    receipt n t = notifyPeer (returned t p) false (t.setPeers (putPeer (returned t p) t.peers)) := by
  unfold receipt
  rw [if_pos tables, entry]
  exact if_neg (by simp [lost])

theorem peer_congr (peers : t.peers = u.peers) (n : StationNo) : t.peer n = u.peer n := by rw [State.peer, peers]; rfl

theorem peer_putPeer_of {n : StationNo} {p : Peer} (number : p.number = n) (m : StationNo) :
    (t.setPeers (putPeer p t.peers)).peer m = if n = m then some p else t.peer m := by
  rw [peer_putPeer, number]

/-- An entry whose number the table takes is put back as the receipt leaves it. -/
theorem receipt_peers {n : StationNo} {p : Peer} (tables : t.tablesNumber n = true) (entry : t.peer n = some p) :
    (receipt n t).peers = putPeer (returned t p) t.peers := by
  cases live : p.live with
  | true => rw [receipt_of_live tables entry live]; rfl
  | false =>
    rw [receipt_of_lost tables entry live]
    exact (writes_notifyPeer_of_not_beacon _ _).2 .peers (by decide)

/-- A LOST roster peer that a receipt returns in STARTING waits for its beacon, so the barrier stays open. -/
theorem receipt_cycle_of_returned {n : StationNo} {p : Peer} (tables : t.tablesNumber n = true) (entry : t.peer n = some p)
    (lost : p.live = false) (starting : t.cycle.state = .starting) (roster : t.inRoster n = true) :
    (receipt n t).cycle = t.cycle := by
  obtain ⟨-, zero, top, other⟩ := (tablesNumber_iff t n).1 tables
  have own : n ≠ t.loader.number := by
    rintro rfl
    exact other (if_neg fun h => h.elim zero top)
  let v := t.setPeers (putPeer (returned t p) t.peers)
  have number : (returned t p).number = n := (peer_some entry).2
  have entry' : v.peer n = some (returned t p) := by rw [peer_putPeer, if_pos number]
  have waits : v.barrierComplete = false := by
    refine Bool.eq_false_iff.2 fun complete => ?_
    obtain ⟨q, at_, -, noWait, -⟩ := barrierComplete_iff.1 complete n zero top own roster
    rw [entry', Option.some.injEq] at at_
    subst at_
    simp [returned, lost, starting] at noWait
  rw [receipt_of_lost tables entry lost, notifyPeer_lost_cycle, notifyCycle]
  show (if v.inRoster (returned t p).number = true then testBarrier v else v).cycle = t.cycle
  rw [testBarrier_of_open waits, ite_self]
  rfl

theorem exec_frameNotAccepted {k : Kind} {f : Rx} (ticks : Nat) (hears : s.line.hears = true) (good : rxGood k f = true)
    (other : s.ownNumber ≠ some f.source) :
    exec (.frameNotAccepted ticks k f) s = .next (settled s (receipt f.source (s.heard ticks))) := by
  have heard : hear (unaccepted k f) (advance ticks s) = unaccepted k f (s.heard ticks) := hear_of hears
  have taken : unaccepted k f (s.heard ticks) = receipt f.source (s.heard ticks) := by
    unfold unaccepted
    rw [if_neg (by simp [good]), if_neg (show ¬ (s.heard ticks).ownNumber = some f.source from other)]
  exact congrArg (settle s) (heard.trans taken)

theorem frameNotAccepted_receipt (ticks : Nat) (s : State) (hears : s.line.hears = true) (k : Kind) (f : Rx)
    (good : rxGood k f = true) (other : s.ownNumber ≠ some f.source) :
    let u := s.heard ticks
    (s.cycle.state = .offline ∨ f.source = 0 ∨ s.peer f.source = none →
      exec (.frameNotAccepted ticks k f) s = .next u) ∧
    (∀ p, s.cycle.state ≠ .offline → f.source ≠ 0 → f.source ≠ 15 → u.peer f.source = some p →
      ∃ t, exec (.frameNotAccepted ticks k f) s = .next t ∧
        t.peer f.source = some { p with
          live := true, lastFrame := u.clock.time, stale := some (s.settings.stalenessLimit * 20000)
          awaitsBeacon := p.awaitsBeacon || (!p.live && s.cycle.state == .starting) } ∧
        (∀ m, m ≠ f.source → t.peer m = u.peer m) ∧ t.fault = s.fault ∧ t.quench = u.quench ∧
        (p.live = false → s.cycle.state = .starting → s.inRoster f.source = true → PeersSafe s → t.cycle = u.cycle) ∧
        (p.live = true → t = u.setPeers t.peers)) := by
  intro u
  have run := exec_frameNotAccepted ticks hears good other
  refine ⟨fun unknown => ?_, fun p on master top entry => ?_⟩
  · have same : receipt f.source u = u := by
      rcases unknown with offline | master | none_
      · exact receipt_of_offline _ offline
      · rw [master, receipt_of_master]
      · refine receipt_of_stranger ?_
        rw [heard_peer, none_]
        rfl
    rw [run]
    exact congrArg Host.Outcome.next ((congrArg (settled s) same).trans (settled_eq (n := ticks) rfl rfl))
  · have tables : u.tablesNumber f.source = true := (tablesNumber_iff u _).2 ⟨on, master, top, other⟩
    have number : (returned u p).number = f.source := (peer_some entry).2
    have wrote := writes_receipt f.source u
    have peers (m : StationNo) : (settled s (receipt f.source u)).peer m = if f.source = m then some (returned u p) else u.peer m := by
      rw [← peer_putPeer_of number]
      exact peer_congr ((settled_peers _ _).trans (receipt_peers tables entry)) m
    refine ⟨_, run, ?_, fun m apart => ?_, ?_, ?_, fun lost starting roster _ => ?_, fun live => ?_⟩
    · rw [peers, if_pos rfl]
      rfl
    · rw [peers, if_neg (Ne.symm apart)]
    · rw [settled_fault]
      exact wrote.2 .fault (by decide)
    · rw [settled_quench]
      exact wrote.2 .quench (by decide)
    · rw [settled_cycle]
      exact receipt_cycle_of_returned tables entry lost starting roster
    · have put := receipt_of_live tables entry live
      have same : settled s (receipt f.source u) = receipt f.source u := by
        rw [put]
        exact settled_eq (n := ticks) rfl rfl
      rw [same, put]
      rfl

/-! ## The line's counts -/

/-- The transmit and receive error counts and the mark of a duplicate seen. -/
def Line.counts (l : Line) : Nat × Nat × Bool := (l.txErr, l.rxErr, l.dupSeen)

theorem begun_counts (o : Option Offer) (l : Line) : (l.begun o).counts = l.counts := by
  cases o <;> rfl

/-- A report leaves the line's counts. -/
theorem reportKeeps_counts (x : Nat × Nat × Bool) : ReportKeeps fun t => t.line.counts = x where
  sched _ h := h
  line o h := (begun_counts o _).trans h
  latch _ _ h := h
  aborted c _ h := by rw [enterAborted_line]; exact h
  silent k _ h := by rw [enterSilent_line]; exact h

/-! ## Discarded frames -/

theorem discarded_counts (ticks : Nat) (s : State) (hears : s.line.hears = true) (c : RxCheck) :
    let u := s.heard ticks
    (s.cycle.state = .offline → exec (.discardedFrame ticks c) s = .next u) ∧
    (s.cycle.state ≠ .offline → ∃ t, exec (.discardedFrame ticks c) s = .next t ∧
      t.line.rxErr = min 255 (s.line.rxErr + 1) ∧
      (s.line.rxErr = 15 → s.isMasked .frameErrors = false → t.isLatched .frameErrors = true) ∧
      (s.line.rxErr ≠ 15 → t = u.setLine { u.line with rxErr := min 255 (s.line.rxErr + 1) })) := by
  intro u
  have heard : exec (.discardedFrame ticks c) s = .next (settled s (discard u)) := congrArg (settle s) (hear_of hears)
  refine ⟨fun offline => ?_, fun on => ?_⟩
  · have same : discard u = u := if_pos offline
    rw [heard, same]
    exact congrArg Host.Outcome.next (settled_eq (n := ticks) rfl rfl)
  · let v := u.setLine { u.line with rxErr := min 255 (s.line.rxErr + 1) }
    have counted : discard u = if min 255 (s.line.rxErr + 1) = 16 then reportPlain .frameErrors v else v := if_neg on
    refine ⟨_, heard, ?_, fun rises mask => ?_, fun below => ?_⟩
    · rw [settled_line, counted]
      split
      · exact congrArg (·.2.1) (keeps_report (reportKeeps_counts v.line.counts) ⟨.frameErrors, none, none⟩ (t := v) rfl)
      · rfl
    · rw [settled_isLatched, counted, if_pos (by omega)]
      exact reportPlain_latched mask
    · rw [counted, if_neg (by omega)]
      exact settled_eq (n := ticks) rfl rfl

/-! ## Duplicates of the station's number -/

theorem or_and_not_self {n : Nat} (a b : BitVec n) : (a ||| b) &&& ~~~b = a &&& ~~~b := by
  ext i
  simp only [BitVec.getElem_and, BitVec.getElem_or, BitVec.getElem_not]
  cases a[i] <;> cases b[i] <;> rfl

/-- A frame handed to the REPORT queue sets at most the latch of TX_OVERFLOW. -/
theorem handReport_latches (f : Frame) (t : State) :
    (handReport f t).fault.latches &&& ~~~0x4000#16 = t.fault.latches &&& ~~~0x4000#16 := by
  have placed : (placeReport f t).fault.latches = t.fault.latches := by rw [placeReport_fault]
  unfold handReport reportOverflow
  split
  · split
    · obtain ⟨cause, told⟩ := tellCycle_fault .txOverflow (placeReport (faultNoticeFrame (placeReport f t) .txOverflow none false)
        (latch ⟨.txOverflow, none, some (capturedHeader f)⟩ (placeReport f t)))
      rw [told, placeReport_fault, ← placed]
      exact or_and_not_self _ _
    · rw [placed]
  · rw [placed]

theorem duplicate_join (ticks : Nat) (s : State) (hears : s.line.hears = true)
    (joined : s.cycle.state = .idle ∨ s.cycle.state = .armed ∨ s.inCycle = true ∨ s.cycle.state = .aborted) :
    let u := s.heard ticks
    ∃ t, exec (.duplicateFrame ticks .join) s = .next t ∧ t.line.dupSeen = true ∧
      t.fault.latches &&& ~~~0x4000#16 = s.fault.latches &&& ~~~0x4000#16 ∧ (s.line.dupSeen = true → t = u) ∧
      (s.line.dupSeen = false → ReportWaits s → t = (u.setLine { u.line with dupSeen := true }).setSched
        { u.sched with reportQ := s.sched.reportQ ++ [faultNoticeFrame u .duplicateStation none true] }) := by
  intro u
  have seen : duplicate .join u = duplicateSeen u := by
    have state : u.cycle.state = s.cycle.state := rfl
    unfold duplicate
    rw [state]
    rcases joined with e | e | cycle | e
    · rw [e]; rfl
    · rw [e]; rfl
    · rcases (inCycle_iff s).1 cycle with e | e | e <;> rw [e] <;> rfl
    · rw [e]; rfl
  have run : exec (.duplicateFrame ticks .join) s = .next (settled s (duplicateSeen u)) :=
    congrArg (settle s) ((hear_now ticks hears).trans seen)
  let v := u.setLine { u.line with dupSeen := true }
  let f := faultNoticeFrame v .duplicateStation none true
  cases marked : s.line.dupSeen with
  | true =>
    have same : duplicateSeen u = u := if_pos marked
    rw [same] at run
    have still : settled s u = u := settled_eq (n := ticks) rfl rfl
    rw [still] at run
    exact ⟨_, run, marked, rfl, fun _ => rfl, (fun no => nomatch no)⟩
  | false =>
    have handed : duplicateSeen u = handReport f v := if_neg (by rw [show u.line.dupSeen = false from marked]; exact Bool.false_ne_true)
    rw [handed] at run
    refine ⟨_, run, ?_, ?_, (fun no => nomatch no), fun _ waits => ?_⟩
    · rw [settled_line]
      exact congrArg (·.2.2) (keeps_handReport (reportKeeps_counts v.line.counts) f (t := v) rfl)
    · rw [settled_fault, handReport_latches]
      rfl
    · obtain ⟨on, room, -⟩ := waits
      have queued : handReport f v = v.setSched { v.sched with reportQ := v.sched.reportQ ++ [f] } := by
        rw [handReport_of_room (t := v) on room, pushReport, tryBegin_of_not]
        simp [State.mayBegin, v, u, State.heard, endReception]
      rw [queued]
      exact settled_eq (n := ticks) rfl rfl

theorem duplicate_established {k : Kind} (on : t.onLine = true) (other : k ≠ .join ∨ t.cycle.state = .joining) :
    duplicate k t = duplicateEstablished k t := by
  obtain ⟨offline, silent⟩ := (onLine_iff t).1 on
  unfold duplicate
  split
  case h_1 e => exact absurd e offline
  case h_2 e => exact absurd e silent
  case h_3 => rfl
  all_goals
    rename_i e
    exact if_neg (other.resolve_right (by rw [e]; decide))

theorem duplicate_silences (ticks : Nat) (s : State) (hears : s.line.hears = true) (k : Kind) (on : s.onLine = true)
    (other : k ≠ .join ∨ s.cycle.state = .joining) (mask : s.isMasked .duplicateStation = false)
    (free : s.isLatched .duplicateStation = false) (fatal : s.isFatal .duplicateStation = true) :
    ∃ t, exec (.duplicateFrame ticks k) s = .next t ∧ t.cycle.state = .silent ∧
      t.isLatched .duplicateStation = true ∧ t.sched.beaconQ = none ∧ t.sched.offered = none := by
  let u := s.heard ticks
  let r : Report := ⟨.duplicateStation, none, some ⟨s.loader.number, k⟩⟩
  have run : exec (.duplicateFrame ticks k) s = .next (settled s (report r u)) :=
    congrArg (settle s) ((hear_now ticks hears).trans (duplicate_established (t := u) on other))
  obtain ⟨-, -, -, silences⟩ := fatalKindOutcome r u fatal ((latchable_iff _ _).2 ⟨mask, free⟩)
  obtain ⟨silent, -, offered, -, beaconQ, -⟩ := silences rfl on
  have still : settled s (report r u) = report r u :=
    settled_of_no_beacon s (by rw [Sched.waitsBeacon, beaconQ]; rfl) (by rw [Sched.offersBeacon, offered]; rfl)
  rw [still] at run
  exact ⟨_, run, silent, report_latched (r := r) mask, beaconQ, offered⟩

/-! ## O57 -/

/-- Settles O57. -/
theorem receptionsWithoutABlock : Obligations.ReceptionsWithoutABlock := by
  intro ticks s u idle
  refine ⟨fun deaf => deaf_receptions ticks s deaf, fun hears => frameNotAccepted_receipt ticks s hears,
    fun hears => discarded_counts ticks s hears, fun hears k => ⟨fun off => ?_, ?_, duplicate_silences ticks s hears k⟩,
    fun idles => ?_, fun busy => ?_⟩
  · have same : duplicate k u = u := by
      have state : u.cycle.state = s.cycle.state := rfl
      unfold duplicate
      rw [state]
      rcases off with e | e <;> rw [e]
    have run : exec (.duplicateFrame ticks k) s = .next (settled s u) := congrArg (settle s) ((hear_now ticks hears).trans same)
    rw [run]
    exact congrArg Host.Outcome.next (settled_eq (n := ticks) rfl rfl)
  · rintro rfl joined
    exact duplicate_join ticks s hears joined
  · have started : exec (.receptionStart ticks) s =
        .next (settled s ((advance ticks s).setLine { s.line with idle := false, rx := .receiving })) :=
      congrArg (settle s) (if_pos idles)
    rw [started]
    exact congrArg Host.Outcome.next (settled_eq (n := ticks) rfl rfl)
  · have stays : exec (.receptionStart ticks) s = .next (settled s (advance ticks s)) :=
      congrArg (settle s) (if_neg (show ¬ (advance ticks s).line.idle = true by
        rw [show (advance ticks s).line.idle = false from busy]; exact Bool.false_ne_true))
    rw [stays, settled_advance]

end Sys2Proof.Machine
end

section
/-! The line falling idle and the outcomes of an attempt (O58). -/

namespace Sys2Proof.Machine

variable {s t u : State}

/-! ## The choice of an offer -/

/-- The first entry of the phase table, from the pointer on, whose queue can be chosen from. -/
theorem findEntry_of_first {j : Nat} (small : j < 16)
    (ready : entryReady s (phaseEntry s ((s.sched.phasePtr + j) % 16)) = true)
    (before : ∀ i, i < j → entryReady s (phaseEntry s ((s.sched.phasePtr + i) % 16)) = false) :
    findEntry s = some ((s.sched.phasePtr + j) % 16) := by
  have first : (List.range 16).find? ((fun i => entryReady s (phaseEntry s i)) ∘ fun i => (s.sched.phasePtr + i) % 16) = some j :=
    List.find?_range_eq_some.2 ⟨ready, List.mem_range.2 small, fun i early => by simpa using before i early⟩
  rw [findEntry, List.find?_map, first]
  rfl

theorem findEntry_of_none (none_ : ∀ j, j < 16 → entryReady s (phaseEntry s ((s.sched.phasePtr + j) % 16)) = false) :
    findEntry s = none := by
  rw [findEntry, List.find?_eq_none]
  intro i mem
  obtain ⟨j, small, rfl⟩ := List.mem_map.1 mem
  simpa using none_ j (List.mem_range.1 small)

/-- The line as the station drives a frame. -/
def Line.drives (f : Frame) (l : Line) : Line := { l with idle := false, attempt := some f, rx := .ownFrame }

/-- The state in which the line has fallen idle. -/
def idled (s : State) : State := s.setLine { s.line with idle := true, rx := .waiting }

theorem tryBegin_of_offer {q : Sched} {o : Offer} (may : t.mayBegin = true)
    (choice : (if t.sched.offered.isNone then chosen t else t.sched) = q) (offered : q.offered = some o) :
    tryBegin t = (t.setSched q).setLine (t.line.drives o.frame) := by
  have begun : tryBegin t = (t.setSched q).setLine (t.line.begun q.offered) := by
    rw [tryBegin, if_pos may, chooseOffer, choice]
    rfl
  rw [begun, offered]
  rfl

theorem tryBegin_of_nothing (may : t.mayBegin = true) (offered : t.sched.offered = none) (choice : chosen t = t.sched) : tryBegin t = t := by
  have begun : tryBegin t = (t.setSched t.sched).setLine (t.line.begun t.sched.offered) := by
    rw [tryBegin, if_pos may, chooseOffer, choice, ite_self]
    rfl
  rw [begun, offered]
  rfl

theorem exec_lineIdle (ticks : Nat) (free : s.line.attempt = none) :
    exec (.lineIdle ticks) s = .next (settled s (tryBegin (idled (advance ticks s)))) :=
  congrArg (settle s) (if_pos (show (advance ticks s).line.attempt.isNone = true by
    rw [show (advance ticks s).line.attempt = none from free]; rfl))

section
variable (ticks : Nat) (free : s.line.attempt = none) (on : s.onLine = true)
include free on

theorem idled_mayBegin : (idled (advance ticks s)).mayBegin = true := (mayBegin_iff _).2 ⟨on, rfl, free⟩

/-- The line falls idle, and the offer chosen or kept is driven. -/
theorem lineIdle_drives {q : Sched} {o : Offer}
    (choice : (if (advance ticks s).sched.offered.isNone then chosen (idled (advance ticks s)) else (advance ticks s).sched) = q)
    (offered : q.offered = some o) :
    exec (.lineIdle ticks) s = .next (((advance ticks s).setSched q).setLine (s.line.drives o.frame)) := by
  rw [exec_lineIdle ticks free, tryBegin_of_offer (idled_mayBegin ticks free on) choice offered]
  exact congrArg Host.Outcome.next (settled_eq (n := ticks) rfl rfl)

theorem lineIdle_kept {o : Offer} (offered : s.sched.offered = some o) :
    exec (.lineIdle ticks) s = .next ((advance ticks s).setLine (s.line.drives o.frame)) :=
  lineIdle_drives ticks free on (q := (advance ticks s).sched) (if_neg (by
    rw [show (advance ticks s).sched.offered = some o from offered]; exact Bool.false_ne_true)) offered

theorem lineIdle_abort {f : Frame} (offered : s.sched.offered = none) (waits : s.sched.abortQ = some f) :
    exec (.lineIdle ticks) s = .next (((advance ticks s).setSched
      { (advance ticks s).sched with abortQ := none, offered := some ⟨f, s.sched.phasePtr⟩ }).setLine (s.line.drives f)) := by
  refine lineIdle_drives ticks free on (o := ⟨f, s.sched.phasePtr⟩) ((if_pos ?_).trans ?_) rfl
  · rw [show (advance ticks s).sched.offered = none from offered]
    rfl
  · rw [chosen, show (idled (advance ticks s)).sched.abortQ = some f from waits]
    rfl

theorem lineIdle_nothing (offered : s.sched.offered = none) (abort : s.sched.abortQ = none) (nothing : findEntry s = none) :
    exec (.lineIdle ticks) s = .next (idled (advance ticks s)) := by
  have choice : chosen (idled (advance ticks s)) = (idled (advance ticks s)).sched := by
    rw [chosen, show (idled (advance ticks s)).sched.abortQ = none from abort,
      show findEntry (idled (advance ticks s)) = none from nothing]
  rw [exec_lineIdle ticks free, tryBegin_of_nothing (idled_mayBegin ticks free on) offered choice]
  exact congrArg Host.Outcome.next (settled_eq (n := ticks) rfl rfl)

theorem lineIdle_chosen {i : Nat} {o : Offer} (offered : s.sched.offered = none) (abort : s.sched.abortQ = none)
    (found : findEntry s = some i) (taken : (offerFrom i (phaseEntry s i) (advance ticks s).sched).offered = some o) :
    exec (.lineIdle ticks) s =
      .next (((advance ticks s).setSched (offerFrom i (phaseEntry s i) (advance ticks s).sched)).setLine (s.line.drives o.frame)) := by
  refine lineIdle_drives ticks free on ((if_pos ?_).trans ?_) taken
  · rw [show (advance ticks s).sched.offered = none from offered]
    rfl
  · rw [chosen, show (idled (advance ticks s)).sched.abortQ = none from abort,
      show findEntry (idled (advance ticks s)) = some i from found]
    rfl

end

/-! ## What is kept of an offer after a lost attempt -/

theorem dropLateJoin_of_stays {o : Offer} {state : StationState} {q : Sched} (offered : q.offered = some o)
    (stays : o.frame.kind = .join → state = .joining) : dropLateJoin state q = q := by
  unfold dropLateJoin
  rw [offered]
  exact if_neg fun h => h.2 (stays h.1)

theorem dropLateJoin_of_late {o : Offer} {state : StationState} {q : Sched} (offered : q.offered = some o)
    (join : o.frame.kind = .join) (late : state ≠ .joining) : dropLateJoin state q = { q with offered := none } := by
  unfold dropLateJoin
  rw [offered]
  exact if_pos ⟨join, late⟩

theorem takeNewerBeacon_of_none {q : Sched} (none_ : q.offered = none) : takeNewerBeacon q = q := by
  unfold takeNewerBeacon
  rw [none_]

theorem takeNewerBeacon_of_other {o : Offer} {q : Sched} (offered : q.offered = some o) (other : classOf o.frame.kind ≠ .beacon) :
    takeNewerBeacon q = q := by
  unfold takeNewerBeacon
  rw [offered]
  cases q.beaconQ with
  | none => rfl
  | some f => exact if_neg other

theorem takeNewerBeacon_of_beacon {o : Offer} {q : Sched} (offered : q.offered = some o) (beacon : classOf o.frame.kind = .beacon) :
    takeNewerBeacon q = { q with offered := some { o with frame := q.beaconQ.getD o.frame }, beaconQ := none } := by
  obtain ⟨_, beaconQ, _⟩ := q
  simp only at offered
  subst offered
  cases beaconQ with
  | none => rfl
  | some f => exact if_pos beacon

/-- The state after a lost attempt, before a refresh is made. -/
def receivesOn (q : Sched) (s : State) : State :=
  s.setSched { q with refreshDue := false } |>.setLine { s.line with attempt := none, rx := .receiving }

theorem keepOffer_eq (t : State) : keepOffer t =
    if t.sched.refreshDue && t.sched.beaconQ.isNone then
      refreshBeacon (receivesOn (takeNewerBeacon (dropLateJoin t.cycle.state t.sched)) t)
    else receivesOn (takeNewerBeacon (dropLateJoin t.cycle.state t.sched)) t := rfl

/-- No BEACON is left to refresh. -/
theorem refreshBeacon_receivesOn {q : Sched} (waits : q.waitsBeacon = false) (offers : q.offersBeacon = false) :
    refreshBeacon (receivesOn q t) = receivesOn q t := by
  have still : (receivesOn q t).refreshable = false := by
    show (q.waitsBeacon || (q.offersBeacon && _)) = false
    rw [waits, offers]
    rfl
  rw [refreshBeacon_of_not still]
  show (receivesOn q t).setSched { q with refreshDue := false || (q.offersBeacon && _) } = _
  rw [offers]
  rfl

theorem keepOffer_of_rests {q : Sched} (kept : takeNewerBeacon (dropLateJoin t.cycle.state t.sched) = q)
    (queue : q.beaconQ = t.sched.beaconQ) (offers : q.offersBeacon = false) : keepOffer t = receivesOn q t := by
  rw [keepOffer_eq, kept]
  split
  case isTrue due =>
    refine refreshBeacon_receivesOn ?_ offers
    obtain ⟨-, empty⟩ := Bool.and_eq_true_iff.1 due
    rw [Sched.waitsBeacon, queue, Option.isNone_iff_eq_none.1 empty]
    rfl
  case isFalse => rfl

theorem offersBeacon_of_offered {q : Sched} {o : Offer} (offered : q.offered = some o) : q.offersBeacon = (o.frame.kind == .beacon) := by
  rw [Sched.offersBeacon, offered]
  rfl

/-- Another frame than a BEACON or JOIN stays offered as it is. -/
theorem keepOffer_of_other {o : Offer} (offered : t.sched.offered = some o) (other : classOf o.frame.kind ≠ .beacon) :
    keepOffer t = receivesOn t.sched t := by
  have notJoin : o.frame.kind ≠ .join := fun e => other (by rw [e]; rfl)
  have notBeacon : o.frame.kind ≠ .beacon := fun e => other (by rw [e]; rfl)
  refine keepOffer_of_rests ?_ rfl ?_
  · rw [dropLateJoin_of_stays offered fun e => absurd e notJoin, takeNewerBeacon_of_other offered other]
  · rw [offersBeacon_of_offered offered]
    exact beq_eq_false_iff_ne.2 notBeacon

theorem keepOffer_of_late {o : Offer} (offered : t.sched.offered = some o) (join : o.frame.kind = .join) (late : t.cycle.state ≠ .joining) :
    keepOffer t = receivesOn { t.sched with offered := none } t := by
  refine keepOffer_of_rests ?_ rfl rfl
  rw [dropLateJoin_of_late offered join late, takeNewerBeacon_of_none rfl]

/-- A BEACON offered with no attempt under way is rebuilt in place. -/
theorem rebuilt_of_offered {q : Sched} {o : Offer} (f : Frame) (offered : q.offered = some o) (beacon : o.frame.kind = .beacon)
    (empty : q.beaconQ = none) :
    (q.noteRefresh false).rebuilt f false = { q with offered := some { o with frame := f } } := by
  have offers : (q.noteRefresh false).offersBeacon = true := by
    rw [offersBeacon_of_offered (q := q.noteRefresh false) offered, beacon]
    rfl
  have waits : (q.noteRefresh false).waitsBeacon = false := by
    rw [Sched.waitsBeacon, show (q.noteRefresh false).beaconQ = none from empty]
    rfl
  rw [Sched.rebuilt, offers, waits]
  simp [Sched.noteRefresh, offered]

/-- A BEACON or JOIN stays offered with the frame of a newer one, or rebuilt where a refresh fell due. -/
theorem keepOffer_of_beacon {o : Offer} (offered : t.sched.offered = some o) (beacon : classOf o.frame.kind = .beacon)
    (stays : o.frame.kind = .join → t.cycle.state = .joining) :
    let due := t.sched.beaconQ = none ∧ t.sched.refreshDue = true ∧ o.frame.kind = .beacon
    keepOffer t = receivesOn
      { t.sched with
        beaconQ := none, offered := some ⟨t.sched.beaconQ.getD (if due then beaconFrame t else o.frame), o.entry⟩ }
      (t.setInterlock (if due then { t.interlock with carried := t.interlock.drop } else t.interlock)) := by
  intro due
  let q : Sched := { t.sched with offered := some { o with frame := t.sched.beaconQ.getD o.frame }, beaconQ := none }
  have kept : takeNewerBeacon (dropLateJoin t.cycle.state t.sched) = q := by
    rw [dropLateJoin_of_stays offered stays, takeNewerBeacon_of_beacon offered beacon]
  by_cases falls : due
  · have ⟨empty, refresh, kind⟩ := falls
    have offers : q.offersBeacon = true := by
      rw [offersBeacon_of_offered (o := ⟨o.frame, o.entry⟩) (by simp [q, empty]), kind]
      rfl
    have able : (receivesOn q t).refreshable = true := by
      show (q.waitsBeacon || (q.offersBeacon && true)) = true
      rw [offers, Bool.and_true, Bool.or_true]
    let built := (receivesOn q t).sched
    have rebuilt : (built.noteRefresh false).rebuilt (beaconFrame (receivesOn q t)) false =
        { built with offered := some ⟨beaconFrame t, o.entry⟩ } :=
      rebuilt_of_offered (o := ⟨t.sched.beaconQ.getD o.frame, o.entry⟩) _ rfl (by rw [empty]; exact kind) rfl
    rw [keepOffer_eq, kept, if_pos falls, if_pos falls, refresh, empty, Option.isNone_none, Bool.and_self, if_pos rfl, refreshBeacon]
    dsimp only
    rw [if_pos able]
    exact congrArg (fun v => markCarried ((receivesOn q t).setSched v)) rebuilt
  · have stands : keepOffer t = receivesOn q t := by
      rw [keepOffer_eq, kept]
      split
      case isFalse => rfl
      case isTrue refresh =>
        obtain ⟨refresh, empty⟩ := Bool.and_eq_true_iff.1 refresh
        have none_ := Option.isNone_iff_eq_none.1 empty
        have other : o.frame.kind ≠ .beacon := fun kind => falls ⟨none_, refresh, kind⟩
        refine refreshBeacon_receivesOn rfl ?_
        rw [offersBeacon_of_offered (q := q) rfl]
        show (( t.sched.beaconQ.getD o.frame).kind == Kind.beacon) = false
        rw [none_]
        exact beq_eq_false_iff_ne.2 other
    rw [if_neg falls, if_neg falls, stands]
    rfl

/-! ## O58: the outcomes -/

/-- What a lost attempt leaves: the offer kept, or an ABORT that waits in its place. -/
theorem exec_lostContention {f : Frame} {q : Sched} {v : State} (ticks : Nat) (attempt : s.line.attempt = some f)
    (kept : keepOffer (advance ticks s) = receivesOn q v) (cycle : v.cycle = (advance ticks s).cycle) (store : v.store = s.store) :
    exec (.lostContention ticks) s = .next ((receivesOn q v).setSched (displaceByAbort { q with refreshDue := false })) := by
  have lost : exec (.lostContention ticks) s = .next (settled s (lostContention (advance ticks s))) :=
    congrArg (settle s) (if_pos (show (advance ticks s).line.attempt.isSome = true by
      rw [show (advance ticks s).line.attempt = some f from attempt]; rfl))
  rw [lost, lostContention, kept]
  exact congrArg Host.Outcome.next (settled_eq (n := ticks) cycle store)

theorem displaceByAbort_of_none {q : Sched} (none_ : q.abortQ = none) : displaceByAbort q = q := by
  unfold displaceByAbort
  rw [none_]

theorem displaceByAbort_of_offer {q : Sched} {a : Frame} {o : Offer} (waits : q.abortQ = some a) (offered : q.offered = some o) :
    displaceByAbort q = { returnOffer o q with abortQ := none, offered := some ⟨a, (returnOffer o q).phasePtr⟩ } := by
  unfold displaceByAbort
  rw [waits, offered]

section
variable {f : Frame} {o : Offer} (ticks : Nat) (attempt : s.line.attempt = some f) (offered : s.sched.offered = some o)
include attempt offered

theorem lost_of_other (other : classOf o.frame.kind ≠ .beacon) (abort : s.sched.abortQ = none) :
    exec (.lostContention ticks) s = .next (receivesOn (advance ticks s).sched (advance ticks s)) := by
  have kept := keepOffer_of_other (t := advance ticks s) offered other
  rw [exec_lostContention ticks attempt kept rfl rfl, displaceByAbort_of_none (q := { (advance ticks s).sched with refreshDue := false }) abort]
  rfl

theorem lost_of_displaced {a : Frame} (other : classOf o.frame.kind ≠ .beacon) (abort : s.sched.abortQ = some a) :
    let kept := { (advance ticks s).sched with refreshDue := false }
    exec (.lostContention ticks) s = .next (receivesOn
      { returnOffer o kept with abortQ := none, offered := some ⟨a, (returnOffer o kept).phasePtr⟩ } (advance ticks s)) := by
  intro kept
  have keep := keepOffer_of_other (t := advance ticks s) offered other
  rw [exec_lostContention ticks attempt keep rfl rfl,
    displaceByAbort_of_offer (q := { (advance ticks s).sched with refreshDue := false }) abort offered]
  unfold returnOffer
  split <;> rfl

theorem lost_of_late (join : o.frame.kind = .join) (late : s.cycle.state ≠ .joining) :
    exec (.lostContention ticks) s =
      .next (receivesOn { (advance ticks s).sched with offered := none } (advance ticks s)) := by
  have kept := keepOffer_of_late (t := advance ticks s) offered join late
  rw [exec_lostContention ticks attempt kept rfl rfl, displaceByAbort_of_unoffered rfl]
  rfl

theorem lost_of_beacon (beacon : classOf o.frame.kind = .beacon) (stays : o.frame.kind = .join → s.cycle.state = .joining) :
    let due := s.sched.beaconQ = none ∧ s.sched.refreshDue = true ∧ o.frame.kind = .beacon
    let frame := s.sched.beaconQ.getD (if due then beaconFrame (advance ticks s) else o.frame)
    let marked := (advance ticks s).setInterlock (if due then { s.interlock with carried := s.interlock.drop } else s.interlock)
    (s.sched.abortQ = none → exec (.lostContention ticks) s = .next
      (receivesOn { (advance ticks s).sched with beaconQ := none, offered := some ⟨frame, o.entry⟩ } marked)) ∧
    (∀ a, s.sched.abortQ = some a → classOf frame.kind = .beacon → exec (.lostContention ticks) s = .next
      (receivesOn { (advance ticks s).sched with
        abortQ := none, beaconQ := some frame, phasePtr := o.entry, offered := some ⟨a, o.entry⟩ } marked)) := by
  intro due frame marked
  let q : Sched := { (advance ticks s).sched with beaconQ := none, offered := some ⟨frame, o.entry⟩ }
  have kept : keepOffer (advance ticks s) = receivesOn q marked := keepOffer_of_beacon (t := advance ticks s) offered beacon stays
  have lost := exec_lostContention ticks attempt kept rfl rfl
  refine ⟨fun abort => ?_, fun a abort waits => ?_⟩
  · rw [lost, displaceByAbort_of_none (q := { q with refreshDue := false }) abort]
    rfl
  · rw [lost, displaceByAbort_of_offer (q := { q with refreshDue := false }) (o := ⟨frame, o.entry⟩) abort rfl, returnOffer, waits]
    rfl

end

/-! ## O58: sent whole, abandoned -/

theorem exec_sentWhole {f : Frame} (ticks : Nat) (attempt : s.line.attempt = some f) :
    exec (.sentWhole ticks) s = .next (sentWhole f (advance ticks s)) := by
  have sent : exec (.sentWhole ticks) s = .next (settled s (sentWhole f (advance ticks s))) := by
    show settle s (match (advance ticks s).line.attempt with | some f => sentWhole f (advance ticks s) | none => advance ticks s) = _
    rw [show (advance ticks s).line.attempt = some f from attempt]
    rfl
  rw [sent]
  unfold sentWhole clearCarried
  split <;> exact congrArg Host.Outcome.next (settled_eq (n := ticks) rfl rfl)

/-- The state of an offer gone, the error count one up. -/
def offerGone (count : Nat) (s : State) : State :=
  s.setSched { s.sched with offered := none, refreshDue := false } |>.setLine { s.line with attempt := none, txErr := count }

theorem exec_abandoned {f : Frame} (ticks : Nat) (attempt : s.line.attempt = some f) :
    exec (.abandoned ticks) s = .next (settled s (abandon f (advance ticks s))) := by
  show settle s (match (advance ticks s).line.attempt with | some f => abandon f (advance ticks s) | none => advance ticks s) = _
  rw [show (advance ticks s).line.attempt = some f from attempt]
  rfl

theorem abandoned_below {f : Frame} (ticks : Nat) (attempt : s.line.attempt = some f) (below : s.line.txErr < 31) :
    exec (.abandoned ticks) s = .next (offerGone (s.line.txErr + 1) (advance ticks s)) := by
  have count : satAdd 32 s.line.txErr 1 = s.line.txErr + 1 := by
    rw [satAdd]
    omega
  have gone : abandon f (advance ticks s) = offerGone (s.line.txErr + 1) (advance ticks s) := by
    show (if satAdd 32 s.line.txErr 1 = 32 then _ else offerGone (satAdd 32 s.line.txErr 1) (advance ticks s)) = _
    rw [count, if_neg (by omega)]
  rw [exec_abandoned ticks attempt, gone]
  exact congrArg Host.Outcome.next (settled_eq (n := ticks) rfl rfl)

theorem abandoned_lineOff {f : Frame} (ticks : Nat) (attempt : s.line.attempt = some f) (last : s.line.txErr = 31)
    (on : s.onLine = true) (free : s.latchable .lineOff = true) (fatal : s.isFatal .lineOff = true) :
    ∃ t, exec (.abandoned ticks) s = .next t ∧ t.cycle.state = .silent ∧ t.line.txErr = 32 ∧
      t.isLatched .lineOff = true ∧ t.sched.offered = none ∧ t.line.attempt = none := by
  let v := offerGone 32 (advance ticks s)
  let r : Report := ⟨.lineOff, none, some (capturedHeader f)⟩
  have gone : abandon f (advance ticks s) = report r v := by
    show (if satAdd 32 s.line.txErr 1 = 32 then report r (offerGone (satAdd 32 s.line.txErr 1) (advance ticks s)) else _) = _
    rw [last]
    rfl
  obtain ⟨-, -, -, silences⟩ := fatalKindOutcome r v fatal free
  obtain ⟨silent, noAttempt, offered, -, beaconQ, -⟩ := silences rfl on
  have still : settled s (report r v) = report r v :=
    settled_of_no_beacon s (by rw [Sched.waitsBeacon, beaconQ]; rfl) (by rw [Sched.offersBeacon, offered]; rfl)
  refine ⟨_, exec_abandoned ticks attempt, ?_⟩
  rw [gone, still]
  exact ⟨silent, congrArg (·.1) (keeps_report (reportKeeps_counts v.line.counts) r (t := v) rfl),
    report_latched (r := r) ((latchable_iff _ _).1 free).1, offered, noAttempt⟩

theorem outcomes_of_free (ticks : Nat) (free : s.line.attempt = none) :
    exec (.sentWhole ticks) s = .next (advance ticks s) ∧ exec (.lostContention ticks) s = .next (advance ticks s) ∧
    exec (.abandoned ticks) s = .next (advance ticks s) := by
  have none_ : (advance ticks s).line.attempt = none := free
  have same : settle s (advance ticks s) = .next (advance ticks s) := by rw [settle_next, settled_advance]
  refine ⟨?_, ?_, ?_⟩
  · show settle s (match (advance ticks s).line.attempt with | some f => sentWhole f (advance ticks s) | none => advance ticks s) = _
    rw [none_]
    exact same
  · show settle s (if (advance ticks s).line.attempt.isSome then lostContention (advance ticks s) else advance ticks s) = _
    rw [none_]
    exact same
  · show settle s (match (advance ticks s).line.attempt with | some f => abandon f (advance ticks s) | none => advance ticks s) = _
    rw [none_]
    exact same

/-! ## O58 -/

/-- Settles O58. -/
theorem attemptsAndOutcomes : Obligations.AttemptsAndOutcomes := by
  intro ticks s u drives entry ready lost
  have readies (c : PhaseClass) : entryReady s c = true ↔ ready c := by
    cases c <;> simp [entryReady, ready, Option.isSome_iff_ne_none]
  have busy (c : PhaseClass) : entryReady s c = false ↔ ¬ ready c := by rw [← readies, Bool.not_eq_true]
  refine ⟨fun free on => ⟨fun o offered => lineIdle_kept ticks free on offered, fun f offered waits => lineIdle_abort ticks free on offered waits,
    fun offered abort nothing => lineIdle_nothing ticks free on offered abort (findEntry_of_none fun j small => (busy _).2 (nothing j small)),
    fun j offered abort small readied before => ?_⟩, fun f attempt => ?_, fun free => outcomes_of_free ticks free⟩
  · have found := findEntry_of_first small ((readies _).2 readied) fun i early => (busy _).2 (before i early)
    intro at_ next
    have chooses {o : Offer} := lineIdle_chosen (o := o) ticks free on offered abort found
    refine ⟨fun f class_ queue => ?_, fun f rest class_ queue => ?_, fun f rest class_ queue => ?_⟩
    · have taken : offerFrom at_ (entry j) u.sched = { next with beaconQ := none, offered := some ⟨f, at_⟩ } := by
        rw [class_, offerFrom, show u.sched.beaconQ = some f from queue]
      exact (chooses (congrArg Sched.offered taken)).trans (by rw [show offerFrom _ (phaseEntry s _) _ = _ from taken]; rfl)
    · have taken : offerFrom at_ (entry j) u.sched = { next with sliceQ := rest, offered := some ⟨f, at_⟩ } := by
        rw [class_, offerFrom, show u.sched.sliceQ = f :: rest from queue]
      exact (chooses (congrArg Sched.offered taken)).trans (by rw [show offerFrom _ (phaseEntry s _) _ = _ from taken]; rfl)
    · have taken : offerFrom at_ (entry j) u.sched = { next with reportQ := rest, offered := some ⟨f, at_⟩ } := by
        rw [class_, offerFrom, show u.sched.reportQ = f :: rest from queue]
      exact (chooses (congrArg Sched.offered taken)).trans (by rw [show offerFrom _ (phaseEntry s _) _ = _ from taken]; rfl)
  · intro gone
    refine ⟨fun other => ?_, fun beacon => ?_, fun o offered => ?_, abandoned_below ticks attempt, abandoned_lineOff ticks attempt⟩
    · rw [exec_sentWhole ticks attempt, sentWhole, clearCarried, if_neg other]
      rfl
    · rw [exec_sentWhole ticks attempt, sentWhole, clearCarried, if_pos beacon]
      rfl
    · intro kept
      refine ⟨fun abort other => lost_of_other ticks attempt offered other abort, fun a abort slice => ?_, fun a abort report => ?_,
        fun a abort class_ => ?_, fun join late => lost_of_late ticks attempt offered join late, fun beacon stays => ?_⟩
      · rw [lost_of_displaced ticks attempt offered (by rw [slice]; decide) abort, returnOffer, slice]
        rfl
      · rw [lost_of_displaced ticks attempt offered (by rw [report]; decide) abort, returnOffer, report]
        rfl
      · rw [lost_of_displaced ticks attempt offered (by rw [class_]; decide) abort, returnOffer, class_]
        rfl
      · intro due frame marked
        have newest : frame = s.sched.beaconQ.getD (if due then beaconFrame u else o.frame) := by
          have pick (x : Option Frame) (y : Frame) : (match x with | some f => f | none => y) = x.getD y := by cases x <;> rfl
          exact pick _ _
        obtain ⟨quiet, displaced⟩ := lost_of_beacon ticks attempt offered beacon stays
        rw [newest]
        exact ⟨quiet, displaced⟩

end Sys2Proof.Machine
end

section
/-! STALENESS_TIMER_EXPIRY (O56). -/

namespace Sys2Proof.Machine

variable {s t u w : State}

theorem writes_report (r : Report) (t : State) : Writes reportBlocks t (report r t) :=
  ⟨by simp, by rintro ⟨⟩ <;> simp [sameBlock, reportBlocks]⟩

/-! ## What a report leaves of a station in a cycle -/

theorem spindleReleased_of_same (number : u.cycle.number = t.cycle.number) (roster : u.cycle.roster = t.cycle.roster)
    (peers : u.peers = t.peers) : t.spindleReleased = u.spindleReleased := by
  have releases : t.releasesSpindle = u.releasesSpindle := by
    funext p
    rw [State.releasesSpindle, State.releasesSpindle, number]
  have marked : t.rosterPeers = u.rosterPeers := by
    simp only [State.rosterPeers, State.inRoster, roster, peers]
  rw [State.spindleReleased, State.spindleReleased, releases, marked]

/-- The spindle hold is as a roster's QUENCH peers leave it. -/
def HeldAnew (t : State) : Prop := t.role = some .travel → t.travel.spindleHold = !t.spindleReleased

/-- Cycle Control and the Travel Engine stand as in `w`, or the station has gone to ABORTED with its spindle hold begun anew, or to
SILENT. -/
def StandsOrHalts (w t : State) : Prop :=
  (t.cycle = w.cycle ∧ t.travel = w.travel ∧ t.inCycle = true) ∨ (t.cycle.state = .aborted ∧ HeldAnew t) ∨ t.cycle.state = .silent

/-- A second entry to ABORTED leaves the spindle hold. -/
theorem heldAnew_enterAborted {c : AbortCause} (aborted : t.cycle.state = .aborted) (held : HeldAnew t) : HeldAnew (enterAborted c t) := by
  have rest : ¬ t.inCycle = true := by simp [State.inCycle, aborted, StationState.inCycle]
  intro role
  have hold : (enterAborted c t).travel.spindleHold = t.travel.spindleHold := by
    rw [enterAborted, if_neg rest]
    rfl
  rw [hold, held ((role_of_loader (by simp)).symm.trans role)]
  exact congrArg (!·) (spindleReleased_of_same (by simp) (by simp) (by simp))

theorem reportKeeps_standsOrHalts (w : State) : ReportKeeps (StandsOrHalts w) where
  sched _ h := h
  line _ h := h
  latch _ _ h := h
  aborted {t} c on h := by
    refine .inr (.inl ⟨enterAborted_state _ _, ?_⟩)
    rcases h with ⟨-, -, cycle⟩ | ⟨aborted, held⟩ | silent
    · exact fun role => enterAborted_spindleHold c cycle ((role_of_loader (by simp)).symm.trans role)
    · exact heldAnew_enterAborted aborted held
    · exact absurd silent ((onLine_iff _).1 on).2
  silent k _ h := .inr (.inr (enterSilent_state _ _))

/-! ## What a changed entry brings -/

theorem notifyPower_of_live {p : Peer} (live : p.live = true) : notifyPower p t = t := if_neg fun h => by simp [live] at h

theorem writes_notifyPower (p : Peer) (t : State) : Writes [.power] t (notifyPower p t) := by
  unfold notifyPower
  split
  · exact writes_zeroPower t
  · exact writes_refl _ t

theorem notifyTravel_of_other {p : Peer} (other : t.inRoster p.number = false) : notifyTravel p t = t := if_neg (by simp [other])

theorem notifyCycle_of_other {p : Peer} {beacon : Bool} (other : t.inRoster p.number = false) : notifyCycle p beacon t = t :=
  if_neg (by simp [other])

/-- A change of no roster entry is at most the loss of the tracked peer. -/
theorem notifyPeer_of_other {p : Peer} {beacon : Bool} (other : t.inRoster p.number = false) : notifyPeer p beacon t = notifyPower p t := by
  rw [notifyPeer, notifyCycle_of_other other, notifyTravel_of_other other]

/-- A change of a roster entry releases the spindle hold where no roster QUENCH peer holds it. -/
theorem notifyTravel_spindleHold {p : Peer} (marked : t.inRoster p.number = true) :
    (notifyTravel p t).travel.spindleHold = (t.travel.spindleHold && !t.spindleReleased) := by
  rw [notifyTravel, if_pos marked, recomputeTarget, testSpindleHold]
  split <;> rfl

theorem notifyTravel_target {p : Peer} (marked : t.inRoster p.number = true) (runs : t.runs .travel = true) :
    (notifyTravel p t).travel.target = travelTarget t := by
  rw [notifyTravel, if_pos marked, recomputeTarget, if_pos runs]
  rfl

theorem notifyPeer_roster (p : Peer) (t : State) : (notifyPeer p false t).cycle.roster = t.cycle.roster := by
  rcases notifyPeer_cycle p t with e | ⟨-, e⟩
  · exact congrArg Cycle.roster e
  · exact (congrArg Cycle.roster e).trans rfl

theorem notifyPeer_spindleHold {p : Peer} (marked : t.inRoster p.number = true) :
    (notifyPeer p false t).travel.spindleHold = (t.travel.spindleHold && !(notifyPeer p false t).spindleReleased) := by
  let c := notifyCycle p false t
  have cycled : Writes [.cycle] t c := writes_notifyCycle_lost p t
  have roster : c.inRoster p.number = true := by
    rw [State.inRoster, ← notifyPeer_lost_cycle, notifyPeer_roster]
    exact marked
  have wrote : Writes [.travel, .power] c (notifyPeer p false t) :=
    writes_trans (ws := [.power]) (by decide) (writes_mono (by decide) (writes_notifyTravel p c)) (writes_notifyPower p _)
  have cycle : (notifyPeer p false t).cycle = c.cycle := wrote.2 .cycle (by decide)
  have peers : (notifyPeer p false t).peers = c.peers := wrote.2 .peers (by decide)
  have travel : c.travel = t.travel := cycled.2 .travel (by decide)
  rw [notifyPeer_lost_travel, notifyTravel_spindleHold roster, travel, spindleReleased_congr cycle peers]

theorem travelTarget_of_rosterLost (lost : t.rosterLost = true) : travelTarget t = 0 := by
  rw [travelTarget, State.travels, lost]
  simp

/-! ## The loss of a peer -/

section
variable {p : Peer} {n : StationNo}

/-- The table with the peer lost. -/
def lostIn (p : Peer) (u : State) : State := u.setPeers (putPeer (lose p) u.peers)

/-- The blocks told of the loss. -/
def lossNotified (p : Peer) (u : State) : State := notifyPeer (lose p) false (lostIn p u)

theorem losePeer_eq (p : Peer) (u : State) : losePeer p u = reportLost p.number (lossNotified p u) := rfl

theorem writes_lossNotified (p : Peer) (u : State) : Writes [.cycle, .travel, .power] (lostIn p u) (lossNotified p u) :=
  writes_notifyPeer_of_not_beacon _ _

theorem writes_reportLost (n : StationNo) (t : State) : Writes reportBlocks t (reportLost n t) := by
  unfold reportLost
  split
  · exact writes_report _ t
  · exact writes_refl _ t

theorem writes_losePeer (p : Peer) (u : State) : Writes reportBlocks (lostIn p u) (losePeer p u) :=
  writes_trans (ws := reportBlocks) (by decide) (writes_mono (by decide) (writes_lossNotified p u)) (writes_reportLost _ _)

theorem keeps_reportLost {P : State → Prop} (keeps : ReportKeeps P) (n : StationNo) (h : P t) : P (reportLost n t) := by
  unfold reportLost
  split
  · exact keeps_report keeps _ h
  · exact h

theorem lossNotified_inCycle (state : u.cycle.state = .starting ∨ u.cycle.state = .scanning) :
    (lossNotified p u).cycle.state = .starting ∨ (lossNotified p u).cycle.state = .scanning := by
  rcases notifyPeer_cycle (lose p) (lostIn p u) with e | ⟨-, e⟩
  · rw [show (lossNotified p u).cycle = u.cycle from e]
    exact state
  · exact .inr (congrArg Cycle.state (show (lossNotified p u).cycle = _ from e))

theorem lossNotified_roster : (lossNotified p u).cycle.roster = u.cycle.roster := notifyPeer_roster _ _

/-- A peer lost in STARTING or SCANNING leaves its station there, or it goes to ABORTED or SILENT. -/
theorem losePeer_standsOrHalts (state : u.cycle.state = .starting ∨ u.cycle.state = .scanning) :
    StandsOrHalts (lossNotified p u) (losePeer p u) := by
  refine keeps_reportLost (reportKeeps_standsOrHalts _) _ (.inl ⟨rfl, rfl, (inCycle_iff _).2 ?_⟩)
  exact (lossNotified_inCycle state).imp_right .inl

theorem losePeer_of_rest (rests : ¬ (u.cycle.state = .starting ∨ u.cycle.state = .scanning)) :
    losePeer p u = lossNotified p u ∧ (lossNotified p u).cycle = u.cycle := by
  have cycle : (lossNotified p u).cycle = u.cycle := by
    rcases notifyPeer_cycle (lose p) (lostIn p u) with e | ⟨starting, -⟩
    · exact e
    · exact absurd (.inl starting) rests
  refine ⟨if_neg fun h => rests ?_, cycle⟩
  rw [← cycle]
  exact h.1

theorem losePeer_of_other (other : u.inRoster p.number = false) : losePeer p u = notifyPower (lose p) (lostIn p u) := by
  have notified : lossNotified p u = notifyPower (lose p) (lostIn p u) := notifyPeer_of_other other
  rw [losePeer_eq, notified]
  refine if_neg fun h => ?_
  have cycle : (notifyPower (lose p) (lostIn p u)).cycle = u.cycle := (writes_notifyPower _ _).2 .cycle (by decide)
  have marked := h.2
  rw [State.inRoster, cycle] at marked
  rw [State.inRoster, marked] at other
  cases other

theorem lostIn_peer (entry : u.peer n = some p) (m : StationNo) : (lostIn p u).peer m = if n = m then some (lose p) else u.peer m :=
  peer_putPeer_of (show (lose p).number = n from (peer_some entry).2) m

/-- The loss of a roster peer in SCANNING leaves the carriage no speed. -/
theorem losePeer_target (entry : u.peer n = some p) (role : u.role = some .travel) (scanning : u.cycle.state = .scanning)
    (marked : u.inRoster n = true) : (losePeer p u).travel.target = 0 := by
  let v := lostIn p u
  have number : (lose p).number = n := (peer_some entry).2
  have rests : notifyCycle (lose p) false v = v := by
    have idle : testBarrier v = v := if_neg fun h => by
      have starting : u.cycle.state = .starting := h.1
      rw [scanning] at starting
      cases starting
    rw [notifyCycle, idle]
    exact ite_self _
  have runs : v.runs .travel = true := (runs_iff _ _).2 ⟨role, by show u.cycle.state ≠ _; rw [scanning]; decide⟩
  have marked' : v.inRoster (lose p).number = true := by rw [number]; exact marked
  have lost : v.rosterLost = true := by
    obtain ⟨mem, own⟩ := peer_some ((lostIn_peer entry n).trans (if_pos rfl))
    exact List.any_eq_true.2 ⟨lose p, List.mem_filter.2 ⟨mem, by rw [own]; exact marked⟩, rfl⟩
  have target : (lossNotified p u).travel.target = 0 := by
    show (notifyPeer (lose p) false v).travel.target = 0
    rw [notifyPeer_lost_travel, rests, notifyTravel_target marked' runs, travelTarget_of_rosterLost lost]
  have state : (lossNotified p u).inCycle = true := by
    refine (inCycle_iff _).2 ?_
    exact (lossNotified_inCycle (.inr scanning)).imp_right .inl
  obtain ⟨⟨hold, move, travel⟩, -⟩ := keeps_reportLost (reportKeeps_travelStandsAs (lossNotified p u).travel) p.number
    (t := lossNotified p u) ⟨⟨_, _, rfl⟩, .inl state⟩
  rw [losePeer_eq, travel]
  exact target

/-- The loss of the tracked peer puts the power command out. -/
theorem losePeer_powerZeroed (tracked : u.tracker.tracked = some p.number) (runs : u.runs .power = true) : PowerZeroed (losePeer p u) := by
  refine keeps_reportLost reportKeeps_powerZeroed _ ?_
  let v := notifyTravel (lose p) (notifyCycle (lose p) false (lostIn p u))
  have wrote : Writes [.cycle, .travel] (lostIn p u) v :=
    writes_trans (ws := [.travel]) (by decide) (writes_mono (by decide) (writes_notifyCycle_lost _ _)) (writes_notifyTravel _ _)
  have tracker : v.tracker = u.tracker := wrote.2 .tracker (by decide)
  have state : v.cycle.state ≠ .offline := by
    obtain ⟨-, on⟩ := (runs_iff u _).1 runs
    have cycle : v.cycle = (lossNotified p u).cycle := ((writes_notifyPower (lose p) v).2 .cycle (by decide)).symm
    rw [cycle]
    rcases notifyPeer_cycle (lose p) (lostIn p u) with e | ⟨-, e⟩
    · rw [show (lossNotified p u).cycle = u.cycle from e]
      exact on
    · rw [show (lossNotified p u).cycle = _ from e]
      exact fun no => by cases no
  have runs' : v.runs .power = true :=
    (runs_iff v _).2 ⟨(role_of_loader (wrote.2 .loader (by decide))).trans ((runs_iff u _).1 runs).1, state⟩
  have zeroed : lossNotified p u = zeroPower v := if_pos ⟨by rw [tracker]; exact tracked, rfl⟩
  show PowerZeroed (lossNotified p u)
  rw [zeroed]
  exact powerZeroed_zeroPower runs'

theorem losePeer_latched (state : u.cycle.state = .starting ∨ u.cycle.state = .scanning) (marked : u.inRoster p.number = true)
    (mask : u.isMasked .peerLost = false) : (losePeer p u).isLatched .peerLost = true := by
  have taken : losePeer p u = report ⟨.peerLost, some p.number, none⟩ (lossNotified p u) := by
    refine if_pos ⟨lossNotified_inCycle state, ?_⟩
    exact (congrArg (·.getLsbD p.number.toNat) lossNotified_roster).trans marked
  rw [taken]
  refine report_latched (r := ⟨.peerLost, some p.number, none⟩) ?_
  rw [isMasked_of_settings ((writes_lossNotified p u).2 .settings (by decide))]
  exact mask

/-- A LOST roster peer holds the start barrier open. -/
theorem lossNotified_waits (entry : u.peer n = some p) (marked : u.inRoster n = true)
    (zero : n ≠ 0) (top : n ≠ 15) (own : n ≠ u.loader.number) : (lossNotified p u).cycle = u.cycle := by
  let v := lostIn p u
  have waits : v.barrierComplete = false := by
    refine Bool.eq_false_iff.2 fun complete => ?_
    obtain ⟨q, at_, live, -⟩ := barrierComplete_iff.1 complete n zero top own marked
    rw [lostIn_peer entry, if_pos rfl, Option.some.injEq] at at_
    subst at_
    cases live
  show (notifyPeer (lose p) false v).cycle = u.cycle
  rw [notifyPeer_lost_cycle, notifyCycle]
  show (if v.inRoster (lose p).number = true then testBarrier v else v).cycle = u.cycle
  rw [testBarrier_of_open waits, ite_self]
  rfl

end

/-! ## O56 -/

theorem exec_stalenessTimerExpiry {n : StationNo} {p : Peer} (ticks : Nat) (entry : (advance ticks s).peer n = some p)
    (live : p.live = true) (due : p.stale = some 0) :
    exec (.stalenessTimerExpiry ticks n) s = .next (settled s (losePeer p (advance ticks s))) := by
  have taken : execStalenessTimerExpiry ticks n s =
      settle s (if p.live && Timer.due p.stale then losePeer p (advance ticks s) else advance ticks s) := by
    unfold execStalenessTimerExpiry
    dsimp only
    rw [entry]
  refine taken.trans (congrArg (settle s) (if_pos ?_))
  rw [live, (due_iff _).2 due]
  rfl

theorem exec_stalenessTimerExpiry_of_not {n : StationNo} (ticks : Nat)
    (rests : ∀ p, (advance ticks s).peer n = some p → p.live = false ∨ p.stale ≠ some 0) :
    exec (.stalenessTimerExpiry ticks n) s = .next (advance ticks s) := by
  have same : settle s (advance ticks s) = .next (advance ticks s) := by rw [settle_next, settled_advance]
  show execStalenessTimerExpiry ticks n s = _
  unfold execStalenessTimerExpiry
  dsimp only
  cases entry : (advance ticks s).peer n with
  | none => exact same
  | some p =>
    have stays : ¬ (p.live && Timer.due p.stale) = true := fun h => by
      obtain ⟨live, due⟩ := Bool.and_eq_true_iff.1 h
      exact (rests p entry).elim (fun lost => by simp [lost] at live) fun runs => runs ((due_iff _).1 due)
    exact (congrArg (settle s) (if_neg stays)).trans same

/-- Settles O56. -/
theorem stalenessExpiry : Obligations.StalenessExpiry := by
  intro ticks n s u
  refine ⟨fun p entry live due => ?_, exec_stalenessTimerExpiry_of_not ticks⟩
  have number : p.number = n := (peer_some entry).2
  have wrote := writes_losePeer p u
  let t := settled s (losePeer p u)
  have peers (m : StationNo) : t.peer m = if n = m then some (lose p) else u.peer m := by
    rw [← lostIn_peer entry]
    exact peer_congr ((settled_peers _ _).trans (wrote.2 .peers (by decide))) m
  have released : t.spindleReleased = (losePeer p u).spindleReleased :=
    spindleReleased_congr (settled_cycle _ _).symm (settled_peers _ _).symm
  refine ⟨t, exec_stalenessTimerExpiry ticks entry live due, (peers n).trans (if_pos rfl), fun m apart => (peers m).trans (if_neg (Ne.symm apart)),
    fun tracked role on => ?_, fun state marked mask => ?_, fun role scanning marked => ?_, fun marked same => ?_,
    fun marked role rests aborted => ?_, fun marked starting safe => ?_, fun other => ?_, fun rests => ?_, ?_, ?_⟩
  · have zeroed : PowerZeroed (losePeer p u) := losePeer_powerZeroed (by rw [number]; exact tracked) ((runs_iff _ _).2 ⟨role, on⟩)
    exact powerZeroed_same zeroed (settled_power _ _)
  · rw [settled_isLatched]
    exact losePeer_latched state (by rw [number]; exact marked) mask
  · rw [settled_travel]
    exact losePeer_target entry role scanning marked
  · have marked' : (lostIn p u).inRoster (lose p).number = true := by rw [show (lose p).number = n from number]; exact marked
    have held : (lossNotified p u).travel.spindleHold = (s.travel.spindleHold && !(lossNotified p u).spindleReleased) :=
      notifyPeer_spindleHold marked'
    have stands : (losePeer p u).cycle = (lossNotified p u).cycle ∧ (losePeer p u).travel = (lossNotified p u).travel := by
      by_cases state : u.cycle.state = .starting ∨ u.cycle.state = .scanning
      case neg => rw [(losePeer_of_rest state).1]; exact ⟨rfl, rfl⟩
      case pos =>
        have same' : (losePeer p u).cycle.state = u.cycle.state := (congrArg Cycle.state (settled_cycle _ _)).symm.trans same
        rcases losePeer_standsOrHalts (p := p) state with ⟨cycle, travel, -⟩ | ⟨aborted, -⟩ | silent
        · exact ⟨cycle, travel⟩
        · rw [← same', aborted] at state
          exact absurd state (by decide)
        · rw [← same', silent] at state
          exact absurd state (by decide)
    have peers' : (losePeer p u).peers = (lossNotified p u).peers :=
      (wrote.2 .peers (by decide)).trans ((writes_lossNotified p u).2 .peers (by decide)).symm
    obtain ⟨cycle, travel⟩ := stands
    rw [settled_travel, travel, held, released, spindleReleased_congr cycle peers']
  · have aborted' : (losePeer p u).cycle.state = .aborted := (congrArg Cycle.state (settled_cycle _ _)).symm.trans aborted
    have held : HeldAnew (losePeer p u) := by
      by_cases state : u.cycle.state = .starting ∨ u.cycle.state = .scanning
      case neg =>
        obtain ⟨same, cycle⟩ := losePeer_of_rest (p := p) state
        rw [same, cycle] at aborted'
        exact absurd aborted' rests
      case pos =>
        rcases losePeer_standsOrHalts (p := p) state with ⟨cycle, -⟩ | ⟨-, held⟩ | silent
        · have runs := lossNotified_inCycle (p := p) state
          rw [← cycle, aborted'] at runs
          exact absurd runs (by decide)
        · exact held
        · rw [aborted'] at silent
          cases silent
    rw [settled_travel, held ((role_of_loader (wrote.2 .loader (by decide))).trans role), released]
  · obtain ⟨-, numbers, -⟩ := safe
    obtain ⟨q, at_, passed⟩ : ∃ q, s.peer n = some q ∧ Peer.pass ticks q = p := by
      have entry' := entry
      rw [show u.peer n = _ from advance_peer ticks s n] at entry'
      simpa using entry'
    obtain ⟨mem, own⟩ := peer_some at_
    obtain ⟨zero, top, other⟩ := numbers q mem
    rw [own] at zero top other
    have apart : n ≠ u.loader.number := by
      rintro rfl
      exact other (if_neg fun h => h.elim zero top)
    have waits := lossNotified_waits entry marked zero top apart
    rw [settled_cycle]
    rcases losePeer_standsOrHalts (p := p) (u := u) (.inl starting) with ⟨cycle, -⟩ | ⟨aborted, -⟩ | silent
    · rw [cycle, waits, show u.cycle.state = .starting from starting]
      decide
    · rw [aborted]
      decide
    · rw [silent]
      decide
  · have told := losePeer_of_other (p := p) (u := u) (by rw [number]; exact other)
    have power := writes_notifyPower (lose p) (lostIn p u)
    rw [settled_cycle, settled_travel, settled_fault, told]
    exact ⟨power.2 .cycle (by decide), power.2 .travel (by decide), power.2 .fault (by decide)⟩
  · obtain ⟨same, cycle⟩ := losePeer_of_rest (p := p) (u := u) fun h => h.elim rests.1 rests.2
    rw [settled_cycle, settled_fault, same]
    exact ⟨(writes_lossNotified p u).2 .fault (by decide), cycle⟩
  · rw [settled_tracker]
    exact wrote.2 .tracker (by decide)
  · rw [settled_store]
    exact wrote.2 .store (by decide)

end Sys2Proof.Machine
end

section
/-! The layouts of a BEACON and a JOIN (O59). -/

namespace Sys2Proof.Machine

variable {s t u : State}

/-! ## Codes -/

theorem stagingCode_lt (g : StagingState) : stagingCode g < 4 := by cases g <;> decide
theorem commitCheckCode_lt (c : CommitCheck) : commitCheckCode c < 8 := by cases c <;> decide
theorem resultCode_lt (c : ResultCode) : resultCode c < 16 := by cases c <;> decide
theorem kindCode_lt (k : Kind) : kindCode k < 64 := by cases k <;> decide

theorem roleOfCode_some {n : Nat} {r : Role} (role : roleOfCode n = some r) : n = roleCode r := by
  unfold roleOfCode at role
  split at role
  · cases role; rfl
  · cases role; rfl
  · cases role; rfl
  · cases role

theorem roleOfCode_roleCode (r : Role) : roleOfCode (roleCode r) = some r := by cases r <;> rfl

theorem ownRoleCode_of_role {r : Role} (role : s.role = some r) : s.ownRoleCode = roleCode r := roleOfCode_some role

theorem roleCode_lt (r : Role) : roleCode r < 4 := by cases r <;> decide

theorem beaconStateOfCode_stateCode {x : StationState} (shown : x = .idle ∨ x = .armed ∨ x.inCycle = true ∨ x = .aborted) :
    beaconStateOfCode (stateCode x) = some x := by
  cases x
  case offline => simp [StationState.inCycle] at shown
  case joining => simp [StationState.inCycle] at shown
  case silent => simp [StationState.inCycle] at shown
  all_goals rfl

theorem summaryOf_code (m : Summary) : summaryOf (summaryCode m) = m := by
  obtain ⟨fatal, nonFatal, hold⟩ := m
  cases fatal <;> cases nonFatal <;> cases hold <;> rfl

/-! ## Words -/

/-- Word 0 of a BEACON: role, state, the two role marks, cycle number. -/
theorem beaconHeader_fields {role state : Nat} (a b : Bool) (number : Nat) (role_lt : role < 4) (state_lt : state < 16) :
    let w := toWord (put 14 2 role + put 10 4 state + (putFlag 8 a + putFlag 9 b) + put 0 8 number)
    bitsOf w 15 14 = role ∧ bitsOf w 13 10 = state ∧ bitsOf w 7 0 = number % 256 ∧ bitsOf w 8 8 = a.toNat ∧ bitsOf w 9 9 = b.toNat := by
  have first := Bool.toNat_lt a
  have second := Bool.toNat_lt b
  simp only [bitsOf_toWord, put, putFlag_eq]
  refine ⟨?_, ?_, ?_, ?_, ?_⟩ <;> omega

/-- Word 2 of a BEACON: an absent check leaves index 63 and code 0, absent clamps no mark. -/
theorem stagingWord_eq (g : Staging) : stagingWord g = toWord (put 14 2 (stagingCode g.state) +
    (put 8 6 ((g.check.bind (·.index)).getD 63) + put 4 3 ((g.check.map (commitCheckCode ·.check)).getD 0)) +
    (putFlag 2 (g.clamps.any (·.pulse)) + putFlag 1 (g.clamps.any (·.blend)) + putFlag 0 (g.clamps.any (·.speed)))) := by
  obtain ⟨_, _, _, check, clamps, _⟩ := g
  cases check <;> cases clamps <;> simp [stagingWord, put, putFlag]

theorem stagingWord_fields (g : Staging) :
    bitsOf (stagingWord g) 15 14 = stagingCode g.state ∧
    bitsOf (stagingWord g) 13 8 = ((g.check.bind (·.index)).map (· % 64)).getD 63 ∧
    bitsOf (stagingWord g) 6 4 = (g.check.map (commitCheckCode ·.check)).getD 0 ∧
    bitsOf (stagingWord g) 2 2 = (g.clamps.any (·.pulse)).toNat ∧ bitsOf (stagingWord g) 1 1 = (g.clamps.any (·.blend)).toNat ∧
    bitsOf (stagingWord g) 0 0 = (g.clamps.any (·.speed)).toNat := by
  have state := stagingCode_lt g.state
  have index : ((g.check.bind (·.index)).map (· % 64)).getD 63 = (g.check.bind (·.index)).getD 63 % 64 := by
    cases g.check.bind (·.index) <;> rfl
  have check : (g.check.map (commitCheckCode ·.check)).getD 0 < 8 := by
    cases g.check with
    | none => decide
    | some c => exact commitCheckCode_lt c.check
  have pulse := Bool.toNat_lt (g.clamps.any (·.pulse))
  have blend := Bool.toNat_lt (g.clamps.any (·.blend))
  have speed := Bool.toNat_lt (g.clamps.any (·.speed))
  rw [stagingWord_eq, index]
  simp only [bitsOf_toWord, put, putFlag_eq]
  refine ⟨?_, ?_, ?_, ?_, ?_, ?_⟩ <;> omega

theorem lastWord_fields (last : Option (Kind × ResultCode)) (m : Summary) :
    bitsOf (lastWord last m) 13 8 = (last.map (kindCode ·.1)).getD 0 ∧ bitsOf (lastWord last m) 3 0 = (last.map (resultCode ·.2)).getD 0 ∧
    bitsOf (lastWord last m) 6 6 = m.fatal.toNat ∧ bitsOf (lastWord last m) 5 5 = m.nonFatal.toNat ∧
    bitsOf (lastWord last m) 4 4 = m.hold.toNat ∧ bitsOf (lastWord last m) 6 4 = summaryCode m := by
  have fatal := Bool.toNat_lt m.fatal
  have nonFatal := Bool.toNat_lt m.nonFatal
  have hold := Bool.toNat_lt m.hold
  cases last with
  | none =>
    simp only [lastWord, bitsOf_toWord, put, putFlag_eq, summaryCode, Option.map_none, Option.getD_none]
    refine ⟨?_, ?_, ?_, ?_, ?_, ?_⟩ <;> omega
  | some x =>
    have kind := kindCode_lt x.1
    have result := resultCode_lt x.2
    simp only [lastWord, bitsOf_toWord, put, putFlag_eq, summaryCode, Option.map_some, Option.getD_some]
    refine ⟨?_, ?_, ?_, ?_, ?_, ?_⟩ <;> omega

/-- A signed quantity in range is read back from its two words. -/
theorem s32_of_wordsOfInt {ws : List Word} {i : Nat} {z : Int} (words : [wordAt ws i, wordAt ws (i + 1)] = wordsOfInt z)
    (low : -2147483648 ≤ z) (high : z < 2147483648) : s32 ws i = z := by
  obtain ⟨first, second⟩ : wordAt ws i = toWord ((BitVec.ofInt 32 z).toNat / 65536) ∧
      wordAt ws (i + 1) = toWord ((BitVec.ofInt 32 z).toNat % 65536) := by
    simpa [wordsOfInt] using words
  have small := (BitVec.ofInt 32 z).isLt
  have whole : u32 ws i = (BitVec.ofInt 32 z).toNat := by
    rw [u32, u16, u16, first, second, toNat_toWord, toNat_toWord]
    omega
  rw [s32, whole, BitVec.ofNat_toNat, BitVec.setWidth_eq, BitVec.toInt_ofInt]
  exact Int.bmod_eq_of_le (by omega) (by omega)

/-! ## BEACON -/

/-- Word `i` of the BEACON a station builds. -/
def beaconWord (s : State) (i : Nat) : Word := (beaconFrame s).words.getD i 0

/-- The fields every role's BEACON has, and the two role marks. -/
theorem beaconWord_common {r : Role} {a b : Bool} (role : s.role = some r) (flags : roleFlagBits s = putFlag 8 a + putFlag 9 b) :
    bitsOf (beaconWord s 0) 15 14 = roleCode r ∧ bitsOf (beaconWord s 0) 13 10 = stateCode s.cycle.state ∧
    bitsOf (beaconWord s 0) 7 0 = s.cycle.number % 256 ∧ bitsOf (beaconWord s 0) 8 8 = a.toNat ∧ bitsOf (beaconWord s 0) 9 9 = b.toNat := by
  have word : beaconWord s 0 =
      toWord (put 14 2 (roleCode r) + put 10 4 (stateCode s.cycle.state) + (putFlag 8 a + putFlag 9 b) + put 0 8 s.cycle.number) := by
    rw [← flags, ← ownRoleCode_of_role role]
    rfl
  have state := stateCode_lt s.cycle.state
  rw [word]
  exact beaconHeader_fields a b s.cycle.number (roleCode_lt r) (by omega)

theorem beaconWord_recipe : (beaconWord s 1).toNat = (s.store.active.map (·.header.recipe % 65536)).getD 0 := by
  have word : beaconWord s 1 = toWord s.armedRecipe := rfl
  rw [word, toNat_toWord, State.armedRecipe]
  cases s.store.active <;> rfl

theorem beaconWord_marks : bitsOf (beaconWord s 4) 15 8 = s.interlock.drop.toNat ∧ bitsOf (beaconWord s 4) 7 0 = s.line.rxErr % 256 := by
  have word : beaconWord s 4 = toWord (put 8 8 s.interlock.drop.toNat + put 0 8 s.line.rxErr) := rfl
  have drop : s.interlock.drop.toNat < 256 := s.interlock.drop.isLt
  rw [word]
  simp only [bitsOf_toWord, put]
  omega

theorem roleFlagBits_of_travel (role : s.role = some .travel) : roleFlagBits s = putFlag 8 s.travel.atSpeed + putFlag 9 false := by
  rw [roleFlagBits, role]
  rfl

theorem roleFlagBits_of_power (role : s.role = some .power) : roleFlagBits s = putFlag 8 s.power.clamped + putFlag 9 false := by
  rw [roleFlagBits, role]
  rfl

theorem roleFlagBits_of_quench (role : s.role = some .quench) :
    roleFlagBits s = putFlag 8 s.quench.flood + putFlag 9 (s.quench.ceiling == 0) := by
  rw [roleFlagBits, role]

theorem roleFlagBits_of_role {r : Role} (role : s.role = some r) : ∃ a b, roleFlagBits s = putFlag 8 a + putFlag 9 b := by
  cases r
  · exact ⟨_, _, roleFlagBits_of_travel role⟩
  · exact ⟨_, _, roleFlagBits_of_power role⟩
  · exact ⟨_, _, roleFlagBits_of_quench role⟩

theorem beaconWord_tail {l : List Word} (tail : roleWords s = l) (i : Nat) : beaconWord s (5 + i) = l.getD i 0 := by
  subst tail
  show ((_ :: _ :: _ :: _ :: _ :: roleWords s).getD (5 + i) 0) = _
  rw [Nat.add_comm 5 i]
  rfl

theorem beaconFrame_length {l : List Word} (tail : roleWords s = l) : (beaconFrame s).words.length = 5 + l.length := by
  subst tail
  show (_ :: _ :: _ :: _ :: _ :: roleWords s).length = _
  simp only [List.length_cons]
  omega

/-- A position over two words. -/
def ShowsPosition (s : State) (x : Nat) : Prop := bitsOf (beaconWord s 5) 2 0 = x / 65536 % 8 ∧ (beaconWord s 6).toNat = x % 65536

theorem roleWords_of_travel (role : s.role = some .travel) :
    roleWords s = [toWord (put 0 3 (s.tracker.estimate / 65536)), toWord s.tracker.estimate, toWord s.tracker.measured] := by
  rw [roleWords, role]

theorem roleWords_of_power (role : s.role = some .power) :
    roleWords s = [toWord (put 4 2 s.settings.stage + put 0 3 (s.tracker.tool / 65536)), toWord s.tracker.tool] ++
      wordsOfInt s.settings.toolOffset ++ [toWord s.power.command, toWord s.power.ceiling] := by
  rw [roleWords, role]

theorem roleWords_of_quench (role : s.role = some .quench) :
    roleWords s = [toWord (put 10 6 s.quench.nFlushed + put 4 6 s.quench.entries.length + put 0 3 (s.tracker.tool / 65536)),
     toWord s.tracker.tool, toWord s.quench.nCreated, toWord s.quench.nJudged, toWord s.quench.nGood,
     toWord s.quench.nRejected, toWord s.quench.nLate] := by
  rw [roleWords, role]

theorem beacon_travel (role : s.role = some .travel) :
    (beaconFrame s).words.length = 8 ∧ bitsOf (beaconWord s 0) 8 8 = s.travel.atSpeed.toNat ∧ ShowsPosition s s.tracker.estimate ∧
    (beaconWord s 7).toNat = s.tracker.measured % 65536 := by
  have tail := roleWords_of_travel role
  obtain ⟨-, -, -, mark, -⟩ := beaconWord_common role (roleFlagBits_of_travel role)
  refine ⟨beaconFrame_length tail, mark, ⟨?_, ?_⟩, ?_⟩
  · rw [beaconWord_tail tail 0]
    simp only [List.getD_cons_zero, bitsOf_toWord, put]
    omega
  · rw [beaconWord_tail tail 1]
    exact toNat_toWord _
  · rw [beaconWord_tail tail 2]
    exact toNat_toWord _

theorem beacon_power (role : s.role = some .power) :
    (beaconFrame s).words.length = 11 ∧ bitsOf (beaconWord s 0) 8 8 = s.power.clamped.toNat ∧ ShowsPosition s s.tracker.tool ∧
    bitsOf (beaconWord s 5) 5 4 = s.settings.stage % 4 ∧ (beaconWord s 9).toNat = s.power.command % 65536 ∧
    (beaconWord s 10).toNat = s.power.ceiling % 65536 ∧ [beaconWord s 7, beaconWord s 8] = wordsOfInt s.settings.toolOffset := by
  have tail := roleWords_of_power role
  obtain ⟨-, -, -, mark, -⟩ := beaconWord_common role (roleFlagBits_of_power role)
  refine ⟨beaconFrame_length tail, mark, ⟨?_, ?_⟩, ?_, ?_, ?_, ?_⟩
  · rw [beaconWord_tail tail 0]
    show bitsOf (toWord (put 4 2 s.settings.stage + put 0 3 (s.tracker.tool / 65536))) 2 0 = _
    simp only [bitsOf_toWord, put]
    omega
  · rw [beaconWord_tail tail 1]
    exact toNat_toWord _
  · rw [beaconWord_tail tail 0]
    show bitsOf (toWord (put 4 2 s.settings.stage + put 0 3 (s.tracker.tool / 65536))) 5 4 = _
    simp only [bitsOf_toWord, put]
    omega
  · rw [beaconWord_tail tail 4]
    exact toNat_toWord _
  · rw [beaconWord_tail tail 5]
    exact toNat_toWord _
  · rw [beaconWord_tail tail 2, beaconWord_tail tail 3]
    rfl

theorem beacon_quench (role : s.role = some .quench) :
    (beaconFrame s).words.length = 12 ∧ bitsOf (beaconWord s 0) 8 8 = s.quench.flood.toNat ∧
    bitsOf (beaconWord s 0) 9 9 = (if s.quench.ceiling = 0 then 1 else 0) ∧ ShowsPosition s s.tracker.tool ∧
    bitsOf (beaconWord s 5) 15 10 = s.quench.nFlushed % 64 ∧ bitsOf (beaconWord s 5) 9 4 = s.quench.entries.length % 64 ∧
    (beaconWord s 7).toNat = s.quench.nCreated % 65536 ∧ (beaconWord s 8).toNat = s.quench.nJudged % 65536 ∧
    (beaconWord s 9).toNat = s.quench.nGood % 65536 ∧ (beaconWord s 10).toNat = s.quench.nRejected % 65536 ∧
    (beaconWord s 11).toNat = s.quench.nLate % 65536 := by
  have tail := roleWords_of_quench role
  obtain ⟨-, -, -, mark, ceiling⟩ := beaconWord_common role (roleFlagBits_of_quench role)
  have stopped : (s.quench.ceiling == 0).toNat = if s.quench.ceiling = 0 then 1 else 0 := by
    by_cases zero : s.quench.ceiling = 0 <;> simp [zero]
  have word : beaconWord s 5 =
      toWord (put 10 6 s.quench.nFlushed + put 4 6 s.quench.entries.length + put 0 3 (s.tracker.tool / 65536)) :=
    beaconWord_tail tail 0
  refine ⟨beaconFrame_length tail, mark, ceiling.trans stopped, ⟨?_, ?_⟩, ?_, ?_, ?_, ?_, ?_, ?_, ?_⟩
  · rw [word]
    simp only [bitsOf_toWord, put]
    omega
  · rw [beaconWord_tail tail 1]
    exact toNat_toWord _
  · rw [word]
    simp only [bitsOf_toWord, put]
    omega
  · rw [word]
    simp only [bitsOf_toWord, put]
    omega
  · exact (congrArg BitVec.toNat (beaconWord_tail tail 2)).trans (toNat_toWord _)
  · exact (congrArg BitVec.toNat (beaconWord_tail tail 3)).trans (toNat_toWord _)
  · exact (congrArg BitVec.toNat (beaconWord_tail tail 4)).trans (toNat_toWord _)
  · exact (congrArg BitVec.toNat (beaconWord_tail tail 5)).trans (toNat_toWord _)
  · exact (congrArg BitVec.toNat (beaconWord_tail tail 6)).trans (toNat_toWord _)

/-! ## What a receiver reads -/

theorem beaconOf_some {ws : List Word} {r : Role} {x : StationState} (role : roleOfCode (bitsOf (wordAt ws 0) 15 14) = some r)
    (state : beaconStateOfCode (bitsOf (wordAt ws 0) 13 10) = some x) :
    ∃ b, beaconOf ws = some b ∧ b.role = r ∧ b.state = x ∧ b.cycle = bitsOf (wordAt ws 0) 7 0 ∧
      b.summary = summaryOf (bitsOf (wordAt ws 3) 6 4) ∧ b.stage = bitsOf (wordAt ws 5) 5 4 ∧ b.toolOffset = s32 ws 7 ∧
      b.position = bitsOf (wordAt ws 5) 2 0 * 65536 + (wordAt ws 6).toNat ∧ b.speed = (wordAt ws 7).toNat ∧
      (r = .travel → b.data = none) ∧ (r = .power → b.data = some (.power (wordAt ws 10).toNat)) ∧
      (r = .quench → b.data = some (.quench (if bitsOf (wordAt ws 0) 9 9 = 1 then 0 else 65535) (bitsOf (wordAt ws 0) 8 8 == 1))) := by
  unfold beaconOf declaredRole
  rw [role, state]
  refine ⟨_, rfl, rfl, rfl, rfl, rfl, rfl, rfl, rfl, rfl, ?_, ?_, ?_⟩ <;> (rintro rfl; rfl)

/-- A BEACON of a station in IDLE to ABORTED is read as the station built it. -/
theorem beaconOf_beaconFrame {r : Role} (role : s.role = some r)
    (shown : s.cycle.state = .idle ∨ s.cycle.state = .armed ∨ s.inCycle = true ∨ s.cycle.state = .aborted) :
    ∃ b, beaconOf (beaconFrame s).words = some b ∧ b.role = r ∧ b.state = s.cycle.state ∧ b.cycle = s.cycle.number % 256 ∧
      b.summary = s.summary ∧
      (r = .travel → b.data = none ∧ b.position = s.tracker.estimate % 524288 ∧ b.speed = s.tracker.measured % 65536) ∧
      (r = .power → b.data = some (.power (s.power.ceiling % 65536)) ∧ b.stage = s.settings.stage % 4 ∧
        (-2147483648 ≤ s.settings.toolOffset ∧ s.settings.toolOffset < 2147483648 → b.toolOffset = s.settings.toolOffset)) ∧
      (r = .quench → b.data = some (.quench (if s.quench.ceiling = 0 then 0 else 65535) s.quench.flood)) := by
  obtain ⟨_, _, flags⟩ := roleFlagBits_of_role role
  obtain ⟨code, state, number, -⟩ := beaconWord_common role flags
  obtain ⟨-, -, -, -, -, summary⟩ := lastWord_fields s.cycle.last s.summary
  obtain ⟨b, read, role', state', cycle, summary', stage, offset, position, speed, travel, power, quench⟩ :=
    beaconOf_some (ws := (beaconFrame s).words) (r := r) (x := s.cycle.state)
      ((congrArg roleOfCode code).trans (roleOfCode_roleCode r))
      ((congrArg beaconStateOfCode state).trans (beaconStateOfCode_stateCode shown))
  refine ⟨b, read, role', state', cycle.trans number, summary'.trans ((congrArg summaryOf summary).trans (summaryOf_code _)), ?_, ?_, ?_⟩
  · rintro rfl
    obtain ⟨-, -, ⟨high, low⟩, measured⟩ := beacon_travel role
    refine ⟨travel rfl, ?_, speed.trans measured⟩
    have whole : b.position = s.tracker.estimate / 65536 % 8 * 65536 + s.tracker.estimate % 65536 := by
      rw [position, ← high, ← low]
      rfl
    omega
  · rintro rfl
    obtain ⟨-, -, -, stage', -, ceiling, words⟩ := beacon_power role
    refine ⟨(power rfl).trans (congrArg (fun c => some (RoleData.power c)) ceiling), stage.trans stage', fun ⟨low, high⟩ => ?_⟩
    exact offset.trans (s32_of_wordsOfInt words low high)
  · rintro rfl
    obtain ⟨-, flood, ceiling, -⟩ := beacon_quench role
    have mark : (bitsOf (wordAt (beaconFrame s).words 0) 8 8 == 1) = s.quench.flood := by
      rw [show bitsOf (wordAt (beaconFrame s).words 0) 8 8 = _ from flood]
      cases s.quench.flood <;> rfl
    have limit : (if bitsOf (wordAt (beaconFrame s).words 0) 9 9 = 1 then 0 else 65535) = if s.quench.ceiling = 0 then 0 else 65535 := by
      rw [show bitsOf (wordAt (beaconFrame s).words 0) 9 9 = _ from ceiling]
      by_cases zero : s.quench.ceiling = 0 <;> simp [zero]
    rw [quench rfl, mark, limit]

theorem joinOf_joinFrame {r : Role} (role : s.role = some r) (low : -2147483648 ≤ s.settings.toolOffset)
    (high : s.settings.toolOffset < 2147483648) :
    joinOf (joinFrame s).words = some
      { role := r, stage := if r = .power then s.settings.stage % 4 else 0, toolOffset := s.settings.toolOffset } := by
  let stage := if r = .power then s.settings.stage % 4 else 0
  have small : stage < 4 := by
    unfold stage
    split <;> omega
  have word : wordAt (joinFrame s).words 0 = toWord (roleCode r * 16384 + stage * 16) := by
    show toWord (put 14 2 s.ownRoleCode + if s.role = some .power then put 4 2 s.settings.stage else 0) = _
    have code := roleCode_lt r
    have own : put 14 2 (roleCode r) = roleCode r * 16384 := by
      simp only [put]
      omega
    rw [ownRoleCode_of_role role, role, own]
    by_cases power : r = .power
    · simp [stage, power, put]
    · simp [stage, power]
  have declared : bitsOf (wordAt (joinFrame s).words 0) 15 14 = roleCode r := by
    have code := roleCode_lt r
    rw [word, bitsOf_toWord]
    omega
  have staged : bitsOf (wordAt (joinFrame s).words 0) 5 4 = stage := by
    have code := roleCode_lt r
    rw [word, bitsOf_toWord]
    omega
  have offset : s32 (joinFrame s).words 1 = s.settings.toolOffset := s32_of_wordsOfInt rfl low high
  show (roleOfCode (bitsOf (wordAt (joinFrame s).words 0) 15 14)).map _ = _
  rw [declared, roleOfCode_roleCode, staged, offset]
  rfl

end Sys2Proof.Machine
end

section
/-! Beacon and JOIN timers, the end of the join window (O59). -/

namespace Sys2Proof.Machine

variable {s t u : State}

/-! ## No time passes twice -/

theorem timer_pass_zero (t : Timer) : Timer.pass 0 t = t := by cases t <;> rfl

/-- In a state that time has brought about no time passes in 0 ticks. -/
theorem advance_zero_of_advanced (n : Nat) (i : Interlock) (q : Sched) :
    advance 0 (((advance n s).setInterlock i).setSched q) = ((advance n s).setInterlock i).setSched q := by
  have fixed : advance 0 (advance n s) = advance n s := (advance_add n 0 s).symm
  have timers : q.pass 0 = q := by simp only [Sched.pass, timer_pass_zero]
  have edited : advance 0 (((advance n s).setInterlock i).setSched q) = ((advance 0 (advance n s)).setInterlock i).setSched (q.pass 0) := rfl
  rw [edited, fixed, timers]

/-! ## A frame placed, and its attempt -/

theorem idled_of_idle (idle : t.line.idle = true) (waits : t.line.rx = .waiting) : idled t = t := by
  have same : { t.line with idle := true, rx := .waiting } = t.line := by rw [← idle, ← waits]
  rw [idled, same]
  rfl

/-- A frame placed begins at once on an idle line, as LINE_IDLE would have it begin. -/
theorem begins_of {i : Instr} {n : Nat} (run : exec i s = .next (settled s (tryBegin t))) (cycle : t.cycle = (advance n s).cycle)
    (store : t.store = s.store) (line : t.line = s.line) (still : advance 0 t = t) :
    (s.mayBegin = false → exec i s = .next t) ∧
    (s.mayBegin = true → s.line.rx = .waiting → exec i s = exec (.lineIdle 0) t) := by
  have may : t.mayBegin = s.mayBegin := by
    rw [State.mayBegin, State.mayBegin, State.onLine, State.onLine, cycle, line]
    rfl
  have same : settled s (tryBegin t) = tryBegin t := settled_eq (n := n) (by rw [tryBegin_cycle, cycle]) (by rw [tryBegin_store, store])
  refine ⟨fun waits => ?_, fun begins quiet => ?_⟩
  · rw [run, same, tryBegin_of_not (may.trans waits)]
  · obtain ⟨-, idle, free⟩ := (mayBegin_iff t).1 (may.trans begins)
    rw [exec_lineIdle 0 free, still, idled_of_idle idle (by rw [line]; exact quiet), run, same]
    exact congrArg Host.Outcome.next (settled_eq (n := 0) (by rw [still, tryBegin_cycle]) (by rw [tryBegin_store])).symm

theorem placeBeacon_eq (on : t.onLine = true) (f : Frame) :
    placeBeacon f t = tryBegin (t.setSched (t.sched.placeBeacon f t.line.attempt.isSome)) := if_pos on

theorem placeBeacon_queued {q : Sched} {f : Frame} {attempt : Option Frame} (waits : q.offers .beacon = false ∨ attempt ≠ none) :
    q.placeBeacon f attempt.isSome = { q with beaconQ := some f } := by
  refine if_neg fun h => ?_
  obtain ⟨offers, free⟩ := Bool.and_eq_true_iff.1 h
  rcases waits with e | e
  · simp [e] at offers
  · exact e (by simpa using free)

theorem placeBeacon_replaced {q : Sched} {f : Frame} {attempt : Option Frame} {o : Offer} (offered : q.offered = some o)
    (beacon : classOf o.frame.kind = .beacon) (free : attempt = none) :
    q.placeBeacon f attempt.isSome = { q with offered := some { o with frame := f } } := by
  have offers : q.offers .beacon = true := by
    rw [Sched.offers, offered]
    exact beq_iff_eq.2 beacon
  rw [Sched.placeBeacon, offers, free, offered]
  rfl

/-! ## The timers -/

theorem exec_beaconTimerExpiry (ticks : Nat) (due : (advance ticks s).sched.beaconTimer = some 0) :
    exec (.beaconTimerExpiry ticks) s = .next (settled s (beaconDue (advance ticks s))) :=
  congrArg (settle s) (if_pos ((due_iff _).2 due))

theorem exec_joinTimerExpiry (ticks : Nat) (joining : s.cycle.state = .joining) (due : (advance ticks s).sched.joinTimer = some 0)
    (window : (advance ticks s).cycle.joinWindow ≠ some 0) :
    exec (.joinTimerExpiry ticks) s = .next (settled s (joinDue (advance ticks s))) :=
  congrArg (settle s) (if_pos ⟨joining, (due_iff _).2 due, Bool.eq_false_iff.2 fun ends => window ((due_iff _).1 ends)⟩)

/-! ## What the choice of an offer leaves -/

theorem offerFrom_stands (i : Nat) (c : PhaseClass) (q : Sched) :
    (offerFrom i c q).beaconTimer = q.beaconTimer ∧ (offerFrom i c q).joinTimer = q.joinTimer ∧
    ((offerFrom i c q).beaconQ = none ∨ (offerFrom i c q).beaconQ = q.beaconQ) := by
  unfold offerFrom
  cases c
  case beacon =>
    dsimp only
    split
    · exact ⟨rfl, rfl, .inl rfl⟩
    · exact ⟨rfl, rfl, .inr rfl⟩
  all_goals
    dsimp only
    split <;> exact ⟨rfl, rfl, .inr rfl⟩

theorem chosen_stands (t : State) :
    (chosen t).beaconTimer = t.sched.beaconTimer ∧ (chosen t).joinTimer = t.sched.joinTimer ∧
    ((chosen t).beaconQ = none ∨ (chosen t).beaconQ = t.sched.beaconQ) := by
  unfold chosen
  split
  · exact ⟨rfl, rfl, .inr rfl⟩
  · split
    · exact offerFrom_stands _ _ _
    · exact ⟨rfl, rfl, .inr rfl⟩

theorem tryBegin_stands (t : State) :
    (tryBegin t).sched.beaconTimer = t.sched.beaconTimer ∧ (tryBegin t).sched.joinTimer = t.sched.joinTimer ∧
    ((tryBegin t).sched.beaconQ = none ∨ (tryBegin t).sched.beaconQ = t.sched.beaconQ) := by
  rcases tryBegin_cases t with e | ⟨-, e⟩ <;> rw [e]
  · exact ⟨rfl, rfl, .inr rfl⟩
  · rw [State.setLine_sched, State.setSched_sched]
    split
    · exact chosen_stands t
    · exact ⟨rfl, rfl, .inr rfl⟩

/-- A refresh of beacons leaves the timers, and no other frame than a BEACON waits where it rebuilds. -/
theorem settled_stands (old t : State) :
    (settled old t).sched.beaconTimer = t.sched.beaconTimer ∧ (settled old t).sched.joinTimer = t.sched.joinTimer ∧
    ∀ f ∈ (settled old t).sched.beaconQ, f.kind = .beacon ∨ f ∈ t.sched.beaconQ := by
  rcases settled_cases old t with e | e | ⟨-, e⟩
  · rw [e]
    exact ⟨rfl, rfl, fun f mem => .inr mem⟩
  · rw [e]
    exact ⟨rfl, rfl, fun f mem => .inr mem⟩
  · rw [e]
    refine ⟨rfl, rfl, fun f mem => ?_⟩
    change f ∈ (if t.sched.waitsBeacon = true then some (beaconFrame t) else t.sched.beaconQ) at mem
    split at mem
    · cases mem
      exact .inl rfl
    · exact .inr mem

/-! ## Frames that are no JOIN -/

/-- Every frame that waits or is offered has the property. -/
def EveryFrame (P : Frame → Prop) (q : Sched) : Prop :=
  (∀ f ∈ q.abortQ, P f) ∧ (∀ f ∈ q.beaconQ, P f) ∧ (∀ f ∈ q.sliceQ, P f) ∧ (∀ f ∈ q.reportQ, P f) ∧ ∀ o ∈ q.offered, P o.frame

theorem offerFrom_everyFrame {P : Frame → Prop} {q : Sched} (i : Nat) (c : PhaseClass) (all : EveryFrame P q) : EveryFrame P (offerFrom i c q) := by
  have ⟨abort, beacon, slice, report, offered⟩ := all
  unfold offerFrom
  cases c
  case beacon =>
    dsimp only
    split
    case h_1 f e => exact ⟨abort, by simp, slice, report, fun o mem => by cases mem; exact beacon f e⟩
    case h_2 => exact all
  case slice =>
    dsimp only
    split
    case h_1 f rest e =>
      rw [e] at slice
      exact ⟨abort, beacon, fun g mem => slice g (List.mem_cons_of_mem _ mem), report, fun o mem => by
        cases mem; exact slice f List.mem_cons_self⟩
    case h_2 => exact all
  case report =>
    dsimp only
    split
    case h_1 f rest e =>
      rw [e] at report
      exact ⟨abort, beacon, slice, fun g mem => report g (List.mem_cons_of_mem _ mem), fun o mem => by
        cases mem; exact report f List.mem_cons_self⟩
    case h_2 => exact all

theorem chosen_everyFrame {P : Frame → Prop} (all : EveryFrame P t.sched) : EveryFrame P (chosen t) := by
  have ⟨abort, beacon, slice, report, offered⟩ := all
  unfold chosen
  split
  case h_1 f e => exact ⟨by simp, beacon, slice, report, fun o mem => by cases mem; exact abort f e⟩
  case h_2 =>
    split
    · exact offerFrom_everyFrame _ _ all
    · exact all

theorem tryBegin_everyFrame {P : Frame → Prop} (all : EveryFrame P t.sched) : EveryFrame P (tryBegin t).sched := by
  rcases tryBegin_cases t with e | ⟨-, e⟩ <;> rw [e]
  · exact all
  · rw [State.setLine_sched, State.setSched_sched]
    split
    · exact chosen_everyFrame all
    · exact all

/-- No JOIN is offered after a refresh of beacons where none was. -/
theorem settled_offered (old t : State) (others : ∀ o ∈ t.sched.offered, o.frame.kind ≠ .join) :
    ∀ o ∈ (settled old t).sched.offered, o.frame.kind ≠ .join := by
  rcases settled_cases old t with e | e | ⟨-, e⟩
  · rw [e]
    exact others
  · rw [e]
    exact others
  · rw [e]
    intro o mem
    change o ∈ (if ((t.sched.noteRefresh t.line.attempt.isSome).offersBeacon && !t.line.attempt.isSome) = true
      then t.sched.offered.map fun o => { o with frame := beaconFrame t } else t.sched.offered) at mem
    split at mem
    · obtain ⟨p, -, rfl⟩ := Option.map_eq_some_iff.1 mem
      exact fun e => by cases e
    · exact others o mem

/-! ## The end of the join window -/

theorem allFaultKinds_sorted : allFaultKinds.Pairwise fun a b => faultCode a < faultCode b := by decide

theorem mem_allFaultKinds (k : FaultKind) : k ∈ allFaultKinds := by cases k <;> decide

theorem lowestFatal_of_some (some_ : ∃ k, s.isLatched k = true ∧ s.isFatal k = true) :
    ∃ k, lowestFatal s = some k ∧ s.isLatched k = true ∧ s.isFatal k = true ∧
      ∀ k', s.isLatched k' = true → s.isFatal k' = true → faultCode k ≤ faultCode k' := by
  obtain ⟨k₀, latched₀, fatal₀⟩ := some_
  cases found : lowestFatal s with
  | none =>
    have none_ := List.find?_eq_none.1 found k₀ (mem_allFaultKinds k₀)
    simp [latched₀, fatal₀] at none_
  | some k =>
    have holds := List.find?_some found
    obtain ⟨latched, fatal⟩ := Bool.and_eq_true_iff.1 holds
    refine ⟨k, rfl, latched, fatal, fun k' latched' fatal' => ?_⟩
    obtain ⟨-, before, after, split_, earlier⟩ := List.find?_eq_some_iff_append.1 found
    have mem : k' ∈ before ++ k :: after := split_ ▸ mem_allFaultKinds k'
    have sorted := split_ ▸ allFaultKinds_sorted
    rcases List.mem_append.1 mem with early | late
    · have no := earlier k' early
      simp [latched', fatal'] at no
    · obtain ⟨-, onward, -⟩ := List.pairwise_append.1 sorted
      obtain ⟨above, -⟩ := List.pairwise_cons.1 onward
      rcases List.mem_cons.1 late with rfl | late
      · exact le_rfl
      · exact (above k' late).le

theorem lowestFatal_of_none (none_ : ∀ k, s.isLatched k = true → s.isFatal k = false) : lowestFatal s = none := by
  refine List.find?_eq_none.2 fun k _ both => ?_
  obtain ⟨latched, fatal⟩ := Bool.and_eq_true_iff.1 both
  rw [none_ k latched] at fatal
  cases fatal

/-- The station as the join window has ended, before its beacons begin. -/
def leftJoining (u : State) : State := leaveJoining (u.setSched (discardJoins u.line.attempt.isSome u.sched))

theorem exec_joinWindowEnd (ticks : Nat) (joining : s.cycle.state = .joining) (due : (advance ticks s).cycle.joinWindow = some 0) :
    exec (.joinWindowEnd ticks) s = .next (settled s (tryBegin (startBeaconTimer (leftJoining (advance ticks s))))) :=
  congrArg (settle s) (if_pos ⟨joining, (due_iff _).2 due⟩)

theorem leaveJoining_of_fatal {k : FaultKind} (lowest : lowestFatal t = some k) : leaveJoining t = enterAborted (.fault k) t := by
  rw [leaveJoining, lowest]

theorem leaveJoining_of_none (none_ : lowestFatal t = none) :
    leaveJoining t = enterIdle (t.setCycle { t.cycle with joinWindow := none }) := by
  rw [leaveJoining, none_]

theorem leaveJoining_stands (t : State) :
    (leaveJoining t).sched = t.sched ∧ (leaveJoining t).loader = t.loader ∧ (leaveJoining t).settings = t.settings ∧
    (leaveJoining t).cycle.joinWindow = none := by
  cases lowest : lowestFatal t with
  | none =>
    rw [leaveJoining_of_none lowest]
    exact ⟨by simp, by simp, by simp, by rw [enterIdle_cycle]; rfl⟩
  | some k =>
    rw [leaveJoining_of_fatal lowest]
    exact ⟨by simp, by simp, by simp, by rw [enterAborted_cycle]⟩

theorem leaveJoining_aborts {k : FaultKind} (joining : t.cycle.state = .joining) (lowest : lowestFatal t = some k) :
    (leaveJoining t).cycle.state = .aborted ∧ (leaveJoining t).quench.flood = t.quench.flood ∧
    (leaveJoining t).fault.cause = some (.fault k) := by
  rw [leaveJoining_of_fatal lowest]
  refine ⟨enterAborted_state _ _, ?_, enterAborted_cause _ _⟩
  have rest : ¬ t.inCycle = true := by simp [State.inCycle, joining, StationState.inCycle]
  rw [enterAborted, if_neg rest]
  rfl

theorem leaveJoining_idles (none_ : lowestFatal t = none) :
    (leaveJoining t).cycle.state = .idle ∧ (leaveJoining t).fault = t.fault := by
  rw [leaveJoining_of_none none_, enterIdle_cycle, enterIdle_fault]
  exact ⟨rfl, rfl⟩

theorem discardJoins_beaconQ (attempted : Bool) (q : Sched) : ∀ f ∈ (discardJoins attempted q).beaconQ, f.kind ≠ .join := by
  intro f mem
  obtain ⟨-, kept⟩ := Option.filter_eq_some_iff.1 mem
  simpa using kept

theorem ne_join_of_class {f : Frame} {c : FrameClass} (class_ : classOf f.kind = c) (other : c ≠ .beacon) : f.kind ≠ .join :=
  fun e => other (by rw [← class_, e]; rfl)

theorem discardJoins_everyFrame (safe : QueuesSafe s) : EveryFrame (fun f => f.kind ≠ .join) (discardJoins false s.sched) := by
  obtain ⟨abort, -, slice, report, -⟩ := safe
  refine ⟨fun f mem => ne_join_of_class (abort f mem) (by decide), discardJoins_beaconQ false s.sched,
    fun f mem => ne_join_of_class (slice f mem) (by decide), fun f mem => ne_join_of_class (report f mem) (by decide), fun o mem => ?_⟩
  obtain ⟨-, kept⟩ := Option.filter_eq_some_iff.1 mem
  simpa using kept

theorem joinWindow_end (ticks : Nat) (s : State) (joining : s.cycle.state = .joining) (due : (advance ticks s).cycle.joinWindow = some 0) :
    ∃ t, exec (.joinWindowEnd ticks) s = .next t ∧ t.cycle.joinWindow = none ∧
      ((∃ k, s.isLatched k = true ∧ s.isFatal k = true) → t.cycle.state = .aborted ∧ t.quench.flood = s.quench.flood ∧
        ∃ k, t.fault.cause = some (.fault k) ∧ s.isLatched k = true ∧ s.isFatal k = true ∧
          ∀ k', s.isLatched k' = true → s.isFatal k' = true → faultCode k ≤ faultCode k') ∧
      ((∀ k, s.isLatched k = true → s.isFatal k = false) → t.cycle.state = .idle ∧ t.fault = s.fault) ∧
      t.sched.beaconTimer = some (s.loader.number.toNat * (s.settings.beaconPeriod * 100) / 16 * 20) ∧
      t.sched.joinTimer = none ∧ (∀ f ∈ t.sched.beaconQ, f.kind ≠ .join) ∧
      (QueuesSafe s → s.line.attempt = none → ∀ o ∈ t.sched.offered, o.frame.kind ≠ .join) := by
  let u := advance ticks s
  let d := u.setSched (discardJoins u.line.attempt.isSome u.sched)
  let v := startBeaconTimer (leftJoining u)
  obtain ⟨sched, loader, settings, window⟩ := leaveJoining_stands d
  have queues : (leftJoining u).sched = discardJoins u.line.attempt.isSome u.sched := sched
  have lowest : lowestFatal d = lowestFatal s := rfl
  obtain ⟨beaconTimer, joinTimer, waits⟩ := tryBegin_stands v
  obtain ⟨beaconTimer', joinTimer', waits'⟩ := settled_stands s (tryBegin v)
  refine ⟨_, exec_joinWindowEnd ticks joining due, ?_, fun fatal => ?_, fun mild => ?_, ?_, ?_, fun f mem => ?_, fun safe free => ?_⟩
  · rw [settled_cycle, tryBegin_cycle]
    exact window
  · obtain ⟨k, found, latched, fatal, least⟩ := lowestFatal_of_some fatal
    obtain ⟨state, flood, cause⟩ := leaveJoining_aborts (t := d) joining (lowest.trans found)
    rw [settled_cycle, settled_quench, settled_fault, tryBegin_cycle, tryBegin_quench, tryBegin_fault]
    exact ⟨state, flood, k, cause, latched, fatal, least⟩
  · obtain ⟨state, fault⟩ := leaveJoining_idles (t := d) (lowest.trans (lowestFatal_of_none mild))
    rw [settled_cycle, settled_fault, tryBegin_cycle, tryBegin_fault]
    exact ⟨state, fault⟩
  · have stagger : staggerDelay (leftJoining u) = s.loader.number.toNat * (s.settings.beaconPeriod * 100) / 16 := by
      rw [staggerDelay, show (leftJoining u).loader = s.loader from loader, show (leftJoining u).settings = s.settings from settings]
    rw [beaconTimer', beaconTimer]
    exact congrArg timerUs stagger
  · rw [joinTimer', joinTimer]
    rfl
  · rcases waits' f mem with beacon | mem
    · rw [beacon]
      decide
    · rcases waits with empty | same
      · rw [empty] at mem
        cases mem
      · rw [same] at mem
        refine discardJoins_beaconQ u.line.attempt.isSome u.sched f ?_
        rw [← queues]
        exact mem
  · have idle : u.line.attempt.isSome = false := by rw [show u.line.attempt = none from free]; rfl
    have all : EveryFrame (fun f => f.kind ≠ .join) (leftJoining u).sched := by
      rw [queues, idle]
      exact discardJoins_everyFrame (s := u) safe
    have begun : EveryFrame (fun f => f.kind ≠ .join) (tryBegin v).sched := tryBegin_everyFrame all
    obtain ⟨-, -, -, -, offered⟩ := begun
    exact settled_offered s _ offered

/-! ## O59 -/

theorem beacons_and_joins (ticks : Nat) (s : State) :
    let u := advance ticks s
    let period := some (s.settings.beaconPeriod * 100 * 20)
    let begins := fun (i : Instr) (placed : State) =>
      (s.mayBegin = false → exec i s = .next placed) ∧
      (s.mayBegin = true → s.line.rx = .waiting → exec i s = exec (.lineIdle 0) placed)
    (u.sched.beaconTimer = some 0 → s.onLine = true →
      let marked := u.setInterlock { s.interlock with carried := s.interlock.drop }
      ((s.sched.offers .beacon = false ∨ s.line.attempt ≠ none) → begins (.beaconTimerExpiry ticks)
        (marked.setSched { u.sched with beaconTimer := period, beaconQ := some (beaconFrame u) })) ∧
      (∀ o, s.sched.offered = some o → classOf o.frame.kind = .beacon → s.line.attempt = none →
        begins (.beaconTimerExpiry ticks)
          (marked.setSched { u.sched with beaconTimer := period, offered := some { o with frame := beaconFrame u } }))) ∧
    (s.cycle.state = .joining → u.sched.joinTimer = some 0 → u.cycle.joinWindow ≠ some 0 →
      ((s.sched.offers .beacon = false ∨ s.line.attempt ≠ none) → begins (.joinTimerExpiry ticks)
        (u.setSched { u.sched with joinTimer := period, beaconQ := some (joinFrame u) })) ∧
      (∀ o, s.sched.offered = some o → classOf o.frame.kind = .beacon → s.line.attempt = none →
        begins (.joinTimerExpiry ticks)
          (u.setSched { u.sched with joinTimer := period, offered := some { o with frame := joinFrame u } }))) := by
  intro u period begins
  refine ⟨fun due on => ?_, fun joining due window => ?_⟩
  · intro marked
    let q : Sched := { u.sched with beaconTimer := period }
    have placed : beaconDue u = tryBegin (marked.setSched (q.placeBeacon (beaconFrame u) s.line.attempt.isSome)) :=
      placeBeacon_eq (t := markCarried (u.setSched q)) on _
    have run := exec_beaconTimerExpiry ticks due
    rw [show beaconDue (advance ticks s) = _ from placed] at run
    refine ⟨fun waits => ?_, fun o offered beacon free => ?_⟩
    · rw [placeBeacon_queued (q := q) waits] at run
      exact begins_of run rfl rfl rfl (advance_zero_of_advanced ticks _ _)
    · rw [placeBeacon_replaced (q := q) offered beacon free] at run
      exact begins_of run rfl rfl rfl (advance_zero_of_advanced ticks _ _)
  · let q : Sched := { u.sched with joinTimer := period }
    have on : u.onLine = true := (onLine_iff u).2 ⟨by rw [show u.cycle.state = _ from joining]; decide, by rw [show u.cycle.state = _ from joining]; decide⟩
    have placed : joinDue u = tryBegin (u.setSched (q.placeBeacon (joinFrame u) s.line.attempt.isSome)) :=
      placeBeacon_eq (t := u.setSched q) on _
    have run := exec_joinTimerExpiry ticks joining due window
    rw [show joinDue (advance ticks s) = _ from placed] at run
    refine ⟨fun waits => ?_, fun o offered beacon free => ?_⟩
    · rw [placeBeacon_queued (q := q) waits] at run
      exact begins_of run rfl rfl rfl (advance_zero_of_advanced ticks u.interlock _)
    · rw [placeBeacon_replaced (q := q) offered beacon free] at run
      exact begins_of run rfl rfl rfl (advance_zero_of_advanced ticks u.interlock _)

/-- Settles O59. -/
theorem beaconsAndJoins : Obligations.BeaconsAndJoins := by
  constructor
  · intro s r role f w g position offset
    refine ⟨?_, fun shown => beaconOf_beaconFrame role shown, rfl, rfl, rfl, rfl, fun ⟨low, high⟩ => joinOf_joinFrame role low high⟩
    obtain ⟨_, _, flags⟩ := roleFlagBits_of_role role
    obtain ⟨code, state, number, -⟩ := beaconWord_common role flags
    obtain ⟨staging, index, check, pulse, blend, speed⟩ := stagingWord_fields g
    obtain ⟨kind, result, fatal, nonFatal, hold, -⟩ := lastWord_fields s.cycle.last s.summary
    obtain ⟨drop, errors⟩ := beaconWord_marks (s := s)
    have recipe := beaconWord_recipe (s := s)
    refine ⟨rfl, rfl, rfl, code, state, number, recipe.trans (by cases s.store.active <;> rfl), staging,
      index.trans (by cases g.check.bind (·.index) <;> rfl), check.trans (by cases g.check <;> rfl), pulse, blend, speed, kind.trans (by cases s.cycle.last <;> rfl),
      result.trans (by cases s.cycle.last <;> rfl), fatal, nonFatal, hold, drop, errors, ?_, ?_, ?_⟩
    · rintro rfl
      exact beacon_travel role
    · rintro rfl
      obtain ⟨length, mark, place, stage, command, ceiling, -⟩ := beacon_power role
      exact ⟨length, mark, place, stage, command, ceiling⟩
    · rintro rfl
      exact beacon_quench role
  · intro ticks s u period begins
    have same : settle s u = .next u := by rw [settle_next, settled_advance]
    obtain ⟨beacon, join⟩ := beacons_and_joins ticks s
    refine ⟨beacon, fun early => ?_, join, fun idle => ?_, joinWindow_end ticks s, fun idle => ?_⟩
    · exact (congrArg (settle s) (if_neg fun due => early ((due_iff _).1 due))).trans same
    · refine (congrArg (settle s) (if_neg ?_)).trans same
      rintro ⟨joining, due, window⟩
      rcases idle with other | early | ends
      · exact other joining
      · exact early ((due_iff _).1 due)
      · rw [(due_iff _).2 ends] at window
        cases window
    · refine (congrArg (settle s) (if_neg ?_)).trans same
      rintro ⟨joining, due⟩
      exact idle.elim (fun other => other joining) fun early => early ((due_iff _).1 due)

end Sys2Proof.Machine
end

section
/-! The recipe frames and the Fault Unit's query (O53). -/

namespace Sys2Proof.Machine

variable {s t u : State}

/-! ## The FAULT RECORD -/

theorem classCode_lt (c : FrameClass) : classCode c < 16 := by cases c <;> decide

/-- Word `i` of the FAULT RECORD a station builds. -/
def recordWord (s : State) (i : Nat) : Word := (faultRecordFrame s).words.getD i 0

theorem recordWords1to5_length (x : Option FaultRecord) : (recordWords1to5 x).length = 5 := by cases x <;> rfl

theorem recordWords8to11_length (x : Option Snapshot) (n : Nat) : (recordWords8to11 x n).length = 4 := by cases x <;> rfl

theorem faultRecordFrame_words (s : State) :
    (faultRecordFrame s).words = recordWord0 s.fault.record s.line.dupSeen :: (recordWords1to5 s.fault.record ++
      (s.fault.latches :: recordWord7 s.fault :: recordWords8to11 (recordSnapshot s.fault.record) s.line.txErr)) := by
  simp [faultRecordFrame, State.ownFrame]

theorem faultRecordFrame_length (s : State) : (faultRecordFrame s).words.length = 12 := by
  rw [faultRecordFrame_words, List.length_cons, List.length_append, recordWords1to5_length, List.length_cons, List.length_cons,
    recordWords8to11_length]

theorem recordWord_zero : recordWord s 0 = recordWord0 s.fault.record s.line.dupSeen := by
  rw [recordWord, faultRecordFrame_words]
  rfl

theorem recordWord_early {i : Nat} (early : i < 5) : recordWord s (1 + i) = (recordWords1to5 s.fault.record).getD i 0 := by
  rw [recordWord, faultRecordFrame_words, Nat.add_comm 1 i, List.getD_cons_succ]
  exact List.getD_append _ _ _ _ (by rw [recordWords1to5_length]; exact early)

theorem recordWord_late (i : Nat) :
    recordWord s (6 + i) =
      (s.fault.latches :: recordWord7 s.fault :: recordWords8to11 (recordSnapshot s.fault.record) s.line.txErr).getD i 0 := by
  have place : 6 + i = (5 + i) + 1 := by omega
  rw [recordWord, faultRecordFrame_words, place, List.getD_cons_succ, List.getD_append_right _ _ _ _ (by rw [recordWords1to5_length]; omega),
    recordWords1to5_length, Nat.add_sub_cancel_left]

/-- Word 0 with the record empty. -/
theorem recordWord0_none (seen : Bool) :
    bitsOf (recordWord0 none seen) 15 15 = 0 ∧ bitsOf (recordWord0 none seen) 14 14 = seen.toNat ∧
    bitsOf (recordWord0 none seen) 13 0 = 15 * 256 := by
  have mark := Bool.toNat_lt seen
  simp only [recordWord0, bitsOf_toWord, put, putFlag_eq]
  omega

theorem recordWord0_some (r : FaultRecord) (seen : Bool) :
    bitsOf (recordWord0 (some r) seen) 15 15 = 1 ∧ bitsOf (recordWord0 (some r) seen) 14 14 = seen.toNat ∧
    bitsOf (recordWord0 (some r) seen) 13 13 = r.snapshot.isSome.toNat ∧
    bitsOf (recordWord0 (some r) seen) 12 12 = r.captured.isSome.toNat ∧
    bitsOf (recordWord0 (some r) seen) 11 8 = (r.related.getD 15).toNat ∧
    bitsOf (recordWord0 (some r) seen) 7 4 = stateCode r.state ∧ bitsOf (recordWord0 (some r) seen) 3 0 = faultCode r.kind := by
  have mark := Bool.toNat_lt seen
  have snapshot := Bool.toNat_lt r.snapshot.isSome
  have captured := Bool.toNat_lt r.captured.isSome
  have related : (r.related.getD 15).toNat < 16 := (r.related.getD 15).isLt
  have state := stateCode_lt r.state
  have kind := faultCode_lt r.kind
  simp only [recordWord0, bitsOf_toWord, put, putFlag_eq, Bool.toNat_true]
  refine ⟨?_, ?_, ?_, ?_, ?_, ?_, ?_⟩ <;> omega

theorem recordWord7_fields (f : FaultUnit) :
    bitsOf (recordWord7 f) 15 8 = min f.abortSeen 255 ∧ (f.cause = none → bitsOf (recordWord7 f) 7 0 = 0) ∧
    (∀ k, f.cause = some (.fault k) → bitsOf (recordWord7 f) 7 0 = 64 + faultCode k) ∧
    (∀ n, f.cause = some (.abortFrom n) → bitsOf (recordWord7 f) 7 0 = 192 + n.toNat) := by
  rcases cause : f.cause with _ | k | n
  · simp only [recordWord7, cause, bitsOf_toWord, put]
    refine ⟨by omega, fun _ => by omega, nofun, nofun⟩
  · have code := faultCode_lt k
    simp only [recordWord7, cause, bitsOf_toWord, put, putFlag_eq, Bool.toNat_true]
    refine ⟨by omega, nofun, fun _ e => ?_, nofun⟩
    cases e
    omega
  · have source := n.isLt
    simp only [recordWord7, cause, bitsOf_toWord, put, putFlag_eq, Bool.toNat_true]
    refine ⟨by omega, nofun, nofun, fun _ e => ?_⟩
    cases e
    omega

/-- Words 1 to 5 of a filled record. -/
theorem recordWords1to5_some {r : FaultRecord} (record : s.fault.record = some r) :
    (recordWord s 1).toNat * 65536 + (recordWord s 2).toNat = r.time.toNat ∧ bitsOf (recordWord s 3) 7 0 = r.cycle % 256 ∧
    bitsOf (recordWord s 4) 10 8 = r.estimate / 65536 % 8 ∧ (recordWord s 5).toNat = r.estimate % 65536 ∧
    (r.captured = none → bitsOf (recordWord s 3) 15 8 = 0 ∧ bitsOf (recordWord s 4) 5 0 = 0) ∧
    (∀ c, r.captured = some c → bitsOf (recordWord s 3) 15 12 = c.source.toNat ∧
      bitsOf (recordWord s 3) 11 8 = classCode (classOf c.kind) ∧ bitsOf (recordWord s 4) 5 0 = kindCode c.kind) := by
  have time := r.time.isLt
  have first : recordWord s 1 = toWord (r.time.toNat / 65536) := by rw [recordWord_early (i := 0) (by omega), record]; rfl
  have second : recordWord s 2 = toWord (r.time.toNat % 65536) := by rw [recordWord_early (i := 1) (by omega), record]; rfl
  have fifth : recordWord s 5 = toWord r.estimate := by rw [recordWord_early (i := 4) (by omega), record]; rfl
  have third := recordWord_early (s := s) (i := 2) (by omega)
  have fourth := recordWord_early (s := s) (i := 3) (by omega)
  rw [record] at third fourth
  simp only [recordWords1to5, List.getD_cons_succ, List.getD_cons_zero] at third fourth
  rw [first, second, fifth, third, fourth]
  cases captured : r.captured with
  | none =>
    simp only [bitsOf_toWord, toNat_toWord, put]
    exact ⟨by omega, by omega, by omega, trivial, fun _ => by omega, nofun⟩
  | some c =>
    have source := c.source.isLt
    have class_ := classCode_lt (classOf c.kind)
    have kind := kindCode_lt c.kind
    simp only [bitsOf_toWord, toNat_toWord, put]
    refine ⟨by omega, by omega, by omega, trivial, nofun, fun _ e => ?_⟩
    cases e
    refine ⟨?_, ?_, ?_⟩ <;> omega

theorem recordWord_of_empty (record : s.fault.record = none) (i : Nat) (low : 1 ≤ i) (high : i ≤ 5) : recordWord s i = 0 := by
  obtain ⟨j, rfl⟩ := Nat.exists_eq_add_of_le low
  rw [recordWord_early (by omega), record]
  have small : j < 5 := by omega
  match j, small with
  | 0, _ => rfl
  | 1, _ => rfl
  | 2, _ => rfl
  | 3, _ => rfl
  | 4, _ => rfl

/-- Words 8 to 11 without a snapshot. -/
theorem recordWords8to11_none (snapshot : recordSnapshot s.fault.record = none) :
    recordWord s 8 = 0 ∧ bitsOf (recordWord s 9) 7 0 = 0 ∧ bitsOf (recordWord s 9) 13 8 = s.line.txErr % 64 ∧ recordWord s 10 = 0 ∧
    recordWord s 11 = 0 := by
  have eighth := recordWord_late (s := s) 2
  have ninth := recordWord_late (s := s) 3
  have tenth := recordWord_late (s := s) 4
  have last := recordWord_late (s := s) 5
  rw [snapshot] at eighth ninth tenth last
  have word : recordWord s 9 = toWord (put 8 6 s.line.txErr) := ninth
  refine ⟨eighth, ?_, ?_, tenth, last⟩
  · rw [word]
    simp only [bitsOf_toWord, put]
    omega
  · rw [word]
    simp only [bitsOf_toWord, put]
    omega

theorem recordWords8to11_some {p : Snapshot} (snapshot : recordSnapshot s.fault.record = some p) :
    bitsOf (recordWord s 8) 15 14 = roleCode p.role ∧ bitsOf (recordWord s 8) 13 10 = stateCode p.state ∧
    bitsOf (recordWord s 8) 9 9 = p.live.toNat ∧ bitsOf (recordWord s 8) 6 6 = p.summary.fatal.toNat ∧
    bitsOf (recordWord s 8) 5 5 = p.summary.nonFatal.toNat ∧ bitsOf (recordWord s 8) 4 4 = p.summary.hold.toNat ∧
    bitsOf (recordWord s 9) 7 0 = p.cycle % 256 ∧ bitsOf (recordWord s 9) 13 8 = s.line.txErr % 64 ∧
    (recordWord s 10).toNat = p.recipe % 65536 ∧ (recordWord s 11).toNat = p.age % 65536 := by
  have eighth := recordWord_late (s := s) 2
  have ninth := recordWord_late (s := s) 3
  have tenth := recordWord_late (s := s) 4
  have last := recordWord_late (s := s) 5
  rw [snapshot] at eighth ninth tenth last
  simp only [recordWords8to11, List.getD_cons_succ, List.getD_cons_zero] at eighth ninth tenth last
  have role := roleCode_lt p.role
  have state := stateCode_lt p.state
  have live := Bool.toNat_lt p.live
  have fatal := Bool.toNat_lt p.summary.fatal
  have nonFatal := Bool.toNat_lt p.summary.nonFatal
  have hold := Bool.toNat_lt p.summary.hold
  rw [eighth, ninth, tenth, last]
  simp only [bitsOf_toWord, toNat_toWord, put, putFlag_eq, summaryCode, and_true]
  refine ⟨?_, ?_, ?_, ?_, ?_, ?_, ?_, ?_⟩ <;> omega

/-! ## Staging -/

theorem mem_insertSegment {x y : StagedSegment} {l : List StagedSegment}
    (sorted : l.Pairwise fun a b => a.segment.index < b.segment.index) :
    y ∈ insertSegment x l ↔ y = x ∨ (y ∈ l ∧ y.segment.index ≠ x.segment.index) := by
  induction l with
  | nil => simp [insertSegment]
  | cons z rest ih =>
    obtain ⟨above, sorted⟩ := List.pairwise_cons.1 sorted
    have apart : y ∈ rest → y.segment.index ≠ z.segment.index := fun mem => (above y mem).ne'
    unfold insertSegment
    split
    case isTrue below =>
      have free : y ∈ z :: rest → y.segment.index ≠ x.segment.index := fun mem => by
        rcases List.mem_cons.1 mem with rfl | mem
        · exact below.ne'
        · exact (below.trans (above y mem)).ne'
      rw [List.mem_cons]
      exact or_congr_right ⟨fun mem => ⟨mem, free mem⟩, fun h => h.1⟩
    case isFalse =>
      split
      case isTrue same =>
        rw [List.mem_cons, List.mem_cons]
        refine or_congr_right ⟨fun mem => ⟨.inr mem, same ▸ apart mem⟩, fun ⟨mem, other⟩ => mem.resolve_left ?_⟩
        rintro rfl
        exact other same.symm
      case isFalse other =>
        rw [List.mem_cons, List.mem_cons, ih sorted]
        constructor
        · rintro (rfl | rfl | ⟨mem, free⟩)
          · exact .inr ⟨.inl rfl, Ne.symm other⟩
          · exact .inl rfl
          · exact .inr ⟨.inr mem, free⟩
        · rintro (rfl | ⟨rfl | mem, free⟩)
          · exact .inr (.inl rfl)
          · exact .inl rfl
          · exact .inr (.inr ⟨mem, free⟩)

theorem insertSegment_self (x : StagedSegment) (l : List StagedSegment) : x ∈ insertSegment x l := by
  induction l with
  | nil => exact List.mem_cons_self
  | cons z rest ih =>
    unfold insertSegment
    split
    · exact List.mem_cons_self
    · split
      · exact List.mem_cons_self
      · exact List.mem_cons_of_mem _ ih

/-! ## COMMIT -/

theorem clampSetOf_iff (rated : Nat) (l : List StagedSegment) :
    let c := clampSetOf rated (l.map (·.segment))
    (c.blend = true ↔ ∃ y ∈ l, y.segment.stop - y.segment.start < y.segment.blend) ∧
    (c.speed = true ↔ ∃ y ∈ l, ∃ v, y.segment.fields = .travel v ∧ rated < v) ∧
    (c.pulse = true ↔ ∃ y ∈ l, ∃ q, y.segment.fields = .quench q ∧ (q.onTime = 0 ∨ q.offTime = 0)) := by
  intro c
  have speeds (g : Segment) : (clampsOf rated g).speed = true ↔ ∃ v, g.fields = .travel v ∧ rated < v := by
    unfold clampsOf
    cases g.fields <;> simp
  have pulses (g : Segment) : (clampsOf rated g).pulse = true ↔ ∃ q, g.fields = .quench q ∧ (q.onTime = 0 ∨ q.offTime = 0) := by
    unfold clampsOf
    cases g.fields <;> simp
  simp only [c, clampSetOf, List.any_map, List.any_eq_true, Function.comp, speeds, pulses]
  exact ⟨by simp [clampsOf], trivial, trivial⟩

/-! ## The frames taken -/

section
variable {ticks : Nat} {f : Rx} {r : Role} (role : s.role = some r)

theorem exec_recipeHeader (arrives : Arrives .recipeHeader f s) :
    exec (.recipeHeader ticks f) s = .next (settled s (takeHeader f.words (s.heard ticks))) :=
  congrArg (settle s) (receive_of_command ticks arrives rfl)

theorem exec_segment (arrives : Arrives .segment f s) :
    exec (.segment ticks f) s = .next (settled s (takeSegment f.words (s.heard ticks))) :=
  congrArg (settle s) (receive_of_command ticks arrives rfl)

theorem exec_commit (arrives : Arrives .commit f s) :
    exec (.commit ticks f) s = .next (settled s (takeCommit (u16 f.words 0) (u16 f.words 1) (s.heard ticks))) :=
  congrArg (settle s) (receive_of_command ticks arrives rfl)

theorem exec_faultQuery (arrives : Arrives .faultQuery f s) :
    exec (.faultQuery ticks f) s = .next (settled s (takeFaultQuery (s.heard ticks))) :=
  congrArg (settle s) (receive_of_command ticks arrives rfl)

include role

theorem takeSegment_of_other {ws : List Word} (other : bitsOf (wordAt ws 0) 13 12 ≠ roleCode r) : takeSegment ws s = s := by
  unfold takeSegment
  rw [role]
  exact if_pos other

theorem takeSegment_of_offLine {ws : List Word} (own : bitsOf (wordAt ws 0) 13 12 = roleCode r) (off : s.onLine = false) :
    takeSegment ws s = setResult .segment .refusedState s := by
  unfold takeSegment
  rw [role]
  exact (if_neg (not_not.2 own)).trans (if_neg (by simp [off]))

theorem takeSegment_of_onLine {ws : List Word} (own : bitsOf (wordAt ws 0) 13 12 = roleCode r) (on : s.onLine = true) :
    takeSegment ws s = storeStaging .segment (segmentResult ⟨segmentOf r ws, ws⟩ s.store.staging).1
      (segmentResult ⟨segmentOf r ws, ws⟩ s.store.staging).2 s := by
  unfold takeSegment
  rw [role]
  exact (if_neg (not_not.2 own)).trans (if_pos on)

theorem takeCommit_of_onLine (recipe sum : Nat) (on : s.onLine = true) :
    takeCommit recipe sum s = storeStaging .commit (commitResult r s.settings.ratedSpeed recipe sum s.store.staging).1
      (commitResult r s.settings.ratedSpeed recipe sum s.store.staging).2 s := by
  unfold takeCommit
  rw [on, role]

end

theorem takeCommit_of_offLine (recipe sum : Nat) (off : s.onLine = false) : takeCommit recipe sum s = setResult .commit .refusedState s := by
  unfold takeCommit
  rw [off]

theorem segmentResult_of_range {x : StagedSegment} {g : Staging} (range : 32 ≤ x.segment.index) :
    segmentResult x g = (g, .refusedRange) := if_pos range

theorem segmentResult_of_refused {x : StagedSegment} {g : Staging} (range : x.segment.index < 32)
    (state : g.state = .empty ∨ g.state = .valid) : segmentResult x g = (g, .refusedStaging) := by
  refine (if_neg (Nat.not_le.2 range)).trans ?_
  rcases state with e | e <;> rw [e]

theorem segmentResult_of_stored {x : StagedSegment} {g : Staging} (range : x.segment.index < 32)
    (state : g.state = .filling ∨ g.state = .bad) : segmentResult x g = (stageSegment x g, .accepted) := by
  refine (if_neg (Nat.not_le.2 range)).trans ?_
  rcases state with e | e <;> rw [e]

theorem commitResult_of_refused (r : Role) (rated recipe sum : Nat) {g : Staging} (state : g.state = .empty ∨ g.state = .valid) :
    commitResult r rated recipe sum g = (g, .refusedStaging) := by
  unfold commitResult
  rcases state with e | e <;> rw [e]

theorem commitResult_of_staged (r : Role) (rated recipe sum : Nat) {g : Staging} (state : g.state = .filling ∨ g.state = .bad) :
    commitResult r rated recipe sum g = commitStaged r rated recipe sum g := by
  unfold commitResult
  rcases state with e | e <;> rw [e]

theorem commitStaged_passes {r : Role} {rated recipe sum : Nat} {g : Staging} {h : StagedHeader} (header : g.header = some h)
    (passes : validateStaged r recipe sum h g.segments = none) :
    commitStaged r rated recipe sum g =
      ({ g with state := .valid, check := none, clamps := some (clampSetOf rated (g.segments.map (·.segment)))
                clamped := (g.segments.map (·.segment)).map (clampSegment rated) }, .accepted) := by
  rw [commitStaged, header]
  dsimp only
  rw [passes]

theorem commitStaged_fails {r : Role} {rated recipe sum : Nat} {g : Staging} {h : StagedHeader} {c : CheckResult} (header : g.header = some h)
    (fails : validateStaged r recipe sum h g.segments = some c) :
    commitStaged r rated recipe sum g = ({ g with state := .bad, check := some c, clamps := none, clamped := [] }, commitCode c.check) := by
  rw [commitStaged, header]
  dsimp only
  rw [fails]

/-! ## O53 -/

theorem faultRecord_layout (s : State) :
    let f := faultRecordFrame s
    let w := fun i : Nat => f.words.getD i 0
    let x := s.fault.record
    f.kind = .faultRecord ∧ f.source = s.loader.number ∧ f.destination = 0 ∧ f.words.length = 12 ∧
    bitsOf (w 0) 15 15 = x.isSome.toNat ∧ bitsOf (w 0) 14 14 = s.line.dupSeen.toNat ∧
    (w 6) = s.fault.latches ∧ bitsOf (w 7) 15 8 = min s.fault.abortSeen 255 ∧ bitsOf (w 9) 13 8 = s.line.txErr % 64 ∧
    (s.fault.cause = none → bitsOf (w 7) 7 0 = 0) ∧
    (∀ k, s.fault.cause = some (.fault k) → bitsOf (w 7) 7 0 = 64 + faultCode k) ∧
    (∀ n, s.fault.cause = some (.abortFrom n) → bitsOf (w 7) 7 0 = 192 + n.toNat) ∧
    (x = none → bitsOf (w 0) 13 0 = 15 * 256 ∧ (∀ i, 1 ≤ i → i ≤ 5 → w i = 0) ∧ w 8 = 0 ∧ bitsOf (w 9) 7 0 = 0 ∧ w 10 = 0 ∧
      w 11 = 0) ∧
    (∀ r, x = some r →
      bitsOf (w 0) 13 13 = r.snapshot.isSome.toNat ∧ bitsOf (w 0) 12 12 = r.captured.isSome.toNat ∧
      bitsOf (w 0) 11 8 = (match r.related with | some n => n.toNat | none => 15) ∧
      bitsOf (w 0) 7 4 = stateCode r.state ∧ bitsOf (w 0) 3 0 = faultCode r.kind ∧
      (w 1).toNat * 65536 + (w 2).toNat = r.time.toNat ∧ bitsOf (w 3) 7 0 = r.cycle % 256 ∧
      bitsOf (w 4) 10 8 = r.estimate / 65536 % 8 ∧ (w 5).toNat = r.estimate % 65536 ∧
      (r.captured = none → bitsOf (w 3) 15 8 = 0 ∧ bitsOf (w 4) 5 0 = 0) ∧
      (∀ c, r.captured = some c → bitsOf (w 3) 15 12 = c.source.toNat ∧
        bitsOf (w 3) 11 8 = classCode (classOf c.kind) ∧ bitsOf (w 4) 5 0 = kindCode c.kind) ∧
      (r.snapshot = none → w 8 = 0 ∧ bitsOf (w 9) 7 0 = 0 ∧ w 10 = 0 ∧ w 11 = 0) ∧
      ∀ p, r.snapshot = some p → bitsOf (w 8) 15 14 = roleCode p.role ∧ bitsOf (w 8) 13 10 = stateCode p.state ∧
        bitsOf (w 8) 9 9 = p.live.toNat ∧ bitsOf (w 8) 6 6 = p.summary.fatal.toNat ∧
        bitsOf (w 8) 5 5 = p.summary.nonFatal.toNat ∧ bitsOf (w 8) 4 4 = p.summary.hold.toNat ∧
        bitsOf (w 9) 7 0 = p.cycle % 256 ∧ (w 10).toNat = p.recipe % 65536 ∧ (w 11).toNat = p.age % 65536) := by
  intro f w x
  have first : w 0 = recordWord0 x s.line.dupSeen := recordWord_zero
  have seventh : w 7 = recordWord7 s.fault := recordWord_late 1
  obtain ⟨seen, noCause, byFault, byAbort⟩ := recordWord7_fields s.fault
  have errors : bitsOf (w 9) 13 8 = s.line.txErr % 64 := by
    cases snapshot : recordSnapshot s.fault.record with
    | none =>
      obtain ⟨-, -, errors, -⟩ := recordWords8to11_none snapshot
      exact errors
    | some p =>
      obtain ⟨-, -, -, -, -, -, -, errors, -⟩ := recordWords8to11_some snapshot
      exact errors
  have marks : bitsOf (w 0) 15 15 = x.isSome.toNat ∧ bitsOf (w 0) 14 14 = s.line.dupSeen.toNat := by
    rw [first]
    cases x with
    | none => exact ⟨(recordWord0_none _).1, (recordWord0_none _).2.1⟩
    | some r => exact ⟨(recordWord0_some r _).1, (recordWord0_some r _).2.1⟩
  refine ⟨rfl, rfl, rfl, faultRecordFrame_length s, marks.1, marks.2, recordWord_late 0, ?_, errors, ?_, ?_, ?_, fun empty => ?_,
    fun r record => ?_⟩
  · rw [seventh]
    exact seen
  · rw [seventh]
    exact noCause
  · rw [seventh]
    exact byFault
  · rw [seventh]
    exact byAbort
  · have snapshot : recordSnapshot s.fault.record = none := by rw [show s.fault.record = none from empty]; rfl
    obtain ⟨eighth, ninth, -, tenth, last⟩ := recordWords8to11_none snapshot
    obtain ⟨-, -, rest⟩ := recordWord0_none s.line.dupSeen
    refine ⟨?_, recordWord_of_empty empty, eighth, ninth, tenth, last⟩
    rw [first, empty]
    exact rest
  · obtain ⟨-, -, hasSnapshot, hasCaptured, related, state, kind⟩ := recordWord0_some r s.line.dupSeen
    obtain ⟨time, cycle, high, low, bare, captured⟩ := recordWords1to5_some record
    have snapshots : recordSnapshot s.fault.record = r.snapshot := by rw [show s.fault.record = some r from record]; rfl
    have named : (r.related.getD 15).toNat = match r.related with | some n => n.toNat | none => 15 := by
      cases r.related <;> rfl
    rw [first, record]
    refine ⟨hasSnapshot, hasCaptured, related.trans named, state, kind, time, cycle, high, low, bare, captured, fun none_ => ?_,
      fun p some_ => ?_⟩
    · obtain ⟨eighth, ninth, -, tenth, last⟩ := recordWords8to11_none (snapshots.trans none_)
      exact ⟨eighth, ninth, tenth, last⟩
    · obtain ⟨role, state, live, fatal, nonFatal, hold, cycle, -, recipe, age⟩ := recordWords8to11_some (snapshots.trans some_)
      exact ⟨role, state, live, fatal, nonFatal, hold, cycle, recipe, age⟩

/-- Settles O53. -/
theorem recipeFramesAndQuery : Obligations.RecipeFramesAndQuery := by
  refine ⟨faultRecord_layout, ?_⟩
  intro ticks f s r role u g result staged
  have role' : u.role = some r := role
  refine ⟨fun arrives on => ?_, fun arrives on own => ?_, fun arrives other => ?_, fun arrives on state => ?_,
    fun h arrives on state header => ?_, fun arrives waits => ?_, fun off => ⟨fun arrives => ?_, fun arrives own => ?_, fun arrives => ?_,
    fun arrives => ?_⟩⟩
  · have taken : takeHeader f.words u = storeStaging .recipeHeader (stageHeader f.words) .accepted u := if_pos on
    rw [exec_recipeHeader arrives, taken]
    rfl
  · intro i
    let x : StagedSegment := ⟨segmentOf r f.words, f.words⟩
    have taken : exec (.segment ticks f) s = .next (settled s (staged .segment (segmentResult x g).2 (segmentResult x g).1)) := by
      rw [exec_segment arrives, takeSegment_of_onLine role' own on]
      rfl
    refine ⟨fun range => ?_, fun range state => ?_, fun range state => ?_⟩
    · rw [taken, segmentResult_of_range (x := x) range]
    · rw [taken, segmentResult_of_refused (x := x) range state]
    · rw [segmentResult_of_stored (x := x) range state] at taken
      exact ⟨_, taken, rfl, rfl, rfl, insertSegment_self x _, fun sorted y => mem_insertSegment sorted⟩
  · rw [exec_segment arrives, takeSegment_of_other role' other]
    exact congrArg Host.Outcome.next (settled_eq (n := ticks) rfl rfl)
  · rw [exec_commit arrives, takeCommit_of_onLine role' _ _ on, commitResult_of_refused _ _ _ _ (show u.store.staging.state = _ ∨ _ from state)]
    rfl
  · intro failed
    have taken : exec (.commit ticks f) s = .next (settled s
        (staged .commit (commitStaged r s.settings.ratedSpeed (u16 f.words 0) (u16 f.words 1) g).2
          (commitStaged r s.settings.ratedSpeed (u16 f.words 0) (u16 f.words 1) g).1)) := by
      rw [exec_commit arrives, takeCommit_of_onLine role' _ _ on, commitResult_of_staged _ _ _ _ (show u.store.staging.state = _ ∨ _ from state)]
      rfl
    cases outcome : failed with
    | none =>
      rw [commitStaged_passes (recipe := u16 f.words 0) (sum := u16 f.words 1) header outcome] at taken
      exact ⟨{ g with
        state := .valid, check := none, clamps := some (clampSetOf s.settings.ratedSpeed (g.segments.map (·.segment)))
        clamped := (g.segments.map (·.segment)).map (clampSegment s.settings.ratedSpeed) }, rfl, rfl, rfl,
        fun _ => ⟨rfl, rfl, ⟨_, rfl, clampSetOf_iff _ _⟩, taken⟩, nofun⟩
    | some c =>
      rw [commitStaged_fails (recipe := u16 f.words 0) (sum := u16 f.words 1) header outcome] at taken
      refine ⟨{ g with state := .bad, check := some c, clamps := none, clamped := [] }, rfl, rfl, rfl, nofun, fun d e => ?_⟩
      cases e
      exact ⟨rfl, rfl, taken⟩
  · have queued : takeFaultQuery u = (result .faultQuery .accepted).setSched
        { u.sched with reportQ := s.sched.reportQ ++ [faultRecordFrame u] } := by
      obtain ⟨on, room, -⟩ := waits
      refine (if_pos on).trans ?_
      rw [handReport_of_room (t := setResult .faultQuery .accepted u) on room, pushReport, tryBegin_of_not]
      · rfl
      · simp [State.mayBegin, u, State.heard, endReception, setResult]
    rw [exec_faultQuery arrives, queued]
  · have taken : takeHeader f.words u = setResult .recipeHeader .refusedState u := if_neg (by simp [show u.onLine = false from off])
    rw [exec_recipeHeader arrives, taken]
    rfl
  · rw [exec_segment arrives, takeSegment_of_offLine role' own off]
    rfl
  · rw [exec_commit arrives, takeCommit_of_offLine (s := s.heard ticks) _ _ off]
    rfl
  · have taken : takeFaultQuery u = setResult .faultQuery .refusedState u := if_neg (by simp [show u.onLine = false from off])
    rw [exec_faultQuery arrives, taken]
    rfl

end Sys2Proof.Machine
end

section
/-! JOIN and BEACON (O55): role conflicts, and what an entry change keeps. -/

namespace Sys2Proof.Machine

variable {s t u : State}

/-! ## Role conflicts -/

theorem conflicts_iff (s : State) (n : StationNo) (role : Role) (stage : Nat) : conflicts s n role stage = true ↔
    (role = .travel ∧ (s.role = some .travel ∨ (∃ m, s.tracker.tracked = some m ∧ m ≠ n) ∨
      ∃ p ∈ s.peers, p.number ≠ n ∧ p.role = .travel)) ∨
    (role = .power ∧ ((s.role = some .power ∧ s.settings.stage = stage) ∨
      ∃ p ∈ s.peers, p.number ≠ n ∧ p.role = .power ∧ p.stage = some stage)) := by
  cases role with
  | travel => simp [conflicts, Option.any_eq_true, or_assoc]
  | power => simp [conflicts, and_assoc]
  | quench => simp [conflicts]

theorem mem_putPeer_other {p q : Peer} {l : List Peer} (other : q.number ≠ p.number) : q ∈ putPeer p l ↔ q ∈ l := by
  have apart : q ≠ p := fun e => other (congrArg Peer.number e)
  induction l with
  | nil => simp [putPeer, apart]
  | cons r rest ih =>
    unfold putPeer
    split
    case isTrue => simp [apart]
    case isFalse =>
      split
      case isTrue same =>
        have apart' : q ≠ r := by
          rintro rfl
          exact other same.symm
        simp [apart, apart']
      case isFalse => simp [ih]

/-- A conflict is with other stations: the sender's own entry and the time passed are no part of it. -/
theorem conflicts_of_put {k : Nat} {n : StationNo} {p : Peer} (number : p.number = n) (role : t.role = s.role) (tracked : t.tracker.tracked = s.tracker.tracked)
    (settings : t.settings = s.settings) (peers : t.peers = putPeer p (s.peers.map (Peer.pass k))) (r : Role) (stage : Nat) :
    conflicts t n r stage = conflicts s n r stage := by
  have entries (C : Peer → Prop) (blind : ∀ q, C (Peer.pass k q) ↔ C q) :
      (∃ q ∈ t.peers, q.number ≠ n ∧ C q) ↔ ∃ q ∈ s.peers, q.number ≠ n ∧ C q := by
    rw [peers]
    constructor
    · rintro ⟨q, mem, other, holds⟩
      rw [mem_putPeer_other (by rw [number]; exact other)] at mem
      obtain ⟨x, inner, rfl⟩ := List.mem_map.1 mem
      exact ⟨x, inner, other, (blind x).1 holds⟩
    · rintro ⟨q, mem, other, holds⟩
      refine ⟨Peer.pass k q, (mem_putPeer_other (by rw [number]; exact other)).2 (List.mem_map_of_mem mem), other, (blind q).2 holds⟩
  refine Bool.eq_iff_iff.2 ?_
  rw [conflicts_iff, conflicts_iff, role, tracked, settings, entries (·.role = .travel) fun _ => Iff.rfl,
    entries (fun q => q.role = .power ∧ q.stage = some stage) fun _ => Iff.rfl]

/-! ## What a roster peer's beacon keeps -/

/-- Properties that the writes of an abort, of slices closed or judged and of a role end keep. -/
structure EntryKeeps (P : State → Prop) : Prop extends NoticeKeeps P where
  power : ∀ {t} v, P t → P (t.setPower v)
  done : ∀ {t} e, P t → P (markDone e t)

section
variable {P : State → Prop}

theorem keeps_handNotice (w : EntryKeeps P) (slice share : Nat) (h : P t) : P (handNotice slice share t) :=
  w.power _ (keeps_handSlice w.toReportKeeps _ h)

theorem keeps_closeSlices (w : EntryKeeps P) (l : List (Nat × Nat)) (h : P t) : P (closeSlices l t) := by
  induction l generalizing t with
  | nil => exact h
  | cons p rest ih =>
    unfold closeSlices
    split
    · exact ih (keeps_handNotice w _ _ h)
    · exact h

theorem keeps_takeRecord (w : EntryKeeps P) (c : Crossing) (h : P t) : P (takeRecord c t) := by
  have closed := keeps_closeSlices w (sharesOf t.power.acc c.left) h
  unfold takeRecord
  dsimp only
  split
  · exact w.power _ closed
  · exact closed

theorem keeps_takeRecords (w : EntryKeeps P) (l : List Crossing) (h : P t) : P (takeRecords l t) := by
  induction l generalizing t with
  | nil => exact h
  | cons c rest ih =>
    unfold takeRecords
    split
    · exact ih (keeps_takeRecord w c h)
    · exact h

theorem keeps_closeCurrent (w : EntryKeeps P) (h : P t) : P (closeCurrent t) := by
  unfold closeCurrent
  split
  · exact w.power _ (keeps_handNotice w _ _ h)
  · exact h

theorem keeps_enterDone (w : EntryKeeps P) (e : EndKind) (h : P t) : P (enterDone e t) :=
  keeps_handReport w.toReportKeeps _ (w.done e h)

theorem keeps_shortTravelPower (w : EntryKeeps P) (h : P t) : P (shortTravelPower t) := by
  have taken : P (takeInbox t) := keeps_takeRecords w _ (w.power _ h)
  unfold shortTravelPower
  dsimp only
  split
  · split
    · exact keeps_enterDone w _ (keeps_closeCurrent w taken)
    · exact keeps_closeCurrent w taken
  · exact taken

theorem keeps_judgeAll (w : EntryKeeps P) (l : List Entry) (h : P t) : P (judgeAll l t) := by
  induction l generalizing t with
  | nil => exact h
  | cons e rest ih =>
    unfold judgeAll
    split
    · exact ih (keeps_deliver w.toNoticeKeeps _ _ (w.quench _ rfl h))
    · exact h

theorem keeps_shortTravelQuench (w : EntryKeeps P) (h : P t) : P (shortTravelQuench t) := by
  unfold shortTravelQuench
  split
  · exact h
  · split
    · exact keeps_enterDone w _ h
    · exact keeps_judgeAll w _ (w.quench _ rfl h)

theorem keeps_peerDone (w : EntryKeeps P) (p : Peer) (h : P t) : P (peerDone p t) := by
  unfold peerDone
  split
  · split
    · exact keeps_shortTravelPower w h
    · exact keeps_shortTravelQuench w h
    · exact h
  · exact h

end

/-- A cycle that the station is in, or was in, keeps its roster, and does not take the station to OFFLINE. -/
theorem entryKeeps_roster (roster : Marks16) : EntryKeeps fun t => t.cycle.roster = roster ∧ t.cycle.state ≠ .offline where
  sched _ h := h
  line _ h := h
  latch _ _ h := h
  aborted c _ h := by
    rw [enterAborted_cycle]
    exact ⟨h.1, fun e => by cases e⟩
  silent k _ h := by
    rw [enterSilent_cycle]
    exact ⟨h.1, fun e => by cases e⟩
  quench _ _ h := h
  draws _ h := h
  power _ h := h
  done e h := by
    rw [markDone_cycle]
    exact ⟨h.1, fun e => by cases e⟩

/-- A POWER or QUENCH station begins no spindle hold. -/
def HoldStands (hold : Bool) (t : State) : Prop := t.role ≠ some .travel ∧ t.travel.spindleHold = hold

theorem beginSpindleHold_of_other (role : t.role ≠ some .travel) : beginSpindleHold t = t := if_neg role

theorem holdStands_abortFromCycle {hold : Bool} (h : HoldStands hold t) : HoldStands hold (abortFromCycle t) := by
  obtain ⟨role, held⟩ := h
  let v := floodRing (zeroPower (t.setPower t.power.abandon))
  have same : v.role = t.role := role_of_loader (by simp [v])
  have role' : v.role ≠ some .travel := by rw [same]; exact role
  have whole : abortFromCycle t = v := beginSpindleHold_of_other role'
  rw [whole]
  exact ⟨role', by simpa [v] using held⟩

theorem entryKeeps_holdStands (hold : Bool) : EntryKeeps (HoldStands hold) where
  sched _ h := h
  line _ h := h
  latch _ _ h := h
  aborted c _ h := by
    have marked : HoldStands hold (markAborted c _) := h
    unfold enterAborted
    split
    · exact holdStands_abortFromCycle marked
    · exact marked
  silent k _ h := by
    unfold enterSilent
    split
    · exact holdStands_abortFromCycle h
    · split
      · exact h
      · exact h
  quench _ _ h := h
  draws _ h := h
  power _ h := h
  done {t} e h := by
    obtain ⟨role, held⟩ := h
    let v := zeroPower (doneMarked e t)
    have same : v.role = t.role := role_of_loader (by simp [v, doneMarked])
    have role' : v.role ≠ some .travel := by rw [same]; exact role
    rw [markDone_eq, beginSpindleHold_of_other role']
    exact ⟨role', by simpa [v, doneMarked] using held⟩

/-! ## The target once the target is recomputed -/

/-- The speed target is the same where nothing it reads has changed. -/
theorem travelTarget_congr (settings : t.settings = s.settings) (cycle : t.cycle = s.cycle)
    (store : t.store = s.store) (tracker : t.tracker = s.tracker) (peers : t.peers = s.peers) (level : t.interlock.level = s.interlock.level)
    (atSpeed : t.travel.atSpeed = s.travel.atSpeed) : travelTarget t = travelTarget s := by
  have roster : t.rosterPeers = s.rosterPeers := by simp only [State.rosterPeers, State.inRoster, cycle, peers]
  have lost : t.rosterLost = s.rosterLost := by rw [State.rosterLost, State.rosterLost, roster]
  have ceilings : t.peerCeilings = s.peerCeilings := by rw [State.peerCeilings, State.peerCeilings, roster]
  have held : t.hold = s.hold := by rw [State.hold, State.hold, cycle, level, settings]
  have past : t.pastTravelEnd = s.pastTravelEnd := by unfold State.pastTravelEnd; rw [store, tracker]
  have spindle : t.spindleTarget = s.spindleTarget := by unfold State.spindleTarget; rw [store]
  have speed : t.speedAtCarriage = s.speedAtCarriage := by unfold State.speedAtCarriage; rw [store, tracker]
  unfold travelTarget State.travels
  rw [cycle, spindle, atSpeed, lost, held, past, ceilings, speed, settings]

end Sys2Proof.Machine
end

section
/-! JOIN and BEACON (O55): short travel in a POWER and in a QUENCH station. -/

namespace Sys2Proof.Machine

variable {s t u : State}

/-! ## Short travel in a QUENCH station -/

theorem removeEntry_head (e : Entry) (rest : List Entry) : removeEntry e.slice (e :: rest) = rest :=
  List.eraseP_cons_of_pos (by simp)

/-- The engine once the whole list has been judged UNQUENCHED. -/
def allJudged (l : List Entry) (t : State) : Quench :=
  { t.quench with
    entries := [], judged := (l.getLast?.map (·.slice)).or t.quench.judged, nJudged := t.quench.nJudged + l.length
    nRejected := t.quench.nRejected + l.length, soak := if l = [] then t.quench.soak else some (t.settings.soakTime * 20000) }

/-- The list judged as short travel has it judged: each entry a rejected result, the list left empty. -/
theorem judgeAll_spec (l : List Entry) (entries : t.quench.entries = l) (scanning : t.cycle.state = .scanning) (mild : Mild t) :
    Writes resultBlocks t (judgeAll l t) ∧ (judgeAll l t).quench = allJudged l t := by
  induction l generalizing t with
  | nil =>
    have same : { t.quench with entries := [] } = t.quench := by rw [← entries]
    exact ⟨writes_refl _ t, same.symm⟩
  | cons e rest ih =>
    let v := t.setQuench { t.quench with entries := removeEntry e.slice t.quench.entries, judged := some e.slice }
    have put : v.quench = { t.quench with entries := rest, judged := some e.slice } := by
      have removed : removeEntry e.slice t.quench.entries = rest := by rw [entries, removeEntry_head]
      exact congrArg (fun l => { t.quench with entries := l, judged := some e.slice }) removed
    obtain ⟨delivers, engine⟩ := writes_deliver (t := v) true (resultOf t e true) mild
    have wrote : Writes resultBlocks t (judgeEntry true e t) :=
      writes_trans (bs := resultBlocks) (List.Subset.refl _) (writes_mono (by decide) (writes_setQuench _ t)) delivers
    have judged : (judgeEntry true e t).quench =
        { t.quench with
          entries := rest, judged := some e.slice, nJudged := t.quench.nJudged + 1, nRejected := t.quench.nRejected + 1
          soak := some (t.settings.soakTime * 20000) } := by
      refine engine.trans ?_
      rw [delivered, resultOf_unquenched_good, if_pos (show v.cycle.state = .scanning from scanning), put]
      rfl
    have cycle : (judgeEntry true e t).cycle = t.cycle := wrote.2 .cycle (by decide)
    have settings : (judgeEntry true e t).settings = t.settings := wrote.2 .settings (by decide)
    obtain ⟨wrote', all⟩ := ih (t := judgeEntry true e t) (by rw [judged]) (by rw [cycle]; exact scanning) (mild_of_settings settings mild)
    have step : judgeAll (e :: rest) t = judgeAll rest (judgeEntry true e t) := if_pos scanning
    rw [step]
    refine ⟨writes_trans (List.Subset.refl _) wrote wrote', ?_⟩
    rw [all, allJudged, allJudged, judged, settings]
    have last : ((rest.getLast?.map (·.slice)).or (some e.slice)) = (((e :: rest).getLast?.map (·.slice)).or t.quench.judged) := by
      rw [List.getLast?_cons]
      cases rest.getLast? <;> rfl
    have soak : (if rest = [] then some (t.settings.soakTime * 20000) else some (t.settings.soakTime * 20000)) =
        if e :: rest = [] then t.quench.soak else some (t.settings.soakTime * 20000) := by
      rw [ite_self, if_neg (List.cons_ne_nil _ _)]
    simp only [last, soak, List.length_cons, Nat.add_assoc, Nat.add_comm 1]

theorem shortTravelQuench_of_runout (runs : t.quench.runout = true) : shortTravelQuench t = t := if_pos runs

theorem shortTravelQuench_of_idle (rests : t.quench.runout = false) (empty : t.quench.entries = []) (soak : t.quench.soak = none) :
    shortTravelQuench t = enterDone .shortTravel t := by
  rw [shortTravelQuench, if_neg (by simp [rests]), if_pos ⟨empty, soak⟩]

theorem shortTravelQuench_of_busy (rests : t.quench.runout = false) (busy : ¬ (t.quench.entries = [] ∧ t.quench.soak = none)) :
    shortTravelQuench t = judgeAll t.quench.entries (t.setQuench { t.quench with runout := true }) := by
  rw [shortTravelQuench, if_neg (by simp [rests]), if_neg busy]

/-! ## Short travel in a POWER station -/

/-- The slices that short travel closes: those of the records that wait, then the open one with what the accumulator then holds. -/
def shortClosed (p : Power) : List (Nat × Nat) :=
  recordShares p.acc p.inbox ++ (lastCurrent p.current p.inbox).toList.map fun i => (i, if p.inbox = [] then p.acc else 0)

/-- The open slice closed in a state that closes slices. -/
theorem chain_closeCurrent (on : s.onLine = true) (still : s.mayBegin = false)
    (fits : (s.power.current.toList.map fun i => (i, s.power.acc)).length ≤ sliceRoom s) :
    Chain s (s.power.current.toList.map fun i => (i, s.power.acc)) (closeCurrent s) ∧ (closeCurrent s).power.current = none ∧
      (closeCurrent s).power.inbox = s.power.inbox := by
  cases current : s.power.current with
  | none =>
    have same : closeCurrent s = s := by
      unfold closeCurrent
      rw [current]
    rw [same]
    exact ⟨chain_refl s, current, rfl⟩
  | some i =>
    rw [current] at fits
    obtain ⟨chain, -, -, inbox, -⟩ := chain_handNotice i s.power.acc on still (.inl fits)
    have closed : closeCurrent s =
        (handNotice i s.power.acc s).setPower { (handNotice i s.power.acc s).power with current := none, acc := 0 } := by
      unfold closeCurrent
      rw [current]
    rw [closed]
    exact ⟨chain_setPower chain rfl rfl, rfl, inbox⟩

/-- The records that wait are taken and the open slice closed. -/
theorem chain_shortTravel (closes : s.closesSlices = true) (still : s.mayBegin = false) (fits : (shortClosed s.power).length ≤ sliceRoom s) :
    Chain (s.setPower { s.power with inbox := [] }) (shortClosed s.power) (closeCurrent (takeInbox s)) ∧
      (closeCurrent (takeInbox s)).power.current = none ∧ (closeCurrent (takeInbox s)).power.inbox = [] := by
  let x := s.setPower { s.power with inbox := [] }
  let w := takeRecords s.power.inbox x
  have length : (shortClosed s.power).length = (recordShares s.power.acc s.power.inbox).length +
      ((lastCurrent s.power.current s.power.inbox).toList.map fun i => (i, if s.power.inbox = [] then s.power.acc else 0)).length :=
    List.length_append
  have room : sliceRoom x = sliceRoom s := rfl
  obtain ⟨chain, current, acc, inbox, -⟩ : Chain x (recordShares s.power.acc s.power.inbox) w ∧ _ :=
    chain_takeRecords s.power.inbox closes still (.inl (by rw [room]; exact show (recordShares s.power.acc s.power.inbox).length ≤ _ by omega))
  have cycle : w.cycle = s.cycle := chain.writes.2 .cycle (by decide)
  have line : w.line = s.line := chain.writes.2 .line (by decide)
  have on : w.onLine = true := by
    rw [onLine_iff, cycle]
    rcases (closesSlices_iff s).1 closes with e | e <;> simp [e]
  have still' : w.mayBegin = false := by
    rw [State.mayBegin, State.onLine, cycle, line]
    exact still
  have left := chain_room chain
  have opened : (w.power.current.toList.map fun i => (i, w.power.acc)) =
      (lastCurrent s.power.current s.power.inbox).toList.map fun i => (i, if s.power.inbox = [] then s.power.acc else 0) := by
    rw [current, acc]
    rfl
  obtain ⟨second, current', inbox'⟩ := chain_closeCurrent on still' (by rw [opened, left, room]; omega)
  rw [opened] at second
  exact ⟨chain_trans chain second, current', inbox'.trans inbox⟩

/-- A SCANNING POWER station at short travel, its queues with room. -/
theorem shortTravelPower_spec (role : s.role = some .power) (scanning : s.cycle.state = .scanning) (still : s.mayBegin = false)
    (fits : (shortClosed s.power).length ≤ sliceRoom s) (room : s.sched.reportOccupancy < Config.reportCapacity) :
    let t := shortTravelPower s
    t.cycle = { s.cycle with state := .done, endKind := some .shortTravel } ∧
    t.sched.sliceQ = s.sched.sliceQ ++ chainFrames s s.power.link (shortClosed s.power) ∧
    t.sched.reportQ = s.sched.reportQ ++ [cycleSummaryFrame t] ∧ t.power.inbox = [] ∧ t.power.current = none ∧
    t.power.command = 0 ∧ t.power.setpoint = some 0 ∧ t.fault = s.fault := by
  intro t
  let x := s.setPower { s.power with inbox := [] }
  let y := closeCurrent (takeInbox s)
  have closes : s.closesSlices = true := (closesSlices_iff s).2 (.inr scanning)
  obtain ⟨chain, current, inbox⟩ : Chain x (shortClosed s.power) y ∧ _ := chain_shortTravel closes still fits
  obtain ⟨reportQ, dropCount, fault⟩ := chain.fits fits
  have cycle : y.cycle = s.cycle := chain.writes.2 .cycle (by decide)
  have line : y.line = s.line := chain.writes.2 .line (by decide)
  have role' : y.role = some .power := (role_of_loader (chain.writes.2 .loader (by decide))).trans role
  have on : y.onLine = true := by simp [onLine_iff, cycle, scanning]
  have still' : y.mayBegin = false := by
    rw [State.mayBegin, State.onLine, cycle, line]
    exact still
  have occupancy : y.sched.reportOccupancy = s.sched.reportOccupancy := by
    rw [chain.sched, reportQ]
    rfl
  have inboxTaken : (takeInbox s).cycle = s.cycle := by
    have taken : Chain x (recordShares s.power.acc s.power.inbox) (takeInbox s) := by
      refine (chain_takeRecords (s := x) s.power.inbox closes still (.inl ?_)).1
      have length : (shortClosed s.power).length = (recordShares s.power.acc s.power.inbox).length + _ := List.length_append
      show (recordShares s.power.acc s.power.inbox).length ≤ sliceRoom s
      omega
    exact taken.writes.2 .cycle (by decide)
  have whole : t = enterDone .shortTravel y := by
    show shortTravelPower s = _
    rw [shortTravelPower]
    exact (if_pos (by rw [inboxTaken]; exact scanning)).trans (if_pos (by rw [show closeCurrent (takeInbox s) = y from rfl, cycle]; exact scanning))
  have ended := enterDone_of_waits .shortTravel on still' (by rw [occupancy]; exact room)
  have power : (markDone .shortTravel y).power = y.power.zeroed := by rw [markDone_power, if_pos role']
  have summary : cycleSummaryFrame t = cycleSummaryFrame (markDone .shortTravel y) := by
    rw [whole, ended]
    exact cycleSummaryFrame_queued (by rw [markDone_sched])
  rw [summary, whole, ended]
  refine ⟨?_, ?_, ?_, ?_, ?_, ?_, ?_, ?_⟩
  · rw [State.setSched_cycle, markDone_cycle, cycle]
  · rw [State.setSched_sched]
    refine chain.queue.trans ?_
    rw [List.take_of_length_le (by rw [chainFrames_length]; exact fits)]
    exact congrArg (s.sched.sliceQ ++ ·) (chainFrames_congr (t := x) (s := s) rfl rfl rfl _ _)
  · rw [State.setSched_sched]
    exact congrArg (· ++ _) reportQ
  · rw [State.setSched_power, power]
    exact inbox
  · rw [State.setSched_power, power]
    exact current
  · rw [State.setSched_power, power]
    rfl
  · rw [State.setSched_power, power]
    rfl
  · rw [State.setSched_fault, markDone_fault]
    exact fault

end Sys2Proof.Machine
end

section
/-! JOIN (O55). -/

namespace Sys2Proof.Machine

variable {s t u v : State} {p : Peer} {n : StationNo}

/-! ## An entry put in the table, and the blocks told of it -/

theorem writes_testConflict (k : Kind) (n : StationNo) (role : Role) (stage : Nat) (t : State) :
    Writes reportBlocks t (testConflict k n role stage t) := by
  unfold testConflict
  split
  · exact writes_report _ t
  · exact writes_refl _ t

theorem testConflict_latched {k : Kind} {role : Role} {stage : Nat} (clash : conflicts t n role stage = true)
    (mask : t.isMasked .roleConflict = false) : (testConflict k n role stage t).isLatched .roleConflict = true := by
  rw [testConflict, if_pos clash]
  exact report_latched (r := ⟨.roleConflict, some n, some ⟨n, k⟩⟩) mask

theorem testConflict_of_not {k : Kind} {role : Role} {stage : Nat} (apart : conflicts t n role stage = false) :
    testConflict k n role stage t = t := if_neg (by simp [apart])

theorem writes_notifyPeer (p : Peer) (beacon : Bool) (t : State) : Writes reportBlocks t (notifyPeer p beacon t) :=
  writes_of_acts (k := 0) (clears := false) (acts_notifyPeer p beacon .refl (List.Subset.refl _))

theorem notifyPeer_isLatched {beacon : Bool} {k : FaultKind} (latched : t.isLatched k = true) :
    (notifyPeer p beacon t).isLatched k = true :=
  (fault_of_acts (k := 0) (clears := false) (acts_notifyPeer p beacon .refl (List.Subset.refl reportBlocks)) rfl).1 k latched

/-- The table with the entry put in it. -/
def entryIn (p : Peer) (u : State) : State := u.setPeers (putPeer p u.peers)

theorem conflicts_entryIn {k : Nat} (number : p.number = n) (role : Role) (stage : Nat) :
    conflicts (entryIn p (s.heard k)) n role stage = conflicts s n role stage :=
  conflicts_of_put (s := s) (t := entryIn p (s.heard k)) (k := k) number rfl rfl rfl rfl role stage

theorem peer_of_entryIn (number : p.number = n) (peers : t.peers = (entryIn p u).peers) (m : StationNo) :
    t.peer m = if n = m then some p else u.peer m := by
  rw [peer_congr peers]
  exact peer_putPeer_of number m

theorem notifyTravel_atSpeed (p : Peer) (t : State) : (notifyTravel p t).travel.atSpeed = t.travel.atSpeed := by
  unfold notifyTravel recomputeTarget testSpindleHold
  split
  · split <;> rfl
  · rfl

/-- The speed target as the engine recomputes it is the target of the state that is left. -/
theorem settled_notifyTravel_target (old : State) (marked : v.inRoster p.number = true) (runs : v.runs .travel = true) :
    (settled old (notifyTravel p v)).travel.target = travelTarget (settled old (notifyTravel p v)) := by
  have wrote := writes_notifyTravel p v
  obtain ⟨carried, interlock⟩ := settled_interlock (t := notifyTravel p v) old
  have same : (notifyTravel p v).interlock = v.interlock := wrote.2 .interlock (by decide)
  rw [settled_travel, notifyTravel_target marked runs]
  refine (travelTarget_congr ?_ ?_ ?_ ?_ ?_ ?_ ?_).symm
  · exact (settled_settings _ _).trans (wrote.2 .settings (by decide))
  · exact (settled_cycle _ _).trans (wrote.2 .cycle (by decide))
  · exact (settled_store _ _).trans (wrote.2 .store (by decide))
  · exact (settled_tracker _ _).trans (wrote.2 .tracker (by decide))
  · exact (settled_peers _ _).trans (wrote.2 .peers (by decide))
  · rw [interlock, same]
  · rw [settled_travel, notifyTravel_atSpeed]

theorem settled_notifyTravel_spindleHold (old : State) (marked : v.inRoster p.number = true) :
    (settled old (notifyTravel p v)).travel.spindleHold =
      (v.travel.spindleHold && !(settled old (notifyTravel p v)).spindleReleased) := by
  have wrote := writes_notifyTravel p v
  rw [settled_travel, notifyTravel_spindleHold marked]
  refine congrArg (v.travel.spindleHold && !·) (spindleReleased_congr ?_ ?_)
  · exact (settled_cycle _ _).trans (wrote.2 .cycle (by decide))
  · exact (settled_peers _ _).trans (wrote.2 .peers (by decide))

/-- A frame that the Peer Table takes is of another station's number. -/
theorem tablesNumber_of_arrives {k : Kind} {f : Rx} (ticks : Nat) (arrives : Arrives k f s) (excludes : excluded k 0 = true)
    (on : s.cycle.state ≠ .offline) (top : f.source ≠ 15) : (s.heard ticks).tablesNumber f.source = true := by
  obtain ⟨-, other, accepted, -⟩ := arrives
  refine (tablesNumber_iff _ _).2 ⟨on, fun master => ?_, top, other⟩
  rw [State.accepts, master, excludes] at accepted
  simp at accepted

/-- The start barrier waits for an entry that does not show the cycle begun. -/
theorem testBarrier_of_late (tables : t.tablesNumber n = true) (entry : t.peer n = some p) (marked : t.inRoster n = true)
    (late : p.state ≠ .starting ∧ p.state ≠ .scanning) : testBarrier t = t := by
  obtain ⟨-, zero, top, other⟩ := (tablesNumber_iff t n).1 tables
  have own : n ≠ t.loader.number := by
    rintro rfl
    exact other (if_neg fun h => h.elim zero top)
  refine testBarrier_of_open (Bool.eq_false_iff.2 fun complete => ?_)
  obtain ⟨q, at_, -, -, -, begun⟩ := barrierComplete_iff.1 complete n zero top own marked
  rw [entry, Option.some.injEq] at at_
  subst at_
  exact begun.elim late.1 late.2

/-! ## JOIN -/

theorem exec_join {ticks : Nat} {f : Rx} {j : JoinFields} (on : s.cycle.state ≠ .offline) (top : f.source ≠ 15)
    (arrives : Arrives .join f s) (read : joinOf f.words = some j) :
    let p := joinEntry (s.heard ticks) f.source j
    exec (.join ticks f) s =
      .next (settled s (notifyPeer p false (testConflict .join f.source j.role j.stage (entryIn p (s.heard ticks))))) := by
  intro p
  have tables := tablesNumber_of_arrives ticks arrives (by decide) on top
  have taken : takeJoinWords f.source f.words (s.heard ticks) =
      notifyPeer p false (testConflict .join f.source j.role j.stage (entryIn p (s.heard ticks))) := by
    unfold takeJoinWords
    rw [read]
    exact if_pos tables
  obtain ⟨good, other, accepted, hears⟩ := arrives
  have whole := receive_of_accepted (act := takeJoinWords f.source f.words) (s := advance ticks s) good other accepted hears
  rw [if_pos (.inr rfl)] at whole
  exact congrArg (settle s) (whole.trans taken)

theorem join_frame (ticks : Nat) (f : Rx) (s : State) (on : s.cycle.state ≠ .offline) (top : f.source ≠ 15) (j : JoinFields)
    (arrives : Arrives .join f s) (read : joinOf f.words = some j) :
    let u := s.heard ticks
    ∃ t, exec (.join ticks f) s = .next t ∧ (∀ m, m ≠ f.source → t.peer m = u.peer m) ∧
      t.peer f.source = some (joinEntry u f.source j) ∧ t.tracker = u.tracker ∧ t.store = s.store ∧
      (conflicts s f.source j.role j.stage = true → s.isMasked .roleConflict = false → t.isLatched .roleConflict = true) ∧
      (conflicts s f.source j.role j.stage = false →
        t.cycle = u.cycle ∧ t.fault = s.fault ∧ t.power = s.power ∧ t.quench = u.quench ∧
        (s.inRoster f.source = true →
          t.travel.spindleHold = (s.travel.spindleHold && !t.spindleReleased) ∧
          (s.role = some .travel → t.travel.target = travelTarget t)) ∧
        (¬ s.inRoster f.source = true → t.travel = u.travel)) := by
  intro u
  let p := joinEntry u f.source j
  let v := entryIn p u
  let w := notifyPeer p false (testConflict .join f.source j.role j.stage v)
  have wrote : Writes reportBlocks v w :=
    writes_trans (List.Subset.refl _) (writes_testConflict _ _ _ _ v) (writes_notifyPeer p false _)
  have peers : (settled s w).peers = v.peers := (settled_peers _ _).trans (wrote.2 .peers (by decide))
  have entries (m : StationNo) : (settled s w).peer m = if f.source = m then some p else u.peer m := peer_of_entryIn rfl peers m
  have clash : conflicts v f.source j.role j.stage = conflicts s f.source j.role j.stage := conflicts_entryIn rfl _ _
  refine ⟨settled s w, exec_join on top arrives read, fun m apart => ?_, ?_, ?_, ?_, fun clashes mask => ?_, fun apart => ?_⟩
  · rw [entries, if_neg (Ne.symm apart)]
  · rw [entries, if_pos rfl]
  · rw [settled_tracker]
    exact wrote.2 .tracker (by decide)
  · rw [settled_store]
    exact wrote.2 .store (by decide)
  · rw [settled_isLatched]
    exact notifyPeer_isLatched (testConflict_latched (clash.trans clashes) mask)
  · have quiet : w = notifyPeer p false v := congrArg (notifyPeer p false) (testConflict_of_not (clash.trans apart))
    have idle : notifyCycle p false v = v := by
      rw [notifyCycle]
      split
      case isTrue marked =>
        exact testBarrier_of_late (t := v) (n := f.source) (tablesNumber_of_arrives ticks arrives (by decide) on top)
          ((peer_of_entryIn (t := v) rfl rfl _).trans (if_pos rfl)) marked
          (show StationState.joining ≠ .starting ∧ StationState.joining ≠ .scanning by decide)
      case isFalse => rfl
    have told : w = notifyTravel p v := by
      rw [quiet, notifyPeer, idle, notifyPower_of_live rfl]
    have travels := writes_notifyTravel p v
    rw [told, settled_cycle, settled_fault, settled_power, settled_quench]
    refine ⟨travels.2 .cycle (by decide), travels.2 .fault (by decide), travels.2 .power (by decide), travels.2 .quench (by decide),
      fun marked => ⟨settled_notifyTravel_spindleHold (v := v) s marked, fun role => ?_⟩, fun other => ?_⟩
    · exact settled_notifyTravel_target (v := v) s marked ((runs_iff v _).2 ⟨role, on⟩)
    · rw [settled_travel, notifyTravel_of_other (p := p) (t := v) (Bool.eq_false_iff.2 other)]
      rfl

end Sys2Proof.Machine
end

section
/-! BEACON (O55): what the blocks do with a roster peer's beacon. -/

namespace Sys2Proof.Machine

variable {s t u v : State} {p : Peer} {n : StationNo}

/-! ## Cycle Control told of a roster peer's beacon -/

/-- Cycle Control's part at a beacon of a roster peer: the start barrier, the peer's abort, short travel. -/
def peerTold (p : Peer) (v : State) : State := peerDone p (peerAborts p (testBarrier v))

theorem notifyPeer_beacon (live : p.live = true) (marked : v.inRoster p.number = true) :
    notifyPeer p true v = notifyTravel p (peerTold p v) := by
  have told : notifyCycle p true v = peerTold p v := if_pos marked
  rw [notifyPeer, told, notifyPower_of_live live]

theorem writes_peerTold (p : Peer) (v : State) : Writes reportBlocks v (peerTold p v) :=
  writes_of_acts (k := 0) (clears := false)
    (acts_peerDone p (acts_peerAborts p (acts_testBarrier .refl (by decide)) (List.Subset.refl _)) (List.Subset.refl _))

/-- The beacon tells of an abort of the station's cycle. -/
def AbortsPeer (p : Peer) (v : State) : Prop := v.inCycle = true ∧ p.state = .aborted ∧ p.cycle = v.cycle.number

theorem testBarrier_inCycle (v : State) : (testBarrier v).inCycle = v.inCycle ∧ (testBarrier v).cycle.number = v.cycle.number := by
  unfold testBarrier
  split
  case isTrue complete => exact ⟨((inCycle_iff v).2 (.inl complete.1)).symm, rfl⟩
  case isFalse => exact ⟨rfl, rfl⟩

theorem abortsPeer_testBarrier : AbortsPeer p (testBarrier v) ↔ AbortsPeer p v := by
  obtain ⟨cycle, number⟩ := testBarrier_inCycle v
  rw [AbortsPeer, AbortsPeer, cycle, number]

theorem peerTold_of_aborts (aborts : AbortsPeer p v) : peerTold p v = enterAborted (.abortFrom p.number) (testBarrier v) := by
  have aborted : peerAborts p (testBarrier v) = enterAborted (.abortFrom p.number) (testBarrier v) :=
    if_pos (abortsPeer_testBarrier.2 aborts)
  rw [peerTold, aborted]
  refine if_neg fun h => ?_
  have state := h.1
  rw [enterAborted_state] at state
  cases state

theorem peerTold_of_not (rests : ¬ AbortsPeer p v) : peerTold p v = peerDone p (testBarrier v) :=
  congrArg (peerDone p) (if_neg fun h => rests (abortsPeer_testBarrier.1 h))

theorem peerTold_roster (on : v.cycle.state ≠ .offline) :
    (peerTold p v).cycle.roster = v.cycle.roster ∧ (peerTold p v).cycle.state ≠ .offline := by
  have barrier : (testBarrier v).cycle.roster = v.cycle.roster ∧ (testBarrier v).cycle.state ≠ .offline := by
    unfold testBarrier
    split
    · exact ⟨rfl, fun e => by cases e⟩
    · exact ⟨rfl, on⟩
  by_cases aborts : AbortsPeer p v
  case pos =>
    rw [peerTold_of_aborts aborts, enterAborted_state, enterAborted_cycle]
    exact ⟨barrier.1, by decide⟩
  case neg =>
    rw [peerTold_of_not aborts]
    exact keeps_peerDone (entryKeeps_roster _) p barrier

theorem peerTold_inRoster (on : v.cycle.state ≠ .offline) (marked : v.inRoster n = true) : (peerTold p v).inRoster n = true := by
  rw [State.inRoster, (peerTold_roster on).1]
  exact marked

theorem peerDone_of_travel (role : t.role = some .travel) : peerDone p t = t := by
  unfold peerDone
  rw [role]
  exact ite_self _

/-- A beacon that tells of no abort begins no spindle hold. -/
theorem peerTold_spindleHold (rests : ¬ AbortsPeer p v) : (peerTold p v).travel.spindleHold = v.travel.spindleHold := by
  have barrier := writes_testBarrier v
  have role : (testBarrier v).role = v.role := role_of_loader (barrier.2 .loader (by decide))
  have travel : (testBarrier v).travel = v.travel := barrier.2 .travel (by decide)
  rw [peerTold_of_not rests]
  by_cases travels : v.role = some .travel
  case pos => rw [peerDone_of_travel (role.trans travels), travel]
  case neg =>
    have stands : HoldStands v.travel.spindleHold (testBarrier v) := ⟨by rw [role]; exact travels, by rw [travel]⟩
    exact (keeps_peerDone (entryKeeps_holdStands _) p stands).2

/-- A peer's abort takes the station to ABORTED with its spindle hold begun anew. -/
theorem peerTold_aborted (aborts : AbortsPeer p v) :
    (peerTold p v).cycle.state = .aborted ∧ (peerTold p v).fault.cause = some (.abortFrom p.number) ∧ HeldAnew (peerTold p v) := by
  rw [peerTold_of_aborts aborts]
  refine ⟨enterAborted_state _ _, enterAborted_cause _ _, fun role => enterAborted_spindleHold _ ?_ ?_⟩
  · exact (testBarrier_inCycle v).1.trans aborts.1
  · exact (role_of_loader (by simp)).symm.trans role

theorem peerDone_of_state (rests : t.cycle.state ≠ .scanning) : peerDone p t = t := if_neg fun h => rests h.1

theorem peerDone_of_other (runs : p.state ≠ .done) : peerDone p t = t := if_neg fun h => runs h.2.2.1

/-- In STARTING the beacon completes the barrier or leaves Cycle Control as it is. -/
theorem peerTold_starting (tables : v.tablesNumber n = true) (entry : v.peer n = some p) (marked : v.inRoster n = true)
    (starting : v.cycle.state = .starting) (rests : ¬ AbortsPeer p v) : peerTold p v = testBarrier v := by
  rw [peerTold_of_not rests]
  by_cases begun : p.state = .done
  case pos =>
    have late : testBarrier v = v := testBarrier_of_late tables entry marked (by rw [begun]; decide)
    rw [late]
    exact peerDone_of_state (by rw [starting]; decide)
  case neg => exact peerDone_of_other begun

/-- Short travel: a SCANNING station told by the roster's TRAVEL station of its DONE. -/
structure ShortTravel (p : Peer) (v : State) : Prop where
  scanning : v.cycle.state = .scanning
  travel : p.role = .travel
  done : p.state = .done
  number : p.cycle = v.cycle.number

theorem peerTold_of_short (short : ShortTravel p v) : peerTold p v =
    match v.role with
    | some .power => shortTravelPower v
    | some .quench => shortTravelQuench v
    | _ => v := by
  have rests : ¬ AbortsPeer p v := fun ⟨_, aborted, _⟩ => by
    rw [short.done] at aborted
    cases aborted
  have barrier : testBarrier v = v := if_neg fun h => by
    have starting := h.1
    rw [short.scanning] at starting
    cases starting
  rw [peerTold_of_not rests, barrier]
  exact (if_pos ⟨short.scanning, short.travel, short.done, short.number⟩).trans (by rfl)

theorem peerTold_shortPower (short : ShortTravel p v) (role : v.role = some .power) : peerTold p v = shortTravelPower v := by
  rw [peerTold_of_short short, role]

theorem peerTold_shortQuench (short : ShortTravel p v) (role : v.role = some .quench) : peerTold p v = shortTravelQuench v := by
  rw [peerTold_of_short short, role]

/-- BarrierMet reads the table and the station's number alone. -/
theorem barrierMet_congr {number : Nat} {roster : Marks16} (loader : t.loader = v.loader) (peers : t.peers = v.peers) :
    BarrierMet t number roster ↔ BarrierMet v number roster := by
  have at_ (m : StationNo) : AtBarrier t number m ↔ AtBarrier v number m := by rw [AtBarrier, AtBarrier, peer_congr peers]
  simp only [BarrierMet, at_, loader]

end Sys2Proof.Machine
end

section
/-! BEACON (O55): the frame taken, and what each station makes of it. -/

namespace Sys2Proof.Machine

variable {s t u v : State} {p : Peer} {n : StationNo} {ticks : Nat}

/-! ## The state in which the blocks are told -/

/-- `v` is the heard state with the entry put in the table, the tracker perhaps told of the beacon. -/
structure Noted (ticks : Nat) (s : State) (p : Peer) (v : State) : Prop where
  writes : Writes [.tracker] (entryIn p (s.heard ticks)) v
  tables : (s.heard ticks).tablesNumber p.number = true
  live : p.live = true

namespace Noted

theorem cycle (h : Noted ticks s p v) : v.cycle = (s.heard ticks).cycle := h.writes.2 .cycle (by decide)
theorem quench (h : Noted ticks s p v) : v.quench = (s.heard ticks).quench := h.writes.2 .quench (by decide)
theorem travel (h : Noted ticks s p v) : v.travel = (s.heard ticks).travel := h.writes.2 .travel (by decide)
theorem sched (h : Noted ticks s p v) : v.sched = (s.heard ticks).sched := h.writes.2 .sched (by decide)
theorem fault (h : Noted ticks s p v) : v.fault = s.fault := h.writes.2 .fault (by decide)
theorem power (h : Noted ticks s p v) : v.power = s.power := h.writes.2 .power (by decide)
theorem loader (h : Noted ticks s p v) : v.loader = s.loader := h.writes.2 .loader (by decide)
theorem settings (h : Noted ticks s p v) : v.settings = s.settings := h.writes.2 .settings (by decide)
theorem role (h : Noted ticks s p v) : v.role = s.role := role_of_loader h.loader

theorem on (h : Noted ticks s p v) : v.cycle.state ≠ .offline := by
  rw [h.cycle]
  exact ((tablesNumber_iff _ _).1 h.tables).1

theorem state (h : Noted ticks s p v) : v.cycle.state = s.cycle.state := by
  rw [h.cycle]
  rfl

theorem number (h : Noted ticks s p v) : v.cycle.number = s.cycle.number := by
  rw [h.cycle]
  rfl

theorem inRoster (h : Noted ticks s p v) : v.inRoster n = s.inRoster n := by
  rw [State.inRoster, h.cycle]
  rfl

theorem inCycle (h : Noted ticks s p v) : v.inCycle = s.inCycle := by
  rw [State.inCycle, h.state]
  rfl

theorem peer (h : Noted ticks s p v) (m : StationNo) : v.peer m = if p.number = m then some p else (s.heard ticks).peer m :=
  peer_of_entryIn rfl (h.writes.2 .peers (by decide)) m

theorem tables' (h : Noted ticks s p v) : v.tablesNumber p.number = true := by
  obtain ⟨on, zero, top, other⟩ := (tablesNumber_iff _ _).1 h.tables
  refine (tablesNumber_iff _ _).2 ⟨h.on, zero, top, ?_⟩
  rw [State.ownNumber, h.loader]
  exact other

theorem aborts (h : Noted ticks s p v) :
    AbortsPeer p v ↔ p.state = .aborted ∧ p.cycle = s.cycle.number ∧ s.inCycle = true := by
  rw [AbortsPeer, h.inCycle, h.number]
  exact ⟨fun ⟨a, b, c⟩ => ⟨b, c, a⟩, fun ⟨b, c, a⟩ => ⟨a, b, c⟩⟩

/-- As the reception has just ended no frame begins. -/
theorem still (h : Noted ticks s p v) : v.mayBegin = false := by
  have line : v.line = (s.heard ticks).line := h.writes.2 .line (by decide)
  rw [State.mayBegin, line]
  have busy : (s.heard ticks).line.idle = false := rfl
  rw [busy, Bool.and_false, Bool.false_and]

end Noted

/-! ## A peer outside the roster -/

theorem noted_other (h : Noted ticks s p v) (other : ¬ s.inRoster p.number = true) : notifyPeer p true v = v := by
  rw [notifyPeer_of_other (by rw [h.inRoster]; exact Bool.eq_false_iff.2 other), notifyPower_of_live h.live]

/-- The slices that the obligation lists are those that short travel closes. -/
theorem shortClosed_eq (q : Power) :
    let open_ := match q.inbox.getLast? with | some c => c.current.slice | none => q.current
    recordShares q.acc q.inbox ++ open_.toList.map (fun i => (i, if q.inbox = [] then q.acc else 0)) = shortClosed q := by
  have last : (match q.inbox.getLast? with | some c => c.current.slice | none => q.current) = lastCurrent q.current q.inbox := by
    cases found : q.inbox.getLast? with
    | none =>
      rw [List.getLast?_eq_none_iff.1 found]
      rfl
    | some c => exact (lastCurrent_of_getLast found).symm
  show recordShares q.acc q.inbox ++ (match q.inbox.getLast? with | some c => c.current.slice | none => q.current).toList.map _ = _
  rw [last]
  rfl

/-! ## A roster peer -/

section
variable (h : Noted ticks s p v) (marked : s.inRoster p.number = true)
include h marked

theorem noted_told : notifyPeer p true v = notifyTravel p (peerTold p v) :=
  notifyPeer_beacon h.live (by rw [h.inRoster]; exact marked)

theorem noted_marked : (peerTold p v).inRoster p.number = true := peerTold_inRoster h.on (by rw [h.inRoster]; exact marked)

theorem noted_target (role : s.role = some .travel) :
    (settled s (notifyPeer p true v)).travel.target = travelTarget (settled s (notifyPeer p true v)) := by
  rw [noted_told h marked]
  refine settled_notifyTravel_target s (noted_marked h marked) ((runs_iff _ _).2 ⟨?_, (peerTold_roster h.on).2⟩)
  exact (role_of_loader ((writes_peerTold p v).2 .loader (by decide))).trans (h.role.trans role)

theorem noted_cycle : (settled s (notifyPeer p true v)).cycle = (peerTold p v).cycle := by
  rw [noted_told h marked, settled_cycle]
  exact (writes_notifyTravel p _).2 .cycle (by decide)

theorem noted_quench : (settled s (notifyPeer p true v)).quench = (peerTold p v).quench := by
  rw [noted_told h marked, settled_quench]
  exact (writes_notifyTravel p _).2 .quench (by decide)

theorem noted_power : (settled s (notifyPeer p true v)).power = (peerTold p v).power := by
  rw [noted_told h marked, settled_power]
  exact (writes_notifyTravel p _).2 .power (by decide)

theorem noted_fault : (settled s (notifyPeer p true v)).fault = (peerTold p v).fault := by
  rw [noted_told h marked, settled_fault]
  exact (writes_notifyTravel p _).2 .fault (by decide)

theorem noted_queues :
    (settled s (notifyPeer p true v)).sched.sliceQ = (peerTold p v).sched.sliceQ ∧
      (settled s (notifyPeer p true v)).sched.reportQ = (peerTold p v).sched.reportQ := by
  obtain ⟨slices, reports, -⟩ := settled_queues (t := notifyPeer p true v) s
  rw [slices, reports, noted_told h marked]
  have sched : (notifyTravel p (peerTold p v)).sched = (peerTold p v).sched := (writes_notifyTravel p _).2 .sched (by decide)
  rw [sched]
  exact ⟨rfl, rfl⟩

theorem noted_summary : cycleSummaryFrame (settled s (notifyPeer p true v)) = cycleSummaryFrame (peerTold p v) := by
  have wrote := writes_notifyTravel p (peerTold p v)
  rw [cycleSummaryFrame_settled, noted_told h marked]
  exact cycleSummaryFrame_congr (wrote.2 .loader (by decide)) (wrote.2 .settings (by decide)) (wrote.2 .cycle (by decide))
    (wrote.2 .store (by decide)) (wrote.2 .tracker (by decide)) (wrote.2 .quench (by decide)) (wrote.2 .fault (by decide))
    (congrArg Interlock.level (wrote.2 .interlock (by decide))) (congrArg Sched.dropCount (wrote.2 .sched (by decide)))
    (congrArg Power.clampedSeen (wrote.2 .power (by decide))) (congrArg Power.notices (wrote.2 .power (by decide)))

theorem noted_aborted (aborts : p.state = .aborted ∧ p.cycle = s.cycle.number ∧ s.inCycle = true) :
    let t := settled s (notifyPeer p true v)
    t.cycle.state = .aborted ∧ t.fault.cause = some (.abortFrom p.number) ∧
      (s.role = some .travel → t.travel.spindleHold = !t.spindleReleased) := by
  intro t
  obtain ⟨state, cause, held⟩ := peerTold_aborted (h.aborts.2 aborts)
  refine ⟨?_, ?_, fun role => ?_⟩
  · rw [noted_cycle h marked]
    exact state
  · rw [noted_fault h marked]
    exact cause
  · have role' : (peerTold p v).role = some .travel :=
      (role_of_loader ((writes_peerTold p v).2 .loader (by decide))).trans (h.role.trans role)
    have wrote := writes_notifyTravel p (peerTold p v)
    have released : (settled s (notifyTravel p (peerTold p v))).spindleReleased = (peerTold p v).spindleReleased :=
      (spindleReleased_congr ((settled_cycle _ _).trans (wrote.2 .cycle (by decide)))
        ((settled_peers _ _).trans (wrote.2 .peers (by decide)))).symm
    show (settled s (notifyPeer p true v)).travel.spindleHold = !(settled s (notifyPeer p true v)).spindleReleased
    rw [noted_told h marked, settled_notifyTravel_spindleHold s (noted_marked h marked), held role', released, Bool.and_self]

theorem noted_held (rests : ¬ (p.state = .aborted ∧ p.cycle = s.cycle.number ∧ s.inCycle = true)) :
    (settled s (notifyPeer p true v)).travel.spindleHold =
      (s.travel.spindleHold && !(settled s (notifyPeer p true v)).spindleReleased) := by
  have hold : (peerTold p v).travel.spindleHold = s.travel.spindleHold := by
    rw [peerTold_spindleHold fun aborts => rests (h.aborts.1 aborts), h.travel]
    rfl
  rw [noted_told h marked, settled_notifyTravel_spindleHold s (noted_marked h marked), hold]

theorem noted_starting (rests : ¬ (p.state = .aborted ∧ p.cycle = s.cycle.number ∧ s.inCycle = true)) (starting : s.cycle.state = .starting) :
    let t := settled s (notifyPeer p true v)
    (BarrierMet t s.cycle.number s.cycle.roster →
      t.cycle.state = .scanning ∧ t.cycle.startTimer = none ∧ t.cycle.scanTenths = 0) ∧
    (¬ BarrierMet t s.cycle.number s.cycle.roster → t.cycle = (s.heard ticks).cycle) := by
  intro t
  have starting' : v.cycle.state = .starting := h.state.trans starting
  have told : peerTold p v = testBarrier v :=
    peerTold_starting h.tables' ((h.peer _).trans (if_pos rfl)) (by rw [h.inRoster]; exact marked) starting'
      fun aborts => rests (h.aborts.1 aborts)
  have wrote : Writes reportBlocks v (notifyPeer p true v) := writes_notifyPeer _ _ _
  have met : BarrierMet t s.cycle.number s.cycle.roster ↔ v.barrierComplete = true := by
    have same : BarrierMet t s.cycle.number s.cycle.roster ↔ BarrierMet v s.cycle.number s.cycle.roster :=
      barrierMet_congr ((settled_loader _ _).trans (wrote.2 .loader (by decide))) ((settled_peers _ _).trans (wrote.2 .peers (by decide)))
    rw [same, barrierComplete_iff, h.cycle]
    exact Iff.rfl
  have cycle : t.cycle = (testBarrier v).cycle := by
    rw [← told]
    exact noted_cycle h marked
  refine ⟨fun complete => ?_, fun waits => ?_⟩
  · rw [cycle, testBarrier_of_complete starting' (met.1 complete)]
    exact ⟨rfl, rfl, rfl⟩
  · rw [cycle, testBarrier_of_open (Bool.eq_false_iff.2 fun complete => waits (met.2 complete)), h.cycle]

/-! ## Short travel -/

theorem noted_shortPower (short : ShortTravel p v) (role : s.role = some .power) (room : s.sched.reportOccupancy < Config.reportCapacity)
    (fits : s.sched.sliceOccupancy + (shortClosed s.power).length ≤ 8) :
    let t := settled s (notifyPeer p true v)
    t.cycle = { (s.heard ticks).cycle with state := .done, endKind := some .shortTravel } ∧
    t.sched.sliceQ = s.sched.sliceQ ++ chainFrames s s.power.link (shortClosed s.power) ∧
    t.sched.reportQ = s.sched.reportQ ++ [cycleSummaryFrame t] ∧ t.power.inbox = [] ∧ t.power.current = none ∧
    t.power.command = 0 ∧ t.power.setpoint = some 0 ∧ t.fault = s.fault := by
  intro t
  have told := peerTold_shortPower short (h.role.trans role)
  have fits' : (shortClosed v.power).length ≤ sliceRoom v := by
    rw [h.power, sliceRoom, h.sched]
    show _ ≤ 8 - s.sched.sliceOccupancy
    omega
  have room' : v.sched.reportOccupancy < Config.reportCapacity := by
    rw [h.sched]
    exact room
  obtain ⟨cycle, sliceQ, reportQ, inbox, current, command, setpoint, fault⟩ :=
    shortTravelPower_spec (h.role.trans role) short.scanning h.still fits' room'
  obtain ⟨slices, reports⟩ := noted_queues h marked
  have power := noted_power h marked
  have summary := noted_summary h marked
  rw [told] at slices reports power summary
  refine ⟨?_, ?_, ?_, ?_, ?_, ?_, ?_, ?_⟩
  · rw [noted_cycle h marked, told, cycle, h.cycle]
  · rw [slices, sliceQ, h.sched, h.power]
    exact congrArg (s.sched.sliceQ ++ ·) (chainFrames_congr h.loader h.settings h.number _ _)
  · rw [reports, reportQ, summary, h.sched]
    rfl
  · rw [power, inbox]
  · rw [power, current]
  · rw [power, command]
  · rw [power, setpoint]
  · rw [noted_fault h marked, told, fault, h.fault]

theorem noted_shortQuench_again (short : ShortTravel p v) (role : s.role = some .quench) (runout : s.quench.runout = true) :
    (settled s (notifyPeer p true v)).quench = (s.heard ticks).quench ∧
      (settled s (notifyPeer p true v)).cycle = (s.heard ticks).cycle := by
  have told := peerTold_shortQuench short (h.role.trans role)
  rw [shortTravelQuench_of_runout (by rw [h.quench]; exact runout)] at told
  rw [noted_quench h marked, noted_cycle h marked, told, h.quench, h.cycle]
  exact ⟨rfl, rfl⟩

theorem noted_shortQuench_done (short : ShortTravel p v) (role : s.role = some .quench) (rests : s.quench.runout = false)
    (empty : s.quench.entries = []) (soak : s.quench.soak = none) (room : s.sched.reportOccupancy < Config.reportCapacity) :
    let t := settled s (notifyPeer p true v)
    t.cycle = { (s.heard ticks).cycle with state := .done, endKind := some .shortTravel } ∧
    t.quench.spray = false ∧ t.quench.openTime = none ∧ t.quench.pulse = s.quench.pulse ∧
    t.quench.pulseTimer = (s.heard ticks).quench.pulseTimer ∧
    t.sched.reportQ = s.sched.reportQ ++ [cycleSummaryFrame t] ∧ t.fault = s.fault := by
  intro t
  have idle : v.quench.soak = none := by
    rw [h.quench]
    exact congrArg (Timer.pass ticks) soak
  have room' : v.sched.reportOccupancy < Config.reportCapacity := by
    rw [h.sched]
    exact room
  have on : v.onLine = true := by simp [onLine_iff, short.scanning]
  have told : peerTold p v =
      (markDone .shortTravel v).setSched { v.sched with reportQ := v.sched.reportQ ++ [cycleSummaryFrame (markDone .shortTravel v)] } := by
    rw [peerTold_shortQuench short (h.role.trans role),
      shortTravelQuench_of_idle (by rw [h.quench]; exact rests) (by rw [h.quench]; exact empty) idle, enterDone_of_waits _ on h.still room']
  have quench := noted_quench h marked
  obtain ⟨-, -, -, pulse, pulseTimer, -, -⟩ := limitSpray_stands .done v.quench
  rw [told, State.setSched_quench, markDone_quench] at quench
  refine ⟨?_, ?_, ?_, ?_, ?_, ?_, ?_⟩
  · rw [noted_cycle h marked, told, State.setSched_cycle, markDone_cycle, h.cycle]
  · rw [quench]
    rfl
  · rw [quench]
    rfl
  · rw [quench]
    exact pulse.trans (by rw [h.quench]; rfl)
  · rw [quench]
    exact pulseTimer.trans (by rw [h.quench])
  · rw [(noted_queues h marked).2, noted_summary h marked, told]
    rw [cycleSummaryFrame_queued (by rw [markDone_sched]), State.setSched_sched, h.sched]
    rfl
  · rw [noted_fault h marked, told, State.setSched_fault, markDone_fault, h.fault]

theorem noted_shortQuench_waits (short : ShortTravel p v) (role : s.role = some .quench) (rests : s.quench.runout = false)
    (empty : s.quench.entries = []) (soak : s.quench.soak ≠ none) :
    let t := settled s (notifyPeer p true v)
    t.quench = { (s.heard ticks).quench with runout := true } ∧ t.cycle = (s.heard ticks).cycle ∧ t.sched = (s.heard ticks).sched ∧
      t.fault = s.fault := by
  intro t
  have runs : v.quench.soak ≠ none := by
    rw [h.quench]
    intro none_
    cases soaks : s.quench.soak with
    | none => exact soak soaks
    | some left =>
      have passed : Timer.pass ticks s.quench.soak = none := none_
      rw [soaks] at passed
      cases passed
  have told : peerTold p v = v.setQuench { v.quench with runout := true } := by
    rw [peerTold_shortQuench short (h.role.trans role),
      shortTravelQuench_of_busy (by rw [h.quench]; exact rests) (fun idle => runs idle.2)]
    have nothing : v.quench.entries = [] := by
      rw [h.quench]
      exact empty
    rw [nothing]
    rfl
  have w : notifyPeer p true v = notifyTravel p (v.setQuench { v.quench with runout := true }) := by
    rw [noted_told h marked, told]
  have wrote := writes_notifyTravel p (v.setQuench { v.quench with runout := true })
  have cycle : (notifyPeer p true v).cycle = (advance ticks s).cycle := by
    rw [w]
    exact (wrote.2 .cycle (by decide)).trans h.cycle
  have store : (notifyPeer p true v).store = s.store := by
    rw [w]
    exact (wrote.2 .store (by decide)).trans (h.writes.2 .store (by decide))
  refine ⟨?_, ?_, ?_, ?_⟩
  · rw [noted_quench h marked, told, State.setQuench_quench, h.quench]
  · rw [settled_cycle]
    exact cycle
  · show (settled s (notifyPeer p true v)).sched = _
    rw [settled_eq (n := ticks) cycle store, w]
    exact (wrote.2 .sched (by decide)).trans h.sched
  · rw [noted_fault h marked, told, State.setQuench_fault, h.fault]

theorem noted_shortQuench_judges (short : ShortTravel p v) (role : s.role = some .quench) (rests : s.quench.runout = false)
    (listed : s.quench.entries ≠ []) (mild : Mild s) :
    let t := settled s (notifyPeer p true v)
    t.cycle = (s.heard ticks).cycle ∧ t.quench.runout = true ∧ t.quench.entries = [] ∧
    t.quench.judged = s.quench.entries.getLast?.map (·.slice) ∧
    t.quench.nJudged = s.quench.nJudged + s.quench.entries.length ∧
    t.quench.nRejected = s.quench.nRejected + s.quench.entries.length ∧ t.quench.nGood = s.quench.nGood ∧
    t.quench.soak = some (s.settings.soakTime * 20000) := by
  intro t
  let x := v.setQuench { v.quench with runout := true }
  have entries : v.quench.entries = s.quench.entries := by
    rw [h.quench]
    rfl
  have told : peerTold p v = judgeAll s.quench.entries x := by
    rw [peerTold_shortQuench short (h.role.trans role),
      shortTravelQuench_of_busy (by rw [h.quench]; exact rests) (fun idle => listed (entries.symm.trans idle.1)), entries]
  obtain ⟨wrote, engine⟩ := judgeAll_spec (t := x) s.quench.entries entries short.scanning (mild_of_settings h.settings mild)
  have quench : t.quench = allJudged s.quench.entries x := by
    rw [← engine, ← told]
    exact noted_quench h marked
  have x_quench : x.quench = { (s.heard ticks).quench with runout := true } := by rw [← h.quench]; rfl
  have x_settings : x.settings = s.settings := h.settings
  rw [quench, allJudged, x_quench, x_settings, if_neg listed]
  refine ⟨?_, rfl, rfl, ?_, rfl, rfl, rfl, rfl⟩
  · rw [noted_cycle h marked, told]
    exact (wrote.2 .cycle (by decide)).trans h.cycle
  · obtain ⟨e, last⟩ : ∃ e, s.quench.entries.getLast? = some e := ⟨_, List.getLast?_eq_some_getLast listed⟩
    rw [last]
    rfl

end

end Sys2Proof.Machine
end

section
/-! JOIN and BEACON (O55), put together. -/

namespace Sys2Proof.Machine

variable {s t u v : State} {p : Peer} {n : StationNo} {ticks : Nat}

/-! ## What the tracker makes of a beacon -/

theorem writes_trackTravel (n : StationNo) (b : BeaconFields) (t : State) : Writes [.tracker] t (trackTravel n b t) := by
  unfold trackTravel
  split
  · exact writes_setTracker _ t
  · exact writes_refl _ t

theorem trackTravel_of_tracked {b : BeaconFields} (travel : b.role = .travel) (role : t.role ≠ some .travel)
    (tracked : t.tracker.tracked = none ∨ t.tracker.tracked = some n) : trackTravel n b t = takeRecordOf n b t := by
  refine if_pos ⟨travel, role, ?_⟩
  rcases tracked with e | e <;> rw [e] <;> rfl

theorem trackTravel_of_other {b : BeaconFields}
    (other : b.role ≠ .travel ∨ t.role = some .travel ∨ ∃ m, t.tracker.tracked = some m ∧ m ≠ n) : trackTravel n b t = t := by
  refine if_neg ?_
  rintro ⟨travel, role, same⟩
  rcases other with e | e | ⟨m, tracked, apart⟩
  · exact e travel
  · exact role e
  · rw [tracked] at same
    exact apart same

/-! ## BEACON -/

/-- The state in which the blocks are told of a beacon. -/
def beaconNoted (n : StationNo) (b : BeaconFields) (u : State) : State :=
  trackTravel n b (testConflict .beacon n b.role b.stage (entryIn (beaconEntry u n b) u))

theorem exec_beacon {f : Rx} {b : BeaconFields} (on : s.cycle.state ≠ .offline) (top : f.source ≠ 15)
    (arrives : Arrives .beacon f s) (read : beaconOf f.words = some b) :
    exec (.beacon ticks f) s = .next (settled s
      (notifyPeer (beaconEntry (s.heard ticks) f.source b) true (beaconNoted f.source b (s.heard ticks)))) := by
  have tables := tablesNumber_of_arrives ticks arrives (by decide) on top
  have taken : takeBeaconWords f.source f.words (s.heard ticks) =
      notifyPeer (beaconEntry (s.heard ticks) f.source b) true (beaconNoted f.source b (s.heard ticks)) := by
    unfold takeBeaconWords
    rw [read]
    exact if_pos tables
  obtain ⟨good, other, accepted, hears⟩ := arrives
  have whole := receive_of_accepted (act := takeBeaconWords f.source f.words) (s := advance ticks s) good other accepted hears
  rw [if_pos (.inl rfl)] at whole
  exact congrArg (settle s) (whole.trans taken)

/-- Where no role conflicts the blocks are told of the entry in the table. -/
theorem noted_of_beacon {b : BeaconFields} (tables : (s.heard ticks).tablesNumber n = true)
    (apart : conflicts s n b.role b.stage = false) :
    Noted ticks s (beaconEntry (s.heard ticks) n b) (beaconNoted n b (s.heard ticks)) := by
  refine ⟨?_, tables, rfl⟩
  rw [beaconNoted, testConflict_of_not (n := n) ((conflicts_entryIn rfl _ _).trans apart)]
  exact writes_trackTravel _ _ _

/-- Table, tracker and role conflicts at a beacon. -/
theorem beacon_table {b : BeaconFields} :
    let u := s.heard ticks
    let p := beaconEntry u n b
    let t := settled s (notifyPeer p true (beaconNoted n b u))
    (∀ m, m ≠ n → t.peer m = u.peer m) ∧ t.peer n = some p ∧
    (b.role = .travel → s.role ≠ some .travel → (s.tracker.tracked = none ∨ s.tracker.tracked = some n) →
      t.tracker = { u.tracker with
        tracked := some n, coastExpired := false, coastTimer := some (s.settings.coastLimit * 20000)
        last := some { position := min 300000 b.position, speed := min 5000 b.speed, time := u.clock.time } }) ∧
    ((b.role ≠ .travel ∨ s.role = some .travel ∨ ∃ m, s.tracker.tracked = some m ∧ m ≠ n) → t.tracker = u.tracker) ∧
    (conflicts s n b.role b.stage = true → s.isMasked .roleConflict = false → t.isLatched .roleConflict = true) := by
  intro u p t
  let x := testConflict .beacon n b.role b.stage (entryIn p u)
  let v := trackTravel n b x
  have tested : Writes reportBlocks (entryIn p u) x := writes_testConflict _ _ _ _ _
  have tracks : Writes [.tracker] x v := writes_trackTravel n b x
  have told : Writes reportBlocks v (notifyPeer p true v) := writes_notifyPeer _ _ _
  have peers : t.peers = (entryIn p u).peers :=
    (settled_peers _ _).trans ((told.2 .peers (by decide)).trans ((tracks.2 .peers (by decide)).trans (tested.2 .peers (by decide))))
  have entries (m : StationNo) : t.peer m = if n = m then some p else u.peer m := peer_of_entryIn rfl peers m
  have tracker : t.tracker = v.tracker := (settled_tracker _ _).trans (told.2 .tracker (by decide))
  have role : x.role = s.role := role_of_loader (tested.2 .loader (by decide))
  have held : x.tracker = u.tracker := tested.2 .tracker (by decide)
  have clock : x.clock = u.clock := tested.2 .clock (by decide)
  have settings : x.settings = s.settings := tested.2 .settings (by decide)
  refine ⟨fun m apart => (entries m).trans (if_neg (Ne.symm apart)), (entries n).trans (if_pos rfl), fun travel other tracked => ?_,
    fun other => ?_, fun clash mask => ?_⟩
  · have taken : v = takeRecordOf n b x :=
      trackTravel_of_tracked travel (by rw [role]; exact other) (by rw [held]; exact tracked)
    rw [tracker, taken, takeRecordOf, State.setTracker_tracker, held, clock, settings]
    rfl
  · have stays : v = x := trackTravel_of_other (by rw [role, held]; exact other)
    rw [tracker, stays, held]
  · have latched : x.isLatched .roleConflict = true := testConflict_latched ((conflicts_entryIn rfl _ _).trans clash) mask
    rw [settled_isLatched]
    exact notifyPeer_isLatched ((isLatched_of_fault (tracks.2 .fault (by decide)) _).trans latched)

/-- The tool offset of the sender's last JOIN, which time leaves. -/
theorem heard_joinOffset (n : StationNo) : ((s.heard ticks).peer n).bind (·.joinOffset) = (s.peer n).bind (·.joinOffset) := by
  rw [heard_peer]
  cases s.peer n <;> rfl

theorem beacon_frame (ticks : Nat) (f : Rx) (s : State) (on : s.cycle.state ≠ .offline) (top : f.source ≠ 15) (b : BeaconFields)
    (arrives : Arrives .beacon f s) (read : beaconOf f.words = some b) :
    let u := s.heard ticks
    let inRoster := s.inRoster f.source = true
    let clash := conflicts s f.source b.role b.stage = true
    let aborts := b.state = .aborted ∧ b.cycle = s.cycle.number ∧ s.inCycle = true
    let short := inRoster ∧ b.role = .travel ∧ b.state = .done ∧ b.cycle = s.cycle.number ∧ s.cycle.state = .scanning
    ∃ t, exec (.beacon ticks f) s = .next t ∧ (∀ m, m ≠ f.source → t.peer m = u.peer m) ∧
      t.peer f.source = some (beaconEntry u f.source b) ∧
      (b.role = .travel → s.role ≠ some .travel → (s.tracker.tracked = none ∨ s.tracker.tracked = some f.source) →
        t.tracker = { u.tracker with
          tracked := some f.source, coastExpired := false, coastTimer := some (s.settings.coastLimit * 20000)
          last := some { position := min 300000 b.position, speed := min 5000 b.speed, time := u.clock.time } }) ∧
      ((b.role ≠ .travel ∨ s.role = some .travel ∨ ∃ n, s.tracker.tracked = some n ∧ n ≠ f.source) →
        t.tracker = u.tracker) ∧
      (clash → s.isMasked .roleConflict = false → t.isLatched .roleConflict = true) ∧
      (¬ clash → ¬ inRoster →
        t.cycle = u.cycle ∧ t.fault = s.fault ∧ t.power = s.power ∧ t.travel = u.travel ∧ t.quench = u.quench) ∧
      (¬ clash → inRoster → s.role = some .travel → t.travel.target = travelTarget t) ∧
      (¬ clash → inRoster → aborts → t.cycle.state = .aborted ∧ t.fault.cause = some (.abortFrom f.source) ∧
        (s.role = some .travel → t.travel.spindleHold = !t.spindleReleased)) ∧
      (¬ clash → inRoster → ¬ aborts → t.travel.spindleHold = (s.travel.spindleHold && !t.spindleReleased)) ∧
      (¬ clash → inRoster → ¬ aborts → s.cycle.state = .starting →
        (BarrierMet t s.cycle.number s.cycle.roster →
          t.cycle.state = .scanning ∧ t.cycle.startTimer = none ∧ t.cycle.scanTenths = 0) ∧
        (¬ BarrierMet t s.cycle.number s.cycle.roster → t.cycle = u.cycle)) ∧
      (¬ clash → short → s.role = some .power → s.sched.reportOccupancy < Config.reportCapacity →
        s.sched.sliceOccupancy + (shortClosed s.power).length ≤ 8 →
        t.cycle = { u.cycle with state := .done, endKind := some .shortTravel } ∧
        t.sched.sliceQ = s.sched.sliceQ ++ chainFrames s s.power.link (shortClosed s.power) ∧
        t.sched.reportQ = s.sched.reportQ ++ [cycleSummaryFrame t] ∧ t.power.inbox = [] ∧ t.power.current = none ∧
        t.power.command = 0 ∧ t.power.setpoint = some 0 ∧ t.fault = s.fault) ∧
      (¬ clash → short → s.role = some .quench → s.quench.runout = true → t.quench = u.quench ∧ t.cycle = u.cycle) ∧
      (¬ clash → short → s.role = some .quench → s.quench.runout = false →
        (s.quench.entries = [] → s.quench.soak = none → s.sched.reportOccupancy < Config.reportCapacity →
          t.cycle = { u.cycle with state := .done, endKind := some .shortTravel } ∧
          t.quench.spray = false ∧ t.quench.openTime = none ∧ t.quench.pulse = s.quench.pulse ∧
          t.quench.pulseTimer = u.quench.pulseTimer ∧
          t.sched.reportQ = s.sched.reportQ ++ [cycleSummaryFrame t] ∧ t.fault = s.fault) ∧
        (s.quench.entries = [] → s.quench.soak ≠ none →
          t.quench = { u.quench with runout := true } ∧ t.cycle = u.cycle ∧ t.sched = u.sched ∧ t.fault = s.fault) ∧
        (s.quench.entries ≠ [] → s.isFatal .sliceReject = false → s.isFatal .txOverflow = false →
          t.cycle = u.cycle ∧ t.quench.runout = true ∧ t.quench.entries = [] ∧
          t.quench.judged = s.quench.entries.getLast?.map (·.slice) ∧
          t.quench.nJudged = s.quench.nJudged + s.quench.entries.length ∧
          t.quench.nRejected = s.quench.nRejected + s.quench.entries.length ∧ t.quench.nGood = s.quench.nGood ∧
          t.quench.soak = some (s.settings.soakTime * 20000))) := by
  intro u inRoster clash aborts short
  let p := beaconEntry u f.source b
  let v := beaconNoted f.source b u
  obtain ⟨others, entry, tracked, untracked, latches⟩ := beacon_table (s := s) (ticks := ticks) (n := f.source) (b := b)
  have noted (apart : ¬ clash) : Noted ticks s p v :=
    noted_of_beacon (tablesNumber_of_arrives ticks arrives (by decide) on top) (Bool.eq_false_iff.2 apart)
  have shortened (apart : ¬ clash) (h : short) : inRoster ∧ ShortTravel p v := by
    obtain ⟨marked, travel, done, number, scanning⟩ := h
    have at_ := noted apart
    exact ⟨marked, at_.state.trans scanning, travel, done, show b.cycle = _ by rw [at_.number]; exact number⟩
  refine ⟨settled s (notifyPeer p true v), exec_beacon on top arrives read, others, entry, tracked, untracked, latches,
    fun apart other => ?_, fun apart marked => noted_target (noted apart) marked, fun apart marked => noted_aborted (noted apart) marked,
    fun apart marked => noted_held (noted apart) marked, fun apart marked => noted_starting (noted apart) marked,
    fun apart h role room fits => noted_shortPower (noted apart) h.1 (shortened apart h).2 role room fits,
    fun apart h role => noted_shortQuench_again (noted apart) h.1 (shortened apart h).2 role, fun apart h role rests => ⟨?_, ?_, ?_⟩⟩
  · have at_ := noted apart
    have quiet : notifyPeer p true v = v := noted_other at_ other
    rw [settled_cycle, settled_fault, settled_power, settled_travel, settled_quench, quiet]
    exact ⟨at_.cycle, at_.fault, at_.power, at_.travel, at_.quench⟩
  · exact noted_shortQuench_done (noted apart) h.1 (shortened apart h).2 role rests
  · exact noted_shortQuench_waits (noted apart) h.1 (shortened apart h).2 role rests
  · exact fun listed reject overflow => noted_shortQuench_judges (noted apart) h.1 (shortened apart h).2 role rests listed ⟨reject, overflow⟩

/-- Settles O55. -/
theorem joinAndBeaconFrames : Obligations.JoinAndBeaconFrames := by
  refine ⟨conflicts_iff, fun ticks f s on other top => ?_⟩
  intro u others inRoster held
  constructor
  · intro j arrives read
    exact join_frame ticks f s on top j arrives read
  · intro b arrives read clash aborts short
    obtain ⟨t, run, others', entry, tracked, untracked, latches, stranger, target, abort, holds, starting, shortPower, rest⟩ :=
      beacon_frame ticks f s on top b arrives read
    rw [beaconEntry, heard_joinOffset] at entry
    refine ⟨t, run, others', entry, tracked, untracked, latches, stranger, target, abort, holds, starting,
      fun apart h role room => ?_, rest⟩
    intro open_ left closed fits
    have whole : closed = shortClosed s.power := shortClosed_eq s.power
    rw [whole] at fits ⊢
    exact shortPower apart h role room fits

end Sys2Proof.Machine
end

section
/-! Frames on the scan line (O60): bits and values, sync bits, the CRC register. -/

namespace Sys2Proof.Machine

/-! ## Values sent most significant first -/

theorem length_bitsMsb (n v : Nat) : (bitsMsb n v).length = n := by simp [bitsMsb]

theorem bitsMsb_succ (n v : Nat) : bitsMsb (n + 1) v = bitsMsb n (v / 2) ++ [v.testBit 0] := by
  rw [bitsMsb, List.range_succ, List.map_append, bitsMsb]
  have last : v.testBit (n + 1 - 1 - n) = v.testBit 0 := by rw [Nat.add_sub_cancel, Nat.sub_self]
  rw [List.map_singleton, last]
  congr 1
  refine List.map_congr_left fun i mem => ?_
  have lt := List.mem_range.1 mem
  rw [← Nat.testBit_succ]
  congr 1
  omega

theorem valueMsb_append (xs : List Bool) (b : Bool) : valueMsb (xs ++ [b]) = 2 * valueMsb xs + b.toNat := List.foldl_concat ..

theorem valueMsb_bitsMsb (n v : Nat) : valueMsb (bitsMsb n v) = v % 2 ^ n := by
  induction n generalizing v with
  | zero => simp [valueMsb, bitsMsb, Nat.mod_one]
  | succ n ih =>
    have low : (v.testBit 0).toNat = v % 2 := by
      rw [Nat.testBit_zero]
      rcases Nat.mod_two_eq_zero_or_one v with e | e <;> simp [e]
    rw [bitsMsb_succ, valueMsb_append, ih, low, Nat.pow_succ', Nat.mod_mul]
    omega

/-- Equally many bits of one value are the same bits. -/
theorem valueMsb_inj {xs ys : List Bool} (length : xs.length = ys.length) (same : valueMsb xs = valueMsb ys) : xs = ys := by
  induction xs using List.reverseRecOn generalizing ys with
  | nil => exact (List.length_eq_zero_iff.1 length.symm).symm
  | append_singleton xs b ih =>
    rcases List.eq_nil_or_concat ys with rfl | ⟨ys, c, rfl⟩
    · simp at length
    rw [List.concat_eq_append] at same length ⊢
    rw [valueMsb_append, valueMsb_append] at same
    have low := Bool.toNat_le b
    have low' := Bool.toNat_le c
    have bits : b.toNat = c.toNat := by omega
    obtain rfl : b = c := Bool.eq_iff_iff.2 (by rw [← Bool.toNat_eq_one, ← Bool.toNat_eq_one, bits])
    rw [ih (by simpa using length) (by omega)]

/-! ## Sync bits -/

theorem addSync_last (b : Bool) (rest : List Bool) : addSync 7 (b :: rest) = b :: (!b) :: addSync 0 rest := if_pos rfl

theorem addSync_inner {n : Nat} (inner : n < 7) (b : Bool) (rest : List Bool) : addSync n (b :: rest) = b :: addSync (n + 1) rest :=
  if_neg (by omega)

theorem dropSync_sync (last b : Bool) (rest : List Bool) :
    dropSync 8 last (b :: rest) = if b = last then none else dropSync 0 b rest := if_pos rfl

theorem dropSync_inner {n : Nat} (inner : n < 8) (last b : Bool) (rest : List Bool) :
    dropSync n last (b :: rest) = (dropSync (n + 1) b rest).map (b :: ·) := if_neg (by omega)

/-- Of bits sent in a group the sync bits stand after every eighth. -/
theorem addSync_append {n : Nat} (lt : n < 8) (xs ys : List Bool) :
    addSync n (xs ++ ys) = addSync n xs ++ addSync ((n + xs.length) % 8) ys := by
  induction xs generalizing n with
  | nil => rw [List.length_nil, Nat.add_zero, Nat.mod_eq_of_lt lt]; rfl
  | cons b rest ih =>
    rw [List.cons_append, List.length_cons]
    rcases Nat.lt_or_eq_of_le (Nat.le_of_lt_succ lt) with inner | rfl
    · rw [addSync_inner inner, addSync_inner inner, ih (by omega), List.cons_append]
      congr 4
      omega
    · rw [addSync_last, addSync_last, ih (by omega), List.cons_append, List.cons_append]
      have rests : (0 + rest.length) % 8 = (7 + (rest.length + 1)) % 8 := by omega
      rw [rests]

theorem length_addSync {n : Nat} (lt : n < 8) (xs : List Bool) : (addSync n xs).length = xs.length + (n + xs.length) / 8 := by
  induction xs generalizing n with
  | nil => simp [addSync, Nat.div_eq_of_lt lt]
  | cons b rest ih =>
    rcases Nat.lt_or_eq_of_le (Nat.le_of_lt_succ lt) with inner | rfl
    · rw [addSync_inner inner, List.length_cons, List.length_cons, ih (by omega)]
      omega
    · rw [addSync_last, List.length_cons, List.length_cons, List.length_cons, ih (by omega)]
      omega

/-- The sync bits of whole content are recognised and dropped. -/
theorem dropSync_addSync {n : Nat} (lt : n < 8) (last : Bool) (xs : List Bool) : dropSync n last (addSync n xs) = some xs := by
  induction xs generalizing n last with
  | nil => rfl
  | cons b rest ih =>
    rcases Nat.lt_or_eq_of_le (Nat.le_of_lt_succ lt) with inner | rfl
    · rw [addSync_inner inner, dropSync_inner lt, ih (by omega)]
      rfl
    · rw [addSync_last, dropSync_inner lt, dropSync_sync, if_neg (Bool.not_ne_self b), ih (by omega)]
      rfl

theorem tenRecessive_cons {run : Nat} (few : run < 10) (b : Bool) (rest : List Bool) :
    tenRecessive run (b :: rest) = if b then tenRecessive (run + 1) rest else tenRecessive 0 rest := by
  rw [tenRecessive, decide_eq_false (by omega), Bool.false_or]

/-- With their sync bits no ten recessive bits follow one another. -/
theorem tenRecessive_addSync {n run : Nat} (lt : n < 8) (few : run ≤ n + 1) (xs : List Bool) : tenRecessive run (addSync n xs) = false := by
  induction xs generalizing n run with
  | nil => exact decide_eq_false (by omega)
  | cons b rest ih =>
    rcases Nat.lt_or_eq_of_le (Nat.le_of_lt_succ lt) with inner | rfl
    · rw [addSync_inner inner, tenRecessive_cons (by omega)]
      cases b
      · exact ih (by omega) (by omega)
      · exact ih (by omega) (by omega)
    · rw [addSync_last, tenRecessive_cons (by omega)]
      cases b
      · exact ih (by omega) (by omega)
      · exact (tenRecessive_cons (by omega) _ _).trans (ih (by omega) (by omega))

/-- A bit changed among bits and sync bits fails FRAMING, or it is a changed bit of the content. -/
theorem dropSync_modify {n j : Nat} (lt : n < 8) (last : Bool) (xs : List Bool) (within : j < (addSync n xs).length) :
    dropSync n last ((addSync n xs).modify j (!·)) = none ∨
      ∃ k, k < xs.length ∧ j = k + (n + k) / 8 ∧ dropSync n last ((addSync n xs).modify j (!·)) = some (xs.modify k (!·)) := by
  induction xs generalizing n j last with
  | nil => simp [addSync] at within
  | cons b rest ih =>
    rcases Nat.lt_or_eq_of_le (Nat.le_of_lt_succ lt) with inner | rfl
    · rw [addSync_inner inner] at within ⊢
      cases j with
      | zero =>
        refine .inr ⟨0, by simp, by omega, ?_⟩
        rw [List.modify_zero_cons, dropSync_inner lt, dropSync_addSync (by omega), List.modify_zero_cons]
        rfl
      | succ j =>
        rw [List.modify_succ_cons, dropSync_inner lt]
        rcases ih (n := n + 1) (j := j) (by omega) b (by simpa using within) with fails | ⟨k, inside, at_, kept⟩
        · exact .inl (by rw [fails]; rfl)
        · refine .inr ⟨k + 1, by simpa using inside, by omega, ?_⟩
          rw [kept, List.modify_succ_cons]
          rfl
    · rw [addSync_last] at within ⊢
      match j with
      | 0 =>
        refine .inl ?_
        rw [List.modify_zero_cons, dropSync_inner lt, dropSync_sync, if_pos rfl]
        rfl
      | 1 =>
        refine .inl ?_
        rw [List.modify_succ_cons, List.modify_zero_cons, dropSync_inner lt, dropSync_sync, if_pos (Bool.not_not b)]
        rfl
      | j + 2 =>
        rw [List.modify_succ_cons, List.modify_succ_cons, dropSync_inner lt, dropSync_sync, if_neg (Bool.not_ne_self b)]
        rcases ih (n := 0) (j := j) (by omega) (!b) (by simpa using within) with fails | ⟨k, inside, at_, kept⟩
        · exact .inl (by rw [fails]; rfl)
        · refine .inr ⟨k + 1, by simpa using inside, by omega, ?_⟩
          rw [kept, List.modify_succ_cons]
          rfl

/-! ## The CRC register -/

/-- The places of the polynomial's terms. -/
theorem polynomial_bit {i : Nat} (lt : i < 16) : (0x1021#16).getLsbD i = decide (i = 0 ∨ i = 5 ∨ i = 12) := by
  have every : ∀ i : Fin 16, (0x1021#16).getLsbD i = decide ((i : Nat) = 0 ∨ (i : Nat) = 5 ∨ (i : Nat) = 12) := by decide
  exact every ⟨i, lt⟩

theorem crcStep_bit (reg : BitVec 16) (b : Bool) {i : Nat} (lt : i < 16) :
    (crcStep reg b).getLsbD i =
      ((decide (0 < i) && reg.getLsbD (i - 1)) != (decide (i = 0 ∨ i = 5 ∨ i = 12) && (reg.getLsbD 15 != b))) := by
  have shifted : (reg <<< 1).getLsbD i = (decide (0 < i) && reg.getLsbD (i - 1)) := by
    rw [BitVec.getLsbD_shiftLeft, decide_eq_true lt, Bool.true_and]
    cases i <;> simp
  have top : reg.msb = reg.getLsbD 15 := BitVec.msb_eq_getLsbD_last reg
  unfold crcStep
  rw [top]
  cases feedback : reg.getLsbD 15 != b with
  | true => rw [if_pos rfl, BitVec.getLsbD_xor, shifted, polynomial_bit lt, Bool.and_true]
  | false => rw [if_neg Bool.false_ne_true, shifted, Bool.and_false, Bool.bne_false]

/-- The feedback is the lowest bit of the register that it leaves. -/
theorem crcStep_feedback (reg : BitVec 16) (b : Bool) : (crcStep reg b).getLsbD 0 = (reg.getLsbD 15 != b) := by
  rw [crcStep_bit reg b (by decide)]
  simp

theorem crcStep_reg_inj {r q : BitVec 16} {b : Bool} (same : crcStep r b = crcStep q b) : r = q := by
  have feedback : (r.getLsbD 15 != b) = (q.getLsbD 15 != b) := by rw [← crcStep_feedback, ← crcStep_feedback, same]
  refine BitVec.eq_of_getLsbD_eq fun i lt => ?_
  rcases Nat.lt_or_eq_of_le (Nat.le_of_lt_succ lt) with inner | rfl
  · have bits := congrArg (·.getLsbD (i + 1)) same
    have next : i + 1 < 16 := Nat.succ_lt_succ inner
    rw [crcStep_bit _ _ next, crcStep_bit _ _ next, feedback] at bits
    simpa only [Nat.add_sub_cancel, Nat.succ_pos, decide_true, Bool.true_and, Bool.bne_left_inj] using bits
  · simpa using feedback

theorem crcStep_bit_inj {r : BitVec 16} {b c : Bool} (same : crcStep r b = crcStep r c) : b = c := by
  have feedback : (r.getLsbD 15 != b) = (r.getLsbD 15 != c) := by rw [← crcStep_feedback, ← crcStep_feedback, same]
  simpa using feedback

theorem crc_foldl_inj {r q : BitVec 16} (bits : List Bool) (same : bits.foldl crcStep r = bits.foldl crcStep q) : r = q := by
  induction bits generalizing r q with
  | nil => exact same
  | cons b rest ih => exact crcStep_reg_inj (ih same)

/-- A changed bit changes the CRC. -/
theorem crc16_modify {bits : List Bool} {k : Nat} (within : k < bits.length) : crc16 (bits.modify k (!·)) ≠ crc16 bits := by
  intro same
  have whole : bits = bits.take k ++ bits[k] :: bits.drop (k + 1) := by rw [List.getElem_cons_drop, List.take_append_drop]
  rw [List.modify_eq_take_cons_drop within] at same
  conv_rhs at same => rw [whole]
  rw [crc16, crc16, List.foldl_append, List.foldl_append, List.foldl_cons, List.foldl_cons] at same
  exact Bool.not_ne_self _ (crcStep_bit_inj (crc_foldl_inj _ same))

end Sys2Proof.Machine
end

section
/-! Frames on the scan line (O60): a frame read whole, and one with a bit changed. -/

namespace Sys2Proof.Machine

/-! ## The fields of the content -/

/-- Header and payload, over which the CRC is taken. -/
def bodyBits (f : Frame) : List Bool := headerBits f ++ payloadBits f.words

theorem contentBits_eq (f : Frame) : contentBits f = bodyBits f ++ bitsMsb 16 (crc16 (bodyBits f)).toNat := rfl

theorem length_headerBits (f : Frame) : (headerBits f).length = 22 := by simp [headerBits, length_bitsMsb]

theorem length_payloadBits (ws : List Word) : (payloadBits ws).length = 16 * ws.length := by
  induction ws with
  | nil => rfl
  | cons w rest ih =>
    have step : payloadBits (w :: rest) = bitsMsb 16 w.toNat ++ payloadBits rest := rfl
    rw [step, List.length_append, length_bitsMsb, ih, List.length_cons]
    omega

theorem length_bodyBits (f : Frame) : (bodyBits f).length = 22 + 16 * f.words.length := by
  rw [bodyBits, List.length_append, length_headerBits, length_payloadBits]

theorem length_contentBits (f : Frame) : (contentBits f).length = contentLength f.words.length := by
  rw [contentBits_eq, List.length_append, length_bodyBits, length_bitsMsb, contentLength]
  omega

theorem contentField_at {first count : Nat} (xs ys : List Bool) (v : Nat) (at_ : xs.length = first) :
    contentField (xs ++ (bitsMsb count v ++ ys)) first count = v % 2 ^ count := by
  rw [contentField, List.drop_left' at_, List.take_left' (length_bitsMsb _ _), valueMsb_bitsMsb]

/-- The header's fields, whatever follows the header. -/
theorem header_fields (f : Frame) (rest : List Bool) :
    contentField (headerBits f ++ rest) 0 4 = classCode (classOf f.kind) % 16 ∧
    contentField (headerBits f ++ rest) 4 4 = f.source.toNat % 16 ∧
    contentField (headerBits f ++ rest) 8 4 = f.destination.toNat % 16 ∧
    contentField (headerBits f ++ rest) 12 6 = kindCode f.kind % 64 ∧
    contentField (headerBits f ++ rest) 18 4 = f.words.length % 16 := by
  let a := bitsMsb 4 (classCode (classOf f.kind))
  let b := bitsMsb 4 f.source.toNat
  let c := bitsMsb 4 f.destination.toNat
  let d := bitsMsb 6 (kindCode f.kind)
  let e := bitsMsb 4 f.words.length
  have header : headerBits f = a ++ b ++ c ++ d ++ e := rfl
  have length (n v : Nat) := length_bitsMsb n v
  rw [header]
  refine ⟨?_, ?_, ?_, ?_, ?_⟩
  · rw [show a ++ b ++ c ++ d ++ e ++ rest = [] ++ (a ++ (b ++ c ++ d ++ e ++ rest)) by simp]
    exact contentField_at [] _ _ rfl
  · rw [show a ++ b ++ c ++ d ++ e ++ rest = a ++ (b ++ (c ++ d ++ e ++ rest)) by simp]
    exact contentField_at a _ _ (length _ _)
  · rw [show a ++ b ++ c ++ d ++ e ++ rest = (a ++ b) ++ (c ++ (d ++ e ++ rest)) by simp]
    exact contentField_at (a ++ b) _ _ (by simp [a, b, length])
  · rw [show a ++ b ++ c ++ d ++ e ++ rest = (a ++ b ++ c) ++ (d ++ (e ++ rest)) by simp]
    exact contentField_at (a ++ b ++ c) _ _ (by simp [a, b, c, length])
  · rw [show a ++ b ++ c ++ d ++ e ++ rest = (a ++ b ++ c ++ d) ++ (e ++ rest) by simp]
    exact contentField_at (a ++ b ++ c ++ d) _ _ (by simp [a, b, c, d, length])

theorem kindOfCodes_of_kind (k : Kind) : kindOfCodes (classCode (classOf k) % 16) (kindCode k % 64) = some k := by
  cases k <;> decide

theorem wordsOfBits_payloadBits (ws : List Word) (rest : List Bool) : wordsOfBits ws.length (payloadBits ws ++ rest) = ws := by
  induction ws with
  | nil => rfl
  | cons w tail ih =>
    have step : payloadBits (w :: tail) ++ rest = bitsMsb 16 w.toNat ++ (payloadBits tail ++ rest) := List.append_assoc ..
    have word : BitVec.ofNat 16 (valueMsb (bitsMsb 16 w.toNat)) = w := by
      rw [valueMsb_bitsMsb, Nat.mod_eq_of_lt w.isLt, BitVec.ofNat_toNat, BitVec.setWidth_eq]
    rw [List.length_cons, wordsOfBits, step, List.take_left' (length_bitsMsb _ _), List.drop_left' (length_bitsMsb _ _), word, ih]

/-- At most twelve payload words pass the SIZE check. -/
theorem length_le_of_sizeOk {k : Kind} {ws : List Word} (size : sizeOk k ws = true) : ws.length ≤ 12 := by
  cases k
  case segment | beacon | cycleSummary =>
    simp only [sizeOk] at size
    split at size <;> simp only [beq_iff_eq, reduceCtorEq] at size <;> omega
  all_goals
    simp only [sizeOk, beq_iff_eq, Bool.or_eq_true] at size
    omega

/-! ## A reception -/

/-- The bits of the line that a frame takes are its content with the sync bits, whatever follows. -/
theorem length_line (f : Frame) : (addSync 0 (contentBits f)).length = lineLength f.words.length := by
  rw [length_addSync (by decide), length_contentBits, Nat.zero_add, lineLength]

theorem framed_addSync {n : Nat} {xs line : List Bool} (taken : line.take n = addSync 0 xs) : framed n line = some xs := by
  rw [framed, taken, tenRecessive_addSync (by decide) (by decide), if_neg Bool.false_ne_true, dropSync_addSync (by decide)]

/-- Bits with one changed are not framed, or they are content with one bit changed. -/
theorem framed_modify {n j : Nat} {xs line : List Bool} (taken : line.take n = (addSync 0 xs).modify j (!·))
    (within : j < (addSync 0 xs).length) :
    framed n line = none ∨ ∃ k, k < xs.length ∧ j = k + k / 8 ∧ framed n line = some (xs.modify k (!·)) := by
  rw [framed, taken]
  split
  · exact .inl rfl
  · simpa using dropSync_modify (by decide) true xs within

/-- The first 24 bits of a frame's line are its header and two sync bits. -/
theorem header_of_line (f : Frame) : (addSync 0 (contentBits f)).take headerLength = addSync 0 (headerBits f) := by
  have split : contentBits f = headerBits f ++ (payloadBits f.words ++ bitsMsb 16 (crc16 (bodyBits f)).toNat) := by
    rw [contentBits_eq, bodyBits, List.append_assoc]
  have length : (addSync 0 (headerBits f)).length = headerLength := by
    rw [length_addSync (by decide), length_headerBits]
    rfl
  rw [split, addSync_append (by decide), List.take_left' length]

theorem headerLength_le (l : Nat) : headerLength ≤ lineLength l := by
  unfold headerLength lineLength contentLength
  omega

theorem lengthField (f : Frame) (few : f.words.length ≤ 12) : contentField (headerBits f) 18 4 = f.words.length := by
  have field := (header_fields f []).2.2.2.2
  rw [List.append_nil, Nat.mod_eq_of_lt (by omega)] at field
  exact field

section
variable {line header : List Bool} {l : Nat} (read : framed headerLength line = some header)
  (field : contentField header 18 4 = l) (few : l ≤ 12)
include read field few

/-- Of a line whose header has been read and whose content is whole the CRC is checked. -/
theorem checkLine_of_framed {content : List Bool} (whole : framed (lineLength l) line = some content) :
    checkLine line = checkCrc l content := by
  have short : ¬ 12 < l := by omega
  unfold checkLine
  rw [read]
  dsimp only
  rw [field, if_neg short, whole]

theorem checkLine_of_unframed (broken : framed (lineLength l) line = none) : checkLine line = .discarded .framing := by
  have short : ¬ 12 < l := by omega
  unfold checkLine
  rw [read]
  dsimp only
  rw [field, if_neg short, broken]

end

/-- The checks on a frame's own content. -/
theorem checkContent_contentBits (f : Frame) (form : formOk f.kind f.source f.words = true) (size : sizeOk f.kind f.words = true) :
    checkContent (contentBits f) = .good f := by
  have few := length_le_of_sizeOk size
  obtain ⟨cls, source, destination, kind, length⟩ :=
    header_fields f (payloadBits f.words ++ bitsMsb 16 (crc16 (bodyBits f)).toNat)
  have split : contentBits f = headerBits f ++ (payloadBits f.words ++ bitsMsb 16 (crc16 (bodyBits f)).toNat) := by
    rw [contentBits_eq, bodyBits, List.append_assoc]
  have number (n : StationNo) : BitVec.ofNat 4 (n.toNat % 16) = n := by
    rw [Nat.mod_eq_of_lt n.isLt, BitVec.ofNat_toNat, BitVec.setWidth_eq]
  rw [Nat.mod_eq_of_lt (by omega)] at length
  unfold checkContent
  rw [split, cls, kind, kindOfCodes_of_kind]
  dsimp only
  rw [source, destination, length, number, number, List.drop_left' (length_headerBits f), wordsOfBits_payloadBits,
    form, size, if_neg (by decide), if_neg (by decide)]

theorem checkCrc_of_crc {f : Frame} {content : List Bool} :
    (contentField content (contentLength f.words.length - 16) 16 =
      (crc16 (content.take (contentLength f.words.length - 16))).toNat → checkCrc f.words.length content = checkContent content) ∧
    (contentField content (contentLength f.words.length - 16) 16 ≠
      (crc16 (content.take (contentLength f.words.length - 16))).toNat → checkCrc f.words.length content = .discarded .crc) :=
  ⟨fun same => if_pos same, fun other => if_neg other⟩

theorem bodyBits_length (f : Frame) : (bodyBits f).length = contentLength f.words.length - 16 := by
  rw [length_bodyBits, contentLength]
  omega

/-- A frame's CRC is that of its header and payload. -/
theorem checkCrc_contentBits (f : Frame) : checkCrc f.words.length (contentBits f) = checkContent (contentBits f) := by
  refine checkCrc_of_crc.1 ?_
  have field := contentField_at (count := 16) (bodyBits f) [] (crc16 (bodyBits f)).toNat (bodyBits_length f)
  rw [List.append_nil, Nat.mod_eq_of_lt (crc16 (bodyBits f)).isLt] at field
  rw [contentBits_eq, field, List.take_left' (bodyBits_length f)]

theorem modify_not_ne {bits : List Bool} {k : Nat} (within : k < bits.length) : bits.modify k (!·) ≠ bits := by
  intro same
  have at_ := congrArg (·[k]?) same
  simp [List.getElem?_modify_eq, List.getElem?_eq_getElem within] at at_

/-- Content with one bit changed fails the CRC check: its CRC bits are another value, or are the CRC of other bits. -/
theorem checkCrc_modify (f : Frame) {k : Nat} (within : k < (contentBits f).length) :
    checkCrc f.words.length ((contentBits f).modify k (!·)) = .discarded .crc := by
  refine checkCrc_of_crc.2 ?_
  let n := contentLength f.words.length - 16
  let crc := bitsMsb 16 (crc16 (bodyBits f)).toNat
  have length : (bodyBits f).length = n := bodyBits_length f
  have value : valueMsb crc = (crc16 (bodyBits f)).toNat := by
    rw [valueMsb_bitsMsb, Nat.mod_eq_of_lt (crc16 (bodyBits f)).isLt]
  have whole : crc.take 16 = crc := List.take_of_length_le (by rw [length_bitsMsb])
  have body : (contentBits f).take n = bodyBits f := by rw [contentBits_eq, List.take_left' length]
  have rest : (contentBits f).drop n = crc := by rw [contentBits_eq, List.drop_left' length]
  show valueMsb ((((contentBits f).modify k (!·)).drop n).take 16) ≠ (crc16 (((contentBits f).modify k (!·)).take n)).toNat
  rw [List.take_modify, body]
  rcases Nat.lt_or_ge k n with early | late
  · rw [List.drop_modify_of_lt _ _ _ _ early, rest, whole, value]
    exact fun same => crc16_modify (by rw [length]; exact early) (BitVec.eq_of_toNat_eq same.symm)
  · rw [List.drop_modify_of_ge _ _ _ _ late, rest, List.take_modify, whole, List.modify_eq_self (l := bodyBits f) (by rw [length]; exact late),
      ← value]
    have inside : k - n < crc.length := by
      rw [length_contentBits, contentLength] at within
      have size : n = 22 + 16 * f.words.length := length.symm.trans (length_bodyBits f)
      rw [length_bitsMsb]
      omega
    exact fun same => modify_not_ne inside (valueMsb_inj (List.length_modify _ _ _) same)

/-! ## O60 -/

theorem framed_lineLength (f : Frame) (tail : List Bool) :
    framed headerLength (addSync 0 (contentBits f) ++ tail) = some (headerBits f) ∧
    framed (lineLength f.words.length) (addSync 0 (contentBits f) ++ tail) = some (contentBits f) := by
  refine ⟨framed_addSync ?_, framed_addSync (List.take_left' (length_line f))⟩
  rw [List.take_append_of_le_length (by rw [length_line]; exact headerLength_le _), header_of_line]

theorem receiveBits_wireBits (f : Frame) (form : formOk f.kind f.source f.words = true) (size : sizeOk f.kind f.words = true) :
    receiveBits (wireBits f) = .good f := by
  have few := length_le_of_sizeOk size
  obtain ⟨header, content⟩ := framed_lineLength f (List.replicate (lineLength 12) true)
  show checkLine (addSync 0 (contentBits f) ++ List.replicate (lineLength 12) true) = _
  rw [checkLine_of_framed header (lengthField f few) few content]
  exact (checkCrc_contentBits f).trans (checkContent_contentBits f form size)

/-- The header with a bit changed that is none of its length field. -/
theorem lengthField_modify (f : Frame) (few : f.words.length ≤ 12) {k : Nat} (before : k < 18) :
    contentField ((headerBits f).modify k (!·)) 18 4 = f.words.length := by
  rw [contentField, List.drop_modify_of_lt _ _ _ _ before]
  exact lengthField f few

/-- The header of a line with one bit changed, the length field's apart, fails FRAMING or gives the length sent. -/
theorem header_modify (f : Frame) (few : f.words.length ≤ 12) {j : Nat} (apart : j < 20 ∨ 23 < j) (tail : List Bool) :
    let line := (addSync 0 (contentBits f)).modify j (!·) ++ tail
    framed headerLength line = none ∨
      ∃ header, framed headerLength line = some header ∧ contentField header 18 4 = f.words.length := by
  intro line
  have taken : line.take headerLength = (addSync 0 (headerBits f)).modify j (!·) := by
    rw [List.take_append_of_le_length (by rw [List.length_modify, length_line]; exact headerLength_le _), List.take_modify, header_of_line]
  have length : (addSync 0 (headerBits f)).length = 24 := by
    rw [length_addSync (by decide), length_headerBits]
  rcases apart with early | late
  · rcases framed_modify taken (by omega) with fails | ⟨k, -, at_, kept⟩
    · exact .inl fails
    · exact .inr ⟨_, kept, lengthField_modify f few (by omega)⟩
  · rw [List.modify_eq_self (l := addSync 0 (headerBits f)) (by omega)] at taken
    exact .inr ⟨_, framed_addSync taken, lengthField f few⟩

/-- A line with one bit changed is discarded. -/
theorem checkLine_modify (f : Frame) (few : f.words.length ≤ 12) {j : Nat} (within : j < lineLength f.words.length)
    (apart : j < 20 ∨ 23 < j) (tail : List Bool) :
    ∃ c, checkLine ((addSync 0 (contentBits f)).modify j (!·) ++ tail) = .discarded c := by
  rcases header_modify f few apart tail with fails | ⟨header, read, field⟩
  · refine ⟨.framing, ?_⟩
    unfold checkLine
    rw [fails]
  · have taken : ((addSync 0 (contentBits f)).modify j (!·) ++ tail).take (lineLength f.words.length) =
        (addSync 0 (contentBits f)).modify j (!·) := List.take_left' ((List.length_modify _ _ _).trans (length_line f))
    rcases framed_modify taken (by rw [length_line]; exact within) with fails | ⟨k, inside, -, kept⟩
    · exact ⟨.framing, checkLine_of_unframed read field few fails⟩
    · exact ⟨.crc, (checkLine_of_framed read field few kept).trans (checkCrc_modify f inside)⟩

theorem receiveBits_modify (f : Frame) (size : sizeOk f.kind f.words = true) {i : Nat} (within : i < (wireBits f).length)
    (apart : i < 21 ∨ 24 < i) : ∃ c, receiveBits ((wireBits f).modify i (!·)) = .discarded c := by
  cases i with
  | zero => exact ⟨.framing, rfl⟩
  | succ j =>
    have inside : j < lineLength f.words.length := by
      rw [← length_line]
      exact Nat.lt_of_succ_lt_succ within
    exact checkLine_modify f (length_le_of_sizeOk size) inside (by omega) _

theorem compareBits_self (i : Nat) (bits : List Bool) : compareBits i bits bits = .sentWhole := by
  induction bits generalizing i with
  | nil => rfl
  | cons b rest ih => exact (if_pos rfl).trans (ih (i + 1))

theorem length_wireBits (f : Frame) : (wireBits f).length = 1 + lineLength f.words.length := by
  rw [wireBits, List.length_cons, length_line, Nat.add_comm]

theorem crc16_append (bits : List Bool) (b : Bool) : crc16 (bits ++ [b]) = crcStep (crc16 bits) b := List.foldl_concat ..

/-- Settles O60. -/
theorem frameCrossesTheLine : Obligations.FrameCrossesTheLine := by
  refine ⟨rfl, fun bits b i lt => ?_, fun f i _ size within apart => receiveBits_modify f size within apart,
    fun f form size => ⟨receiveBits_wireBits f form size, compareBits_self _ _, ?_, ?_⟩⟩
  · rw [crc16_append]
    exact crcStep_bit _ b lt
  · rw [length_wireBits, bitTimes]
  · rw [length_wireBits, lineLength, contentLength, ← Nat.add_assoc]

end Sys2Proof.Machine
end
